-- ==== Sys2Proof/Word.lean ====
section
/-! DEFINITION. The word types of the G41: bytes, stamps, editions and register words (spec/00 section 7). -/

namespace Sys2Proof

/-- One byte of a record, of a card block or of an SPI transfer. -/
abbrev Byte := BitVec 8

/-- A stamp: the 48-bit Ride Clock count at an edge (R8). -/
abbrev Stamp := BitVec 48

/-- The 16-bit edition that frames an exchange record (R195, R196). -/
abbrev Edition := BitVec 16

/-- The contents of a 32-bit register (spec/12 section 12.2). -/
abbrev Word32 := BitVec 32

end Sys2Proof
end

