-- ==== Sys2Proof/Syntax.lean ====
section
/-! DEFINITION. The commands of the G41: one constructor of `Instr` for each row of spec/opcode_table.json, with the operands
that the row's rule says come from outside the part (log 4). -/

namespace Sys2Proof

/-- The two power inputs (R150). -/
inductive Input where
  | usb
  | aux
deriving DecidableEq, Repr

/-- What the gauge's senses read at a measurement (R169), with the input current the Charge Controller takes at the same
instant (spec/09 section 9.4). `temperature` is `none` when the thermistor is OPEN. -/
structure Readings where
  current : Int
  vbat : Nat
  temperature : Option Int
  die : Int
  vinUsb : Nat
  vinAux : Nat
  inputCurrent : Int
deriving DecidableEq, Repr

/-- The two base registers (R191). -/
inductive BaseRegister where
  | lo
  | hi
deriving DecidableEq, Repr

/-- The commands. A `transfer` operand is the place, oldest first, of the link transfer that ended (R190). -/
inductive Instr where
  | fastPulse
  | slowTick
  | settleComplete
  | coldReset (usbInWindow auxInWindow supplyLow : Bool)
  | supplyReset (usbInWindow auxInWindow supplyLow : Bool)
  | warmReset
  | loadProfile
  | sectionReadComplete (transfer : Nat) (bytes : List Byte)
  | startMotion
  | stopMotion
  | imuTransfer
  | transferEnd (inBytes : List Byte)
  | dataReadyEdge
  | burstEnd (inBytes : List Byte) (incidentFirst : Bool)
  | frameStart
  | sheetReadComplete (transfer : Nat) (bytes : List Byte)
  | headFrameTimeout
  | windowExpiry
  | protectionRequest
  | protectionAnswer
  | markKeyEdge (down : Bool)
  | markDebounceExpiry
  | markHoldExpiry
  | marker
  | markProtection
  | mountVolume
  | unmountVolume
  | formatVolume
  | setProtection
  | deleteClip
  | payloadFetchComplete (transfer : Nat) (bytes : List Byte)
  | startClip
  | stopClip
  | starvationExpiry
  | readBack
  | readBackWriteComplete (transfer : Nat)
  | detectEdge (present : Bool)
  | detectDebounceExpiry
  | identificationTimeout
  | cardCommandResponse (response status : Byte)
  | cardResponseMissing
  | readBlockReceived (mark : Byte) (data : List Byte) (check : BitVec 16)
  | readSectorTimeout
  | writeBlockAnswer (answer : Byte)
  | cardBusyEnd
  | cardBusyTimeout
  | inputEntersWindow (input : Input)
  | inputLeavesWindow (input : Input)
  | qualifyWaitExpiry (input : Input)
  | lossDebounceExpiry (input : Input)
  | gaugeMeasurement (readings : Readings) (gaugeFirst : Bool)
  | setInputLimit
  | clearChargeFault
  | supplyWarningAssert
  | supplyWarningRemove
  | powerKeyEdge (down : Bool)
  | powerDebounceExpiry
  | powerHoldExpiry
  | shutdown
  | closeLimitExpiry
  | storeChargeOptions
  | storeWriteComplete (matched : Bool)
  | runStart
  | runStop
  | pickupPeriodSet (code : BitVec 5)
  | attentionEnableSet (enables : BitVec 11)
  | attnClear (bits : Word32)
  | baseWrite (register : BaseRegister) (value : Word32)
  | registerWriteOther (offset width : Nat) (value : Word32)
  | pickupPeriodExpiry
  | requestBoardReadComplete (transfer : Nat) (bytes : List Byte)
  | unknownKind
  | chunkBoardReadComplete (transfer : Nat) (bytes : List Byte)
  | recordWriteComplete (transfer : Nat)
  | linkTransferFailed (transfer : Nat)
  | linkTransferUnanswered (transfer : Nat)
deriving DecidableEq, Repr

end Sys2Proof
end

