-- ==== Sys2Proof/Decode.lean ====
section
/-! DEFINITION. Reading a command from the table's bits. spec/opcode_table.json gives no row any bits, so no word spells a
command; the decoder says so of every word. (The records that carry requests are read in Machine/Operands.lean.) -/

namespace Sys2Proof

/-- The command that the table's bits spell: none, since every row's "fields" is empty. -/
def decodeTableWord (_nbits _w : Nat) : Option Instr :=
  none

end Sys2Proof
end

