-- ==== Sys2Proof/Machine/State.lean ====
section
/-! DEFINITION. The state of the G41, block by block, as plain data, and the state after reset. Each structure follows the
state table that opens its chapter; what a table leaves implied (a wait running, a message on its way) is named here too. -/

namespace Sys2Proof.Machine

/-! ### Shared shapes -/

/-- A value for each camera axis (spec/00 section 7). -/
structure Axes (α : Type) where
  yaw : α
  pitch : α
  roll : α
deriving DecidableEq, Repr

/-- A wait of `length` µs from the stamp `start` (R10). -/
structure Wait where
  start : Stamp
  length : Nat
deriving DecidableEq, Repr

/-! ### Ride Clock (spec/01 section 1.1) -/

inductive ClockPath where
  | fast
  | slow
deriving DecidableEq, Repr

inductive Handover where
  | none
  | toSlow
  | toFast
deriving DecidableEq, Repr

structure Clock where
  count : Stamp
  path : ClockPath
  group : Nat
  fraction : Nat
  handover : Handover
  mainOsc : Bool
deriving DecidableEq, Repr

/-! ### Serial ports (R13, R136) -/

/-- The levels of the lines that a serial port drives: select, clock and outgoing data. -/
structure PortLines where
  selectHigh : Bool
  clockHigh : Bool
  dataHigh : Bool
deriving DecidableEq, Repr

/-! ### Motion Port (spec/02 section 2.1) -/

inductive MotionState where
  | off
  | ready
  | running
deriving DecidableEq, Repr

inductive PortActivity where
  | idle
  | burst
  | transfer
deriving DecidableEq, Repr

inductive Learning where
  | settling
  | learning
  | suspended
deriving DecidableEq, Repr

/-- Port clock code, idle level and capture edge (R13, R14). -/
structure PortSettings where
  clockCode : Nat
  idleHigh : Bool
  captureSecond : Bool
deriving DecidableEq, Repr

/-- An axis map entry: the source sensor axis and whether the sign is − (R15). -/
structure AxisSource where
  source : Nat
  negative : Bool
deriving DecidableEq, Repr

structure MotionProfile where
  port : PortSettings
  dataAddress : Nat
  nominalRate : Nat
  fullScale : Nat
  accelScale : Nat
  axisMap : Axes AxisSource
  initialBias : Axes Int
  stillThreshold : Nat
  stillRun : Nat
deriving DecidableEq, Repr

structure MotionPort where
  state : MotionState
  activity : PortActivity
  stopWaiting : Bool
  profile : Option MotionProfile
  bias : Axes Int
  stillRun : Nat
  missed : Nat
  prevStamp : Option Stamp
  seedWaiting : Bool
  lostTotal : Nat
  stampFaults : Nat
  learning : Learning
  windowOpen : Bool
  selectHigh : Bool
  clockHigh : Bool
  dataHigh : Bool
  inFlight : Option PortSettings
  outBytes : List Byte
  burstStamp : Stamp
  transferSlot : Option Nat
  stopSlots : List Nat
deriving DecidableEq, Repr

/-- The sample record that the Motion Port hands on (spec/02 section 2.6). -/
structure Sample where
  stamp : Stamp
  gyro : Axes Int
  accel : Axes Int
  missedBefore : Nat
  sat : Axes Bool
  seed : Bool
  bias : Axes Int
deriving DecidableEq, Repr

/-! ### Orientation Integrator (spec/03 section 3.1) -/

inductive IntegratorState where
  | idle
  | seeding
  | integrating
deriving DecidableEq, Repr

structure HistoryEntry where
  stamp : Stamp
  theta : Axes Int
  gap : Bool
  sat : Bool
  missed : Bool
deriving DecidableEq, Repr

structure Integrator where
  state : IntegratorState
  theta : Axes Int
  carry : Axes Int
  lastStamp : Option Stamp
  history : List HistoryEntry
  gapTotal : Nat
  satTotal : Nat
deriving DecidableEq, Repr

/-- What a lookup answers for one time (R42, R43). -/
structure LookupAnswer where
  theta : Axes Int
  short : Bool
  held : Bool
  gap : Bool
  sat : Bool
  missed : Bool
deriving DecidableEq, Repr

/-! ### Steadying Engine (spec/04 section 4.1) -/

inductive EngineState where
  | idle
  | active
deriving DecidableEq, Repr

inductive HeadStage where
  | none
  | reading
  | waiting
deriving DecidableEq, Repr

/-- A pending frame: its number n and its frame-start stamp V (R49). -/
structure Frame where
  number : Word32
  start : Stamp
deriving DecidableEq, Repr

/-- Exposure E, readout Rd and band count B (R51). -/
structure SheetValues where
  exposure : Nat
  readout : Nat
  bands : Nat
deriving DecidableEq, Repr

/-- The figures fixed for the head frame (R51, R52). -/
structure HeadFigures where
  sheet : SheetValues
  bandTimes : List Stamp
  centre : Stamp
  paramsHeld : Bool
  sheetClamped : Bool
deriving DecidableEq, Repr

structure SteadyProfile where
  focal : Nat
  marginX : Nat
  marginY : Nat
  rollLimit : Nat
  follow : Nat
  enable : Axes Bool
  track : Bool
deriving DecidableEq, Repr

/-- The correction of one band with its band flags (R60, R61). -/
structure Band where
  x : Int
  y : Int
  r : Int
  clamp : Bool
  short : Bool
  held : Bool
deriving DecidableEq, Repr

/-- The entry flags (R61). -/
structure EntryFlags where
  skipped : Bool
  paramsHeld : Bool
  sheetClamped : Bool
  pathSeeded : Bool
  marginHit : Axes Bool
  short : Bool
  held : Bool
  gap : Bool
  sat : Bool
  missed : Bool
deriving DecidableEq, Repr

/-- A motion record (spec/04 section 4.8). -/
structure MotionRecord where
  frame : Word32
  flags : EntryFlags
  centre : Stamp
  theta : Axes Int
  path : Axes Int
  bands : List Band
deriving DecidableEq, Repr

inductive BufferState where
  | free
  | filling
  | queued
deriving DecidableEq, Repr

inductive BufferId where
  | a
  | b
deriving DecidableEq, Repr

structure MotionBuffer where
  state : BufferState
  records : List MotionRecord
deriving DecidableEq, Repr

structure Steady where
  state : EngineState
  frameCounter : Word32
  frames : List Frame
  headStage : HeadStage
  head : Option HeadFigures
  heldSheet : SheetValues
  path : Axes Int
  seeded : Bool
  profile : SteadyProfile
  bufA : MotionBuffer
  bufB : MotionBuffer
  lastUsed : Option BufferId
  lastComputed : Option Word32
  skippedTotal : Nat
  heldTotal : Nat
  dropTotal : Nat
deriving DecidableEq, Repr

/-! ### Keys (R77, R181) -/

inductive KeyState where
  | up
  | pressing
  | down
  | releasing
  | long
deriving DecidableEq, Repr

/-- What a hold wait is for: the MARK key's 2,000 ms (R78), or the POWER key's TURN_ON and TURN_OFF (R181). -/
inductive HoldKind where
  | markLong
  | turnOn
  | turnOff
deriving DecidableEq, Repr

/-- A hold wait from the press stamp; `expired` once its expiry was taken while the release debounce ran (R79, R182). -/
structure Hold where
  kind : HoldKind
  expired : Bool
deriving DecidableEq, Repr

structure Key where
  state : KeyState
  edge : Stamp
  press : Stamp
  debouncing : Bool
  hold : Option Hold
deriving DecidableEq, Repr

/-! ### Incident Monitor (spec/05 section 5.1) -/

structure IncidentSettings where
  threshold : Nat
  runLength : Nat
  windowSeconds : Nat
  lookbackSeconds : Nat
deriving DecidableEq, Repr

inductive WindowState where
  | quiet
  | incident
deriving DecidableEq, Repr

inductive LookbackOutcome where
  | pending
  | noClip
  | notNeeded
  | kept
  | lost
  | dropped
deriving DecidableEq, Repr

structure IncidentEntry where
  number : BitVec 16
  stamp : Stamp
  endStamp : Stamp
  peak : Nat
  extensions : Nat
  protectedClip : Option Nat
  lookbackClip : Option Nat
  outcome : LookbackOutcome
deriving DecidableEq, Repr

inductive CaptureKind where
  | none
  | pressed
  | short
  | long
deriving DecidableEq, Repr

structure MarkCapture where
  stamp : Stamp
  kind : CaptureKind
  presses : BitVec 8
deriving DecidableEq, Repr

inductive MarkerKind where
  | short
  | long
  | incident
deriving DecidableEq, Repr

structure Marker where
  stamp : Stamp
  kind : MarkerKind
deriving DecidableEq, Repr

/-- A protection request on its way to the Clip Writer (R72). -/
structure ProtectionRequest where
  number : BitVec 16
  stamp : Stamp
  lookbackSeconds : Nat
deriving DecidableEq, Repr

/-- The Clip Writer's answer on its way back (R75). -/
structure ProtectionAnswer where
  number : BitVec 16
  outcome : LookbackOutcome
  openClip : Option Nat
  previousClip : Option Nat
deriving DecidableEq, Repr

structure Incident where
  settings : IncidentSettings
  shockRun : Nat
  runPeak : Nat
  window : WindowState
  windowEnd : Stamp
  number : BitVec 16
  list : List IncidentEntry
  key : Key
  capture : MarkCapture
  requests : List ProtectionRequest
  answers : List ProtectionAnswer
  markers : List Marker
  markProtections : Nat
deriving DecidableEq, Repr

/-! ### The ride volume (spec/06 section 6.1) -/

structure VolumeProfile where
  firstSector : Nat
  segmentSize : Nat
  segmentCount : Nat
  clipSeconds : Nat
  gapWait : Nat
  starvationSeconds : Nat
deriving DecidableEq, Repr

structure Geometry where
  firstSector : Nat
  segmentSize : Nat
  segmentCount : Nat
deriving DecidableEq, Repr

inductive ClipState where
  | openClip
  | closed
  | recovered
deriving DecidableEq, Repr

inductive CloseCause where
  | request
  | rollover
  | reserve
  | full
  | starved
  | cardFault
  | shutdown
  | hostReset
  | recovered
deriving DecidableEq, Repr

/-- A set of protection causes (R87). -/
structure Causes where
  incident : Bool
  mark : Bool
  request : Bool
deriving DecidableEq, Repr

/-- A directory entry that holds a clip (R87). -/
structure Clip where
  number : Nat
  state : ClipState
  cause : Option CloseCause
  start : Stamp
  endStamp : Option Stamp
  first : Option Nat
  last : Option Nat
  segments : Nat
  hostCount : Nat
  motionCount : Nat
  bytes : Nat
  drops : Nat
  motionDrops : Nat
  causes : Causes
  markers : List Marker
  overflow : Bool
  motionTrack : Bool
  unkeyed : Bool
deriving DecidableEq, Repr

inductive SegmentState where
  | free
  | filling
  | filled
  | retiring
  | bad
deriving DecidableEq, Repr

/-- A segment map entry; `link` is `none` for END (R88). -/
structure MapEntry where
  state : SegmentState
  link : Option Nat
deriving DecidableEq, Repr

/-- The tables of a mounted volume (spec/06 section 6.1). `dir` has 256 entries, `none` for EMPTY; `map` has 1,024. -/
structure Tables where
  geometry : Geometry
  generation : Nat
  nextClip : Nat
  dir : List (Option Clip)
  map : List MapEntry
  alloc : Nat
deriving DecidableEq, Repr

/-! ### Clip Writer (spec/07 section 7.1) -/

inductive WriterState where
  | unmounted
  | mounting
  | formatting
  | idle
  | recording
  | closing
  | cardLost
  | cardFault
  | halted
deriving DecidableEq, Repr

structure ClipLimits where
  clipSeconds : Nat
  gapWait : Nat
  starvationSeconds : Nat
deriving DecidableEq, Repr

inductive ChunkKind where
  | video
  | audio
  | motion
deriving DecidableEq, Repr

/-- Where a chunk's payload comes from: a chunk slot's host buffer, or a motion buffer. -/
inductive ChunkSource where
  | slot (index : Nat) (edition : Edition) (address : Nat)
  | buffer (id : BufferId)
deriving DecidableEq, Repr

/-- A parked chunk or a write queue item. -/
structure Chunk where
  kind : ChunkKind
  key : Bool
  seq : Nat
  stamp : Stamp
  length : Nat
  source : ChunkSource
  opensClip : Bool
deriving DecidableEq, Repr

/-- A slot edition taken and not yet given a receipt (R108, R112). -/
structure HeldSlot where
  slot : Nat
  edition : Edition
  seq : Nat
deriving DecidableEq, Repr

inductive WriteStage where
  | allocating
  | fetching
  | writing
deriving DecidableEq, Repr

/-- The write in progress (R114 to R119). `payload` is the chunk store once filled; `allocSectors` are the zone sectors that
its allocation changed. -/
structure WriteInProgress where
  chunk : Chunk
  stage : WriteStage
  rewrite : Bool
  payload : Option (List Byte)
  allocSectors : List Nat
deriving DecidableEq, Repr

structure CurrentSegment where
  segment : Nat
  nextSector : Nat
  headerWritten : Bool
deriving DecidableEq, Repr

/-- What waits for zone sectors to be written: a request in a slot, or the close of the open clip (R92, R121, R124). -/
inductive WaitKey where
  | request (slot : Nat)
  | close
deriving DecidableEq, Repr

structure Waiter where
  key : WaitKey
  sectors : List Nat
deriving DecidableEq, Repr

/-- The volume update in flight (R92): its sector, whether it is the second try, whether it is CARD_FAULT's last write
(R120), and the waiters whose change it carries. -/
structure VolumeFlight where
  sector : Nat
  retried : Bool
  final : Bool
  carried : List WaitKey
deriving DecidableEq, Repr

inductive ReadBackStage where
  | idle
  | reading
  | writing
deriving DecidableEq, Repr

/-- A read-back in progress (R133, R134). -/
structure ReadBack where
  slot : Nat
  clip : Nat
  next : Nat
  left : Nat
  address : Nat
  copied : Nat
  piece : Nat
  stage : ReadBackStage
deriving DecidableEq, Repr

/-- The recovery scan of one clip (R98). `segments` are the chain's segments from the one being read on. -/
structure Scan where
  index : Nat
  segments : List Nat
  ordinal : Nat
  sector : Nat
  firstSeq : Nat
  atFirst : Bool
  lastHost : Option Nat
  lastMotion : Option Nat
  hostCount : Nat
  motionCount : Nat
  bytes : Nat
  hostStamp : Option Stamp
  motionStamp : Option Stamp
  head : List Byte
deriving DecidableEq, Repr

inductive MountStage where
  | header
  | zone
  | segmentHeader
  | chunkFirst
  | chunkRest
  | writeBack
deriving DecidableEq, Repr

/-- A MOUNT_VOLUME or FORMAT_VOLUME in progress (R95 to R99). -/
inductive VolumeJob where
  | mount (slot : Nat) (stage : MountStage) (scan : Option Scan) (todo : List Nat) (recovered : List Nat)
  | format (slot : Nat) (step : Nat) (geometry : Geometry) (generation : Nat)
deriving DecidableEq, Repr

structure Writer where
  state : WriterState
  profile : VolumeProfile
  mounted : Bool
  tables : Option Tables
  updates : List Nat
  flight : Option VolumeFlight
  mirrorDirty : List Nat
  mirrorEdition : Edition
  waiting : List Waiter
  job : Option VolumeJob
  unmounting : Option (List Nat)
  limits : ClipLimits
  expected : Nat
  keyWait : Bool
  held : List HeldSlot
  parked : List Chunk
  gapCount : Nat
  gapFresh : Bool
  queue : List Chunk
  wip : Option WriteInProgress
  current : Option CurrentSegment
  admissionStart : Stamp
  stopPending : Option Nat
  stopSlots : List Nat
  closeCause : Option CloseCause
  motionOrdinal : Nat
  reserveHeld : Bool
  readBack : Option ReadBack
  lastCompletion : Stamp
  starvation : Option Wait
  lastHostStamp : Option Stamp
  lastMotionStamp : Option Stamp
  hostReset : Bool
  idleReport : Bool
  recordingReport : Bool
deriving DecidableEq, Repr

/-! ### Card Port (spec/08 section 8.1) -/

inductive CardState where
  | absent
  | identifying
  | ready
  | busy
  | fault
deriving DecidableEq, Repr

inductive ClaimClass where
  | volume
  | chunk
  | readBack
deriving DecidableEq, Repr

/-- A claim: a READ_RUN (`data` is `none`) or a WRITE_RUN with its data (R140). -/
structure Claim where
  start : Nat
  count : Nat
  data : Option (List Byte)
deriving DecidableEq, Repr

/-- What a run waits for next (R142, R143). `rejected` is the busy period after a rejected block's stop mark. -/
inductive RunPhase where
  | command
  | block
  | stop
  | busy
  | finalBusy
  | rejected
  | status
deriving DecidableEq, Repr

/-- The run in flight. `wanted` is false once the Clip Writer has dropped the work it belongs to (R129, R140). -/
structure Run where
  cls : ClaimClass
  claim : Claim
  done : Nat
  phase : RunPhase
  wait : Option Wait
  got : List Byte
  completion : Stamp
  wanted : Bool
deriving DecidableEq, Repr

inductive RunOutcome where
  | ok
  | readError
  | writeError
  | timeout
  | absent
deriving DecidableEq, Repr

/-- An outcome on its way to the Clip Writer, with the sectors read and the completion stamp. -/
structure Delivery where
  cls : ClaimClass
  outcome : RunOutcome
  got : List Byte
  completion : Stamp
deriving DecidableEq, Repr

/-- The step of an identification: the wake clocking, or the step whose answer is awaited (R139). -/
inductive IdentStep where
  | wake
  | reset
  | readiness
  | capacity
  | capacityBlock
  | status (size : Nat)
deriving DecidableEq, Repr

/-- The Card Port. `exchanges` counts the exchanges begun, each by a fall of the select line (R136, log 47). -/
structure Card where
  state : CardState
  detect : Bool
  detectLine : Bool
  debounce : Option (Bool × Stamp)
  capacity : Nat
  fast : Bool
  run : Option Run
  volume : Option Claim
  chunk : Option Claim
  readBack : Option Claim
  ident : Option IdentStep
  identWait : Option Wait
  recovery : Bool
  readErrors : Nat
  writeErrors : Nat
  timeouts : Nat
  removals : Nat
  stopOwed : Bool
  exchanges : Nat
  outcomes : List Delivery
deriving DecidableEq, Repr

/-! ### Exchange Unit (spec/12) -/

inductive ExchangeState where
  | stopped
  | running
  | faulted
deriving DecidableEq, Repr

/-- A request as its slot gives it (R197). -/
inductive Request where
  | loadProfile (section_ : Nat)
  | startMotion (first : Word32)
  | stopMotion
  | imuTransfer (count : Nat) (out : List Byte)
  | mountVolume
  | unmountVolume
  | formatVolume
  | startClip (first : Nat)
  | stopClip (last : Option Nat)
  | setProtection (clip : Nat) (on : Bool)
  | deleteClip (clip : Nat) (force : Bool)
  | readBack (clip offset length address : Nat)
  | setInputLimit (milliamps : Nat)
  | clearChargeFault
  | storeChargeOptions
  | shutdown
  | unknown (code : Nat)
deriving DecidableEq, Repr

/-- A request handed to its owner and not yet taken, with the stamp of its pickup (R195). -/
structure Handed where
  slot : Nat
  request : Request
  stamp : Stamp
deriving DecidableEq, Repr

/-- A request being worked: its edition and its kind code (R197). -/
structure Working where
  edition : Edition
  kind : Nat
deriving DecidableEq, Repr

inductive PickupStage where
  | requests
  | chunks
  | report
deriving DecidableEq, Repr

/-- The pickup in progress; `ending` once the exchange was stopped under it (R193). -/
structure Pickup where
  stamp : Stamp
  stage : PickupStage
  ending : Bool
deriving DecidableEq, Repr

/-- The record a write belongs to (R196). A mirror entry says whether it follows a directory sector's write, so that the CLIP flag
follows it (R93). -/
inductive RecordKind where
  | answer (slot : Nat)
  | receipt (slot : Nat)
  | correction (slot : Nat)
  | mirror (index : Nat) (follows : Bool)
  | report
deriving DecidableEq, Repr

inductive RecordPart where
  | head
  | body
  | tail
deriving DecidableEq, Repr

/-- A record being written: its place in the exchange area, the place of its body within it, and its bytes (R196). -/
structure Record where
  kind : RecordKind
  offset : Nat
  head : List Byte
  body : List Byte
  tailAt : Nat
deriving DecidableEq, Repr

/-- What a link transfer is for (R190). A sheet read, a payload fetch or a read-back write whose work was dropped is not live:
its end finds nothing to act on (R48, R117, R134). -/
inductive Purpose where
  | requestBoard
  | chunkBoard
  | sheet (live : Bool)
  | profileSection (slot : Nat) (code : Nat)
  | payload (live : Bool)
  | readBackWrite (live : Bool)
  | record (rec : Record) (part : RecordPart)
deriving DecidableEq, Repr

/-- A link transfer in flight: its address, the bytes it writes (none for a read), its length and when it was issued. -/
structure Transfer where
  purpose : Purpose
  address : Nat
  out : Option (List Byte)
  length : Nat
  issued : Stamp
deriving DecidableEq, Repr

structure Exchange where
  state : ExchangeState
  run : Bool
  period : BitVec 5
  enables : BitVec 11
  attn : BitVec 11
  baseLo : Word32
  baseHi : Word32
  requestTaken : List Edition
  chunkTaken : List Edition
  working : List (Option Working)
  handed : List Handed
  pickup : Option Pickup
  pickupHeld : Bool
  periodWait : Option Wait
  /-- An expiry of the period wait that has fallen and is still to be taken, though a pickup has set the wait anew (the model's, log 65). -/
  periodOwed : Bool
  transfers : List Transfer
  reportEdition : Edition
  torn : Nat
deriving DecidableEq, Repr

/-- The four blocks that work together on the host's memory and on the card. -/
structure Media where
  exch : Exchange
  card : Card
  writer : Writer
  steady : Steady
deriving DecidableEq, Repr

/-! ### Charge Controller (spec/09 section 9.1) -/

inductive InputState where
  | absent
  | qualifying
  | present
deriving DecidableEq, Repr

/-- An input: its state and the starts of its qualify wait and its loss debounce (R150, R151). -/
structure InputUnit where
  state : InputState
  qualify : Option Stamp
  loss : Option Stamp
deriving DecidableEq, Repr

inductive Source where
  | none
  | usb
  | aux
deriving DecidableEq, Repr

inductive ChargeState where
  | noBattery
  | idle
  | qualify
  | precharge
  | fast
  | topoff
  | full
  | suspended
  | fault
deriving DecidableEq, Repr

structure SuspendCauses where
  cold : Bool
  hot : Bool
  die : Bool
deriving DecidableEq, Repr

inductive ChargeFault where
  | none
  | timer
  | overvolt
deriving DecidableEq, Repr

inductive TempBand where
  | coldStop
  | cool
  | normal
  | warm
  | hotStop
deriving DecidableEq, Repr

/-- The charge options of all three owners (spec/11 section 11.8). Time limits are in minutes. -/
structure ChargeOptions where
  vreg : Nat
  icc : Nat
  prechargeCurrent : Nat
  terminationCurrent : Nat
  prechargeMinutes : Nat
  totalMinutes : Nat
  t1 : Int
  t2 : Int
  t3 : Int
  t4 : Int
  recordingCap : Nat
  auxLimit : Nat
  auxSag : Nat
  capacity : Nat
  emptyVoltage : Nat
  cutoffVoltage : Nat
  reserve : Nat
  openCircuit : List Nat
  autoOn : Bool
  fastSettle : Bool
deriving DecidableEq, Repr

/-- The timers are held in microseconds (log 17). -/
structure Charge where
  usb : InputUnit
  aux : InputUnit
  source : Source
  state : ChargeState
  returnState : Option ChargeState
  causes : SuspendCauses
  fault : ChargeFault
  band : TempBand
  ic : Nat
  cap : Nat
  usbLimit : Nat
  prechargeTimer : Nat
  totalTimer : Nat
  termination : Option Stamp
  recording : Bool
  windowOpen : Bool
  lastStamp : Option Stamp
  inputCurrent : Int
deriving DecidableEq, Repr

/-! ### Battery Gauge (spec/10 section 10.1) -/

inductive GaugeState where
  | unset
  | estimated
  | anchored
deriving DecidableEq, Repr

/-- A measurement with its stamp (R169). -/
structure Measurement where
  readings : Readings
  stamp : Stamp
deriving DecidableEq, Repr

structure Gauge where
  q : Int
  carry : Int
  remainder : Nat
  state : GaugeState
  last : Option Measurement
  wasOpen : Bool
  lastStamp : Option Stamp
  slowCadence : Bool
  next : Option Stamp
  sourceSelected : Bool
  reserve : Bool
  reserveLevel : Nat
  cutoffRun : Nat
  warning : Bool
deriving DecidableEq, Repr

/-! ### Power State Controller (spec/11 section 11.1) -/

inductive PowerState where
  | run
  | shutting
  | standby
  | dormant
  | waking
deriving DecidableEq, Repr

inductive ShutdownCause where
  | none
  | request
  | key
  | cutoff
  | supply
deriving DecidableEq, Repr

inductive BlockStatus where
  | valid
  | blank
  | failing
deriving DecidableEq, Repr

inductive OptionsOrigin where
  | stored
  | defaults
  | loaded
deriving DecidableEq, Repr

inductive ResetKind where
  | cold
  | supply
  | warm
deriving DecidableEq, Repr

structure ResetRecord where
  lastKind : ResetKind
  warmCount : Nat
  supplyCount : Nat
  lastShutdown : ShutdownCause
deriving DecidableEq, Repr

/-- A store in progress: the bytes captured and the slot of the request, if it still waits (R187). -/
structure Storing where
  bytes : List Byte
  slot : Option Nat
deriving DecidableEq, Repr

structure Power where
  state : PowerState
  settleCount : Nat
  settleFast : Bool
  key : Key
  pressCount : BitVec 8
  cause : ShutdownCause
  closeTarget : Option Stamp
  reserveHeld : Bool
  cutoffLock : Bool
  blockStatus : BlockStatus
  origin : OptionsOrigin
  storing : Option Storing
  record : ResetRecord
  block : List Byte
  blockTorn : Bool
deriving DecidableEq, Repr

/-! ### The whole part -/

/-- The state of the G41 and the queue of the commands that wait. -/
structure State where
  clock : Clock
  motion : MotionPort
  integ : Integrator
  incident : Incident
  media : Media
  charge : Charge
  gauge : Gauge
  power : Power
  options : ChargeOptions
  pending : List Instr
deriving DecidableEq, Repr

/-- The ways the part could stop: none is raised, since no rule of spec/ stops the part (safe). -/
inductive Fault where
  /-- Raised by nothing. The spec names no event that stops the part; the host's interface asks for the type. Safe. -/
  | neverRaised
deriving DecidableEq, Repr

/-- The ways a command could be turned away by the model. -/
inductive Refusal where
  /-- Raised by `exec` alone, for a command that has no meaning yet. Safe: the run ends. -/
  | notModelled (mnemonic : String)
deriving DecidableEq, Repr

/-! ### Values at reset -/

def Axes.const {α : Type} (a : α) : Axes α :=
  ⟨a, a, a⟩

/-- R12, for a reset that leaves the part DORMANT. -/
def Clock.reset : Clock where
  count := 0
  path := .slow
  group := 0
  fraction := 0
  handover := .none
  mainOsc := false

/-- R33, with the lines as R13 says. -/
def MotionPort.reset : MotionPort where
  state := .off
  activity := .idle
  stopWaiting := false
  profile := none
  bias := .const 0
  stillRun := 0
  missed := 0
  prevStamp := none
  seedWaiting := false
  lostTotal := 0
  stampFaults := 0
  learning := .settling
  windowOpen := false
  selectHigh := true
  clockHigh := false
  dataHigh := false
  inFlight := none
  outBytes := []
  burstStamp := 0
  transferSlot := none
  stopSlots := []

/-- R46. -/
def Integrator.reset : Integrator where
  state := .idle
  theta := .const 0
  carry := .const 0
  lastStamp := none
  history := []
  gapTotal := 0
  satTotal := 0

/-- The default steady profile (R47). -/
def SteadyProfile.default : SteadyProfile where
  focal := 1000
  marginX := 0
  marginY := 0
  rollLimit := 0
  follow := 256
  enable := .const false
  track := false

/-- The held sheet values of R48 and R69. -/
def SheetValues.initial : SheetValues where
  exposure := 1
  readout := 0
  bands := 1

def MotionBuffer.empty : MotionBuffer where
  state := .free
  records := []

/-- R69. -/
def Steady.reset : Steady where
  state := .idle
  frameCounter := 0
  frames := []
  headStage := .none
  head := none
  heldSheet := .initial
  path := .const 0
  seeded := false
  profile := .default
  bufA := .empty
  bufB := .empty
  lastUsed := none
  lastComputed := none
  skippedTotal := 0
  heldTotal := 0
  dropTotal := 0

/-- UP with no wait (R83, R188); the two stamps are the model's (log 29). -/
def Key.reset : Key where
  state := .up
  edge := 0
  press := 0
  debouncing := false
  hold := none

/-- The defaults of spec/05 section 5.2. -/
def IncidentSettings.default : IncidentSettings where
  threshold := 24576
  runLength := 3
  windowSeconds := 10
  lookbackSeconds := 30

/-- R83. -/
def Incident.reset : Incident where
  settings := .default
  shockRun := 0
  runPeak := 0
  window := .quiet
  windowEnd := 0
  number := 0
  list := []
  key := .reset
  capture := { stamp := 0, kind := .none, presses := 0 }
  requests := []
  answers := []
  markers := []
  markProtections := 0

/-- The defaults of R84. -/
def VolumeProfile.default : VolumeProfile where
  firstSector := 2048
  segmentSize := 8192
  segmentCount := 256
  clipSeconds := 300
  gapWait := 4
  starvationSeconds := 5

/-- R106 and R132. -/
def Writer.reset : Writer where
  state := .unmounted
  profile := .default
  mounted := false
  tables := none
  updates := []
  flight := none
  mirrorDirty := []
  mirrorEdition := 0
  waiting := []
  job := none
  unmounting := none
  limits := { clipSeconds := 300, gapWait := 4, starvationSeconds := 5 }
  expected := 0
  keyWait := false
  held := []
  parked := []
  gapCount := 0
  gapFresh := false
  queue := []
  wip := none
  current := none
  admissionStart := 0
  stopPending := none
  stopSlots := []
  closeCause := none
  motionOrdinal := 0
  reserveHeld := false
  readBack := none
  lastCompletion := 0
  starvation := none
  lastHostStamp := none
  lastMotionStamp := none
  hostReset := false
  idleReport := false
  recordingReport := false

/-- R149. -/
def Card.reset : Card where
  state := .absent
  detect := false
  detectLine := false
  debounce := none
  capacity := 0
  fast := false
  run := none
  volume := none
  chunk := none
  readBack := none
  ident := none
  identWait := none
  recovery := false
  readErrors := 0
  writeErrors := 0
  timeouts := 0
  removals := 0
  stopOwed := false
  exchanges := 0
  outcomes := []

/-- R191, R193 and R199. -/
def Exchange.reset : Exchange where
  state := .stopped
  run := false
  period := 0
  enables := 0
  attn := 0
  baseLo := 0
  baseHi := 0
  requestTaken := List.replicate 8 0
  chunkTaken := List.replicate 24 0
  working := List.replicate 8 none
  handed := []
  pickup := none
  pickupHeld := false
  periodWait := none
  periodOwed := false
  transfers := []
  reportEdition := 0
  torn := 0

def Media.reset : Media where
  exch := .reset
  card := .reset
  writer := .reset
  steady := .reset

def InputUnit.reset : InputUnit where
  state := .absent
  qualify := none
  loss := none

/-- R167, with no input in its window. -/
def Charge.reset : Charge where
  usb := .reset
  aux := .reset
  source := .none
  state := .idle
  returnState := none
  causes := { cold := false, hot := false, die := false }
  fault := .none
  band := .normal
  ic := 0
  cap := 0
  usbLimit := 500
  prechargeTimer := 0
  totalTimer := 0
  termination := none
  recording := false
  windowOpen := false
  lastStamp := none
  inputCurrent := 0

/-- The defaults of spec/11 section 11.8. -/
def ChargeOptions.default : ChargeOptions where
  vreg := 4200
  icc := 1000
  prechargeCurrent := 100
  terminationCurrent := 80
  prechargeMinutes := 30
  totalMinutes := 300
  t1 := 0
  t2 := 10
  t3 := 45
  t4 := 55
  recordingCap := 500
  auxLimit := 1000
  auxSag := 6500
  capacity := 1500
  emptyVoltage := 3300
  cutoffVoltage := 3200
  reserve := 50
  openCircuit := [3300, 3600, 3680, 3730, 3770, 3810, 3860, 3930, 4010, 4090, 4180]
  autoOn := false
  fastSettle := false

/-- R178, for a reset that leaves the part DORMANT with the comparator above its level. -/
def Gauge.reset : Gauge where
  q := 0
  carry := 0
  remainder := 0
  state := .unset
  last := none
  wasOpen := false
  lastStamp := none
  slowCadence := true
  next := none
  sourceSelected := false
  reserve := false
  reserveLevel := 50
  cutoffRun := 0
  warning := false

/-- R188 after COLD, with an erased store (log 7). -/
def Power.reset : Power where
  state := .dormant
  settleCount := 0
  settleFast := false
  key := .reset
  pressCount := 0
  cause := .none
  closeTarget := none
  reserveHeld := false
  cutoffLock := false
  blockStatus := .blank
  origin := .defaults
  storing := none
  record := { lastKind := .cold, warmCount := 0, supplyCount := 0, lastShutdown := .none }
  block := List.replicate 64 0xFF#8
  blockTorn := false

/-- The part right after a COLD reset, no input in its window, no supply warning, the store erased (log 7). -/
def State.reset : State where
  clock := .reset
  motion := .reset
  integ := .reset
  incident := .reset
  media := .reset
  charge := .reset
  gauge := .reset
  power := .reset
  options := .default
  pending := []

end Sys2Proof.Machine
end

