-- ==== Sys2Proof/Machine/Ops.lean ====
section
/-! DEFINITION. The arithmetic that several blocks share: stamps and waits, rounding and angles, bytes and checks, lists of
entries. -/

namespace Sys2Proof.Machine

/-! ### Stamps and waits -/

/-- The difference of stamp `a` from stamp `b`, read as a signed number (R9). -/
def stampDiff (a b : Stamp) : Int :=
  (a - b).toInt

/-- Stamp `a` is later than stamp `b` (R9). -/
def stampLater (a b : Stamp) : Bool :=
  decide (0 < stampDiff a b)

/-- A stamp moved by a number of microseconds, modulo 2^48 (R10, R52). -/
def stampAdd (s : Stamp) (micros : Int) : Stamp :=
  s + BitVec.ofInt 48 micros

/-- The count has reached the target of a wait of `length` µs from `start` (R10). -/
def reached (count start : Stamp) (length : Nat) : Bool :=
  decide ((length : Int) ≤ stampDiff count start)

def Wait.due (w : Wait) (count : Stamp) : Bool :=
  reached count w.start w.length

/-- A wait that is set and whose target the count has reached. -/
def waitDue (w : Option Wait) (count : Stamp) : Bool :=
  match w with
  | none => false
  | some w => w.due count

/-- The later of two stamps (R73); the second one when they are equal. -/
def stampMax (a b : Stamp) : Stamp :=
  if stampLater a b then a else b

/-- The earlier of two stamps (R169, R185). -/
def stampMin (a b : Stamp) : Stamp :=
  if stampLater a b then b else a

/-! ### Numbers -/

def clampNat (lo hi x : Nat) : Nat :=
  max lo (min hi x)

def clampInt (lo hi x : Int) : Int :=
  max lo (min hi x)

/-- A count that stops at `top` (R23, R37, R51, …). -/
def bump (top n : Nat) : Nat :=
  min top (n + 1)

/-- The quotient truncated toward zero (spec/00 section 7, Rounding). -/
def truncDiv (a b : Int) : Int :=
  Int.tdiv a b

/-- The quotient rounded half away from zero, for a positive divisor (spec/00 section 7, Rounding). -/
def roundDiv (a : Int) (b : Nat) : Int :=
  if 0 ≤ a then (2 * a + b) / (2 * b : Nat) else -((2 * (-a) + b) / (2 * b : Nat))

/-- A stepped field: the largest allowed value not above `x`, or the smallest allowed value (R16, R84). `allowed` ascends. -/
def stepDown (smallest : Nat) (allowed : List Nat) (x : Nat) : Nat :=
  allowed.foldl (fun best a => if a ≤ x then a else best) smallest

/-! ### Angles (spec/00 section 7) -/

/-- A plain angle brought into its range by one addition or subtraction of a full turn. -/
def wrapAngle (x : Int) : Int :=
  if 180000000 ≤ x then x - 360000000 else if x < -180000000 then x + 360000000 else x

def angleDiff (a b : Int) : Int :=
  wrapAngle (a - b)

def angleSum (a b : Int) : Int :=
  wrapAngle (a + b)

/-! ### Axes -/

def Axes.map {α β : Type} (f : α → β) (a : Axes α) : Axes β :=
  ⟨f a.yaw, f a.pitch, f a.roll⟩

def Axes.map₂ {α β γ : Type} (f : α → β → γ) (a : Axes α) (b : Axes β) : Axes γ :=
  ⟨f a.yaw b.yaw, f a.pitch b.pitch, f a.roll b.roll⟩

def Axes.any (a : Axes Bool) : Bool :=
  a.yaw || a.pitch || a.roll

def Axes.all (a : Axes Bool) : Bool :=
  a.yaw && a.pitch && a.roll

def Axes.toList {α : Type} (a : Axes α) : List α :=
  [a.yaw, a.pitch, a.roll]

/-! ### Bytes (spec/00 section 7, Byte order) -/

def byteAt (bs : List Byte) (i : Nat) : Byte :=
  bs.getD i 0

/-- `n` bytes from `at_`, low byte first. -/
def leNat (bs : List Byte) (at_ : Nat) : Nat → Nat
  | 0 => 0
  | n + 1 => (byteAt bs at_).toNat + 256 * leNat bs (at_ + 1) n

/-- `n` bytes from `at_`, low byte first, signed. -/
def leInt (bs : List Byte) (at_ n : Nat) : Int :=
  (BitVec.ofNat (8 * n) (leNat bs at_ n)).toInt

/-- `n` bytes from `at_`, high byte first, as the motion sensor and the card's capacity block send them. -/
def beNat (bs : List Byte) (at_ n : Nat) : Nat :=
  (List.range n).foldl (fun v i => v * 256 + (byteAt bs (at_ + i)).toNat) 0

/-- The low `n` bytes of a number, low byte first. -/
def toLe : Nat → Nat → List Byte
  | 0, _ => []
  | n + 1, v => BitVec.ofNat 8 v :: toLe n (v / 256)

/-- The low `n` bytes of a signed number, low byte first. -/
def toLeInt (n : Nat) (v : Int) : List Byte :=
  toLe n (BitVec.ofInt (8 * n) v).toNat

/-- A stamp in a record: 8 bytes, the upper 2 zero (R9). -/
def stampBytes (s : Stamp) : List Byte :=
  toLe 8 s.toNat

/-- A stamp read from a record: the low 48 bits (R9). -/
def stampAt (bs : List Byte) (at_ : Nat) : Stamp :=
  BitVec.ofNat 48 (leNat bs at_ 8)

def boolByte (b : Bool) : Byte :=
  if b then 1 else 0

/-- A set of bits, bit 0 first. -/
def bitsNat : List Bool → Nat
  | [] => 0
  | b :: bs => (if b then 1 else 0) + 2 * bitsNat bs

/-- The bytes from `pos` to `size` of a record whose fields stand at the places given, ascending; other bytes are 0. -/
def layoutFrom (size : Nat) : Nat → List (Nat × List Byte) → List Byte
  | pos, [] => List.replicate (size - pos) 0
  | pos, (at_, bs) :: rest => List.replicate (at_ - pos) 0 ++ (bs ++ layoutFrom size (at_ + bs.length) rest)

/-- The bytes `n` from place `at_`, missing bytes read as 0. -/
def slice (bs : List Byte) (at_ n : Nat) : List Byte :=
  (List.range n).map fun i => byteAt bs (at_ + i)

/-! ### Serial ports (R13, R136) -/

/-- The bits of a byte in the order in which a serial port sends them, most significant first (R13, R136). -/
def msbBits (b : Byte) : List Bool :=
  (List.range 8).map fun i => b.getLsbD (7 - i)

/-- The byte that eight bits spell, most significant first (R13, R136). -/
def byteOfBits (bits : List Bool) : Byte :=
  BitVec.ofNat 8 (bits.foldl (fun n b => 2 * n + b.toNat) 0)

/-- The bits of bytes sent with no gap between them (R13, R136). -/
def serialBits (bs : List Byte) : List Bool :=
  bs.flatMap msbBits

/-- The bytes that a port takes: `levels` holds the level of the incoming line at the two clock edges of each bit period, and the
port samples the second of the two when `second` holds (R13, R136). -/
def takenBytes (second : Bool) (levels : List (Bool × Bool)) : Nat → List Byte
  | 0 => []
  | n + 1 =>
    byteOfBits ((levels.take 8).map fun l => if second then l.2 else l.1) :: takenBytes second (levels.drop 8) n

/-! ### Checks (R200) -/

def crc32Bit (r : BitVec 32) : BitVec 32 :=
  if r.getLsbD 0 then (r >>> 1) ^^^ 0xEDB88320#32 else r >>> 1

def crc32Byte (r : BitVec 32) (b : Byte) : BitVec 32 :=
  let r := r ^^^ b.setWidth 32
  crc32Bit (crc32Bit (crc32Bit (crc32Bit (crc32Bit (crc32Bit (crc32Bit (crc32Bit r)))))))

/-- The CRC-32: least significant bit first, the register starting with every bit 1, the result inverted (R200). -/
def crc32 (bs : List Byte) : BitVec 32 :=
  ~~~ bs.foldl crc32Byte 0xFFFFFFFF#32

def crc16Bit (r : BitVec 16) : BitVec 16 :=
  if r.getLsbD 15 then (r <<< 1) ^^^ 0x1021#16 else r <<< 1

def crc16Byte (r : BitVec 16) (b : Byte) : BitVec 16 :=
  let r := r ^^^ (b.setWidth 16 <<< 8)
  crc16Bit (crc16Bit (crc16Bit (crc16Bit (crc16Bit (crc16Bit (crc16Bit (crc16Bit r)))))))

/-- The CRC-16 of the stored block: most significant bit first, the register starting with every bit 1 (R200). -/
def crc16Stored (bs : List Byte) : BitVec 16 :=
  bs.foldl crc16Byte 0xFFFF#16

/-- The check of a card data block: the register starting with every bit 0 (R200). -/
def crc16Block (bs : List Byte) : BitVec 16 :=
  bs.foldl crc16Byte 0#16

/-! ### Lists of entries -/

/-- An edition or a mirror edition that rises by 1, going from 65,535 to 1 (R93, R196). -/
def nextEdition (e : Edition) : Edition :=
  if e = 65535#16 then 1 else e + 1

/-- Add an entry at the end unless it is there already (R92). -/
def addOnce (l : List Nat) (x : Nat) : List Nat :=
  if l.contains x then l else l ++ [x]

/-- Append to a list that holds at most `top` entries, the oldest leaving first (R40, R72). -/
def appendBounded {α : Type} (top : Nat) (l : List α) (x : α) : List α :=
  (l ++ [x]).drop (l.length + 1 - top)

end Sys2Proof.Machine
end

