-- ==== Sys2Proof/Machine/ClockUnit.lean ====
section
/-! DEFINITION. The Ride Clock's operations (R2 to R7). -/

namespace Sys2Proof.Machine

/-- The count moves by a number of microseconds, modulo 2^48 (R1). -/
def Clock.advance (c : Clock) (micros : Nat) : Clock :=
  { c with count := c.count + BitVec.ofNat 48 micros }

/-- The positions of a prescaler group at which a pulse is removed (R2). -/
def removedPulse (position : Nat) : Bool :=
  decide (position = 42 ∨ position = 85 ∨ position = 127)

/-- A 1.024 MHz pulse (R2). On the slow path no pulse reaches the prescaler. -/
def Clock.pulse (c : Clock) : Clock :=
  match c.path with
  | .slow => c
  | .fast =>
    let c' := if removedPulse c.group then c else c.advance 1
    { c' with group := (c.group + 1) % 128 }

/-- A slow tick that advances the count (R3). -/
def Clock.slowAdvance (c : Clock) : Clock :=
  if c.fraction + 265 ≤ 511 then { c.advance 30 with fraction := c.fraction + 265 }
  else { c.advance 31 with fraction := c.fraction + 265 - 512 }

/-- The handover to the slow path (R5). -/
def Clock.toSlow (c : Clock) : Clock :=
  { c with path := .slow, group := 0, handover := .none, mainOsc := false }

/-- The handover to the fast path (R6). -/
def Clock.toFast (c : Clock) : Clock :=
  { c with path := .fast, group := 0, handover := .none }

/-- A slow tick; `settled` says that it completes the main oscillator settle (R3, R5, R6, R7). -/
def Clock.tick (c : Clock) (settled : Bool) : Clock :=
  match c.handover, c.path with
  | .toSlow, _ => c.toSlow
  | .toFast, .slow => if settled then c.toFast else c.slowAdvance
  | .toFast, .fast => { c with handover := .none }
  | .none, .slow => c.slowAdvance
  | .none, .fast => c

/-- The path that the power state requires (R4). -/
def PowerState.path : PowerState → ClockPath
  | .run => .fast
  | .shutting => .fast
  | .standby => .fast
  | .dormant => .slow
  | .waking => .fast

/-- The required path is told to the clock (R4). -/
def Clock.require (c : Clock) (p : ClockPath) : Clock :=
  if c.path = p then { c with handover := .none }
  else { c with handover := match p with
    | .fast => .toFast
    | .slow => .toSlow }

end Sys2Proof.Machine
end

