-- ==== Sys2Proof/Machine/Flags.lean ====
section
/-! DEFINITION. The flags and codes that the host and the card see: the attention flags (R192), the entry and band flags
(R61), the clip flags and causes (R87), and the codes of states in the report page (spec/12 section 12.10). -/

namespace Sys2Proof.Machine

/-- The attention flags in the order of ATTN (spec/12 section 12.2). -/
inductive AttnFlag where
  | answer
  | receipt
  | correction
  | clip
  | charge
  | gauge
  | incident
  | mark
  | key
  | card
  | exchangeFault
deriving DecidableEq, Repr

def AttnFlag.index : AttnFlag → Nat
  | .answer => 0
  | .receipt => 1
  | .correction => 2
  | .clip => 3
  | .charge => 4
  | .gauge => 5
  | .incident => 6
  | .mark => 7
  | .key => 8
  | .card => 9
  | .exchangeFault => 10

def AttnFlag.mask (f : AttnFlag) : BitVec 11 :=
  1#11 <<< f.index

/-- A flag is set when its owner raises it (R192). -/
def Exchange.raise (e : Exchange) (f : AttnFlag) : Exchange :=
  { e with attn := e.attn ||| f.mask }

def Exchange.flagSet (e : Exchange) (f : AttnFlag) : Bool :=
  e.attn.getLsbD f.index

def Media.raise (m : Media) (f : AttnFlag) : Media :=
  { m with exch := m.exch.raise f }

def State.raise (s : State) (f : AttnFlag) : State :=
  { s with media := s.media.raise f }

/-! ### Entry and band flags (R61, spec/12 section 12.10) -/

def EntryFlags.clear : EntryFlags :=
  ⟨false, false, false, false, ⟨false, false, false⟩, false, false, false, false, false⟩

/-- The entry flags of a skipped frame: SKIPPED and nothing else (R49). -/
def EntryFlags.skippedOnly : EntryFlags :=
  { EntryFlags.clear with skipped := true }

def EntryFlags.word (f : EntryFlags) : Nat :=
  bitsNat [f.skipped, f.paramsHeld, f.sheetClamped, f.pathSeeded, f.marginHit.yaw, f.marginHit.pitch, f.marginHit.roll,
    f.short, f.held, f.gap, f.sat, f.missed]

def Band.flagWord (b : Band) : Nat :=
  bitsNat [b.clamp, b.short, b.held]

/-! ### Directory entry codes (spec/12 section 12.10) -/

def ClipState.code : ClipState → Nat
  | .openClip => 1
  | .closed => 2
  | .recovered => 3

def ClipState.ofCode : Nat → Option ClipState
  | 1 => some .openClip
  | 2 => some .closed
  | 3 => some .recovered
  | _ => none

def CloseCause.code : CloseCause → Nat
  | .request => 1
  | .rollover => 2
  | .reserve => 3
  | .full => 4
  | .starved => 5
  | .cardFault => 6
  | .shutdown => 7
  | .hostReset => 8
  | .recovered => 9

def CloseCause.ofCode : Nat → Option CloseCause
  | 1 => some .request
  | 2 => some .rollover
  | 3 => some .reserve
  | 4 => some .full
  | 5 => some .starved
  | 6 => some .cardFault
  | 7 => some .shutdown
  | 8 => some .hostReset
  | 9 => some .recovered
  | _ => none

def Causes.none : Causes :=
  ⟨false, false, false⟩

/-- A clip is protected when its set of protection causes is not empty (R87). -/
def Causes.any (c : Causes) : Bool :=
  c.incident || c.mark || c.request

def Causes.word (c : Causes) : Nat :=
  bitsNat [c.incident, c.mark, c.request]

def Clip.flagWord (c : Clip) : Nat :=
  bitsNat [c.overflow, c.motionTrack, c.unkeyed]

def MarkerKind.code : MarkerKind → Nat
  | .short => 1
  | .long => 2
  | .incident => 3

def MarkerKind.ofCode : Nat → MarkerKind
  | 1 => .short
  | 2 => .long
  | _ => .incident

def SegmentState.code : SegmentState → Nat
  | .free => 0
  | .filling => 1
  | .filled => 2
  | .retiring => 3
  | .bad => 4

/-- An unknown code is taken as BAD (R97). -/
def SegmentState.ofCode : Nat → SegmentState
  | 0 => .free
  | 1 => .filling
  | 2 => .filled
  | 3 => .retiring
  | _ => .bad

def ChunkKind.code : ChunkKind → Nat
  | .video => 1
  | .audio => 2
  | .motion => 3

/-! ### Report page codes: the place of each value in its chapter's range, from 0 -/

def MotionState.code : MotionState → Nat
  | .off => 0
  | .ready => 1
  | .running => 2

def Learning.code : Learning → Nat
  | .settling => 0
  | .learning => 1
  | .suspended => 2

def IntegratorState.code : IntegratorState → Nat
  | .idle => 0
  | .seeding => 1
  | .integrating => 2

def EngineState.code : EngineState → Nat
  | .idle => 0
  | .active => 1

def BufferState.code : BufferState → Nat
  | .free => 0
  | .filling => 1
  | .queued => 2

def WindowState.code : WindowState → Nat
  | .quiet => 0
  | .incident => 1

def KeyState.code : KeyState → Nat
  | .up => 0
  | .pressing => 1
  | .down => 2
  | .releasing => 3
  | .long => 4

def CaptureKind.code : CaptureKind → Nat
  | .none => 0
  | .pressed => 1
  | .short => 2
  | .long => 3

def LookbackOutcome.code : LookbackOutcome → Nat
  | .pending => 0
  | .noClip => 1
  | .notNeeded => 2
  | .kept => 3
  | .lost => 4
  | .dropped => 5

def WriterState.code : WriterState → Nat
  | .unmounted => 0
  | .mounting => 1
  | .formatting => 2
  | .idle => 3
  | .recording => 4
  | .closing => 5
  | .cardLost => 6
  | .cardFault => 7
  | .halted => 8

def WriteStage.code : WriteStage → Nat
  | .allocating => 1
  | .fetching => 2
  | .writing => 3

def CardState.code : CardState → Nat
  | .absent => 0
  | .identifying => 1
  | .ready => 2
  | .busy => 3
  | .fault => 4

def ClaimClass.code : ClaimClass → Nat
  | .volume => 1
  | .chunk => 2
  | .readBack => 3

def InputState.code : InputState → Nat
  | .absent => 0
  | .qualifying => 1
  | .present => 2

def Source.code : Source → Nat
  | .none => 0
  | .usb => 1
  | .aux => 2

def ChargeState.code : ChargeState → Nat
  | .noBattery => 0
  | .idle => 1
  | .qualify => 2
  | .precharge => 3
  | .fast => 4
  | .topoff => 5
  | .full => 6
  | .suspended => 7
  | .fault => 8

def SuspendCauses.empty : SuspendCauses :=
  ⟨false, false, false⟩

def SuspendCauses.any (c : SuspendCauses) : Bool :=
  c.cold || c.hot || c.die

def SuspendCauses.word (c : SuspendCauses) : Nat :=
  bitsNat [c.cold, c.hot, c.die]

def ChargeFault.code : ChargeFault → Nat
  | .none => 0
  | .timer => 1
  | .overvolt => 2

def TempBand.code : TempBand → Nat
  | .coldStop => 0
  | .cool => 1
  | .normal => 2
  | .warm => 3
  | .hotStop => 4

def GaugeState.code : GaugeState → Nat
  | .unset => 0
  | .estimated => 1
  | .anchored => 2

def PowerState.code : PowerState → Nat
  | .run => 0
  | .shutting => 1
  | .standby => 2
  | .dormant => 3
  | .waking => 4

def ShutdownCause.code : ShutdownCause → Nat
  | .none => 0
  | .request => 1
  | .key => 2
  | .cutoff => 3
  | .supply => 4

def BlockStatus.code : BlockStatus → Nat
  | .valid => 0
  | .blank => 1
  | .failing => 2

def OptionsOrigin.code : OptionsOrigin → Nat
  | .stored => 0
  | .defaults => 1
  | .loaded => 2

def ResetKind.code : ResetKind → Nat
  | .cold => 0
  | .supply => 1
  | .warm => 2

end Sys2Proof.Machine
end

