-- ==== Sys2Proof/Machine/KeyUnit.lean ====
section
/-! DEFINITION. The debounced keys: the table that the MARK and the POWER key share (R77, R181). -/

namespace Sys2Proof.Machine

/-- The debounce of a key, 20 ms (R77). -/
def keyDebounce : Nat :=
  20000

/-- The length of a hold wait (R78, R181). -/
def HoldKind.micros : HoldKind → Nat
  | .markLong => 2000000
  | .turnOn => 1000000
  | .turnOff => 6000000

/-- A down edge. From RELEASING the debounce is abandoned and the key is DOWN again. -/
def Key.downEdge (k : Key) (now : Stamp) : Key :=
  match k.state with
  | .up => { k with state := .pressing, edge := now, debouncing := true }
  | .releasing => { k with state := .down, debouncing := false }
  | .long => { k with debouncing := false }
  | .pressing | .down => k

/-- An up edge. From PRESSING the debounce is abandoned and the key is UP again. -/
def Key.upEdge (k : Key) (now : Stamp) : Key :=
  match k.state with
  | .pressing => { k with state := .up, debouncing := false }
  | .down => { k with state := .releasing, edge := now, debouncing := true }
  | .long => { k with edge := now, debouncing := true }
  | .up | .releasing => k

/-- An edge of the key input. -/
def Key.onEdge (k : Key) (now : Stamp) (down : Bool) : Key :=
  if down then k.downEdge now else k.upEdge now

/-- The debounce in progress has lasted its 20 ms. -/
def Key.debounceDue (k : Key) (now : Stamp) : Bool :=
  k.debouncing && reached now k.edge keyDebounce

/-- A debounce completes: a press is accepted with its edge stamp, or a release, or LONG ends. -/
def Key.debounced (k : Key) : Key :=
  match k.state with
  | .pressing => { k with state := .down, press := k.edge, debouncing := false }
  | .releasing => { k with state := .up, debouncing := false, hold := none }
  | .long => { k with state := .up, debouncing := false }
  | .up | .down => { k with debouncing := false }

/-- A hold wait is set from the press stamp. -/
def Key.setHold (k : Key) (h : HoldKind) : Key :=
  { k with hold := some ⟨h, false⟩ }

/-- The hold wait has not been taken as expired, and the count has reached its target. -/
def Key.holdDue (k : Key) (now : Stamp) : Bool :=
  match k.hold with
  | none => false
  | some h => !h.expired && reached now k.press h.kind.micros

/-- The hold expired while the release debounce ran: the end of that debounce decides (R79, R182). -/
def Key.holdExpired (k : Key) : Key :=
  { k with hold := k.hold.map fun h => { h with expired := true } }

/-- The key is DOWN and its hold wait has expired. -/
def Key.heldOut (k : Key) : Bool :=
  decide (k.state = .down) && k.hold.any Hold.expired

/-- The key becomes LONG; a release debounce that runs goes on (log 27). -/
def Key.makeLong (k : Key) : Key :=
  { k with state := .long, hold := none, debouncing := k.debouncing && decide (k.state = .releasing ∨ k.state = .long) }

/-- The hold wait is cancelled, and a key that is not UP becomes LONG (R181). -/
def Key.interrupt (k : Key) : Key :=
  if k.state = .up then { k with hold := none } else k.makeLong

/-- The key is UP and its waits are cancelled (R77, R83). -/
def Key.release (k : Key) : Key :=
  { k with state := .up, debouncing := false, hold := none }

end Sys2Proof.Machine
end

