-- ==== Sys2Proof/Machine/IncidentUnit.lean ====
section
/-! DEFINITION. The Incident Monitor's operations: shocks and the window (R70 to R74), answers (R76), presses (R78 to R80). -/

namespace Sys2Proof.Machine

/-- The settings are taken (R70). -/
def Incident.load (i : Incident) (s : IncidentSettings) : Incident :=
  { i with settings := s, shockRun := 0, runPeak := 0 }

/-- L1 of a sample (R71). -/
def accelSum (a : Axes Int) : Nat :=
  a.yaw.natAbs + a.pitch.natAbs + a.roll.natAbs

/-- The shock run and the run peak after a sample (R71). -/
def Incident.runOn (i : Incident) (l1 : Nat) : Incident :=
  if l1 < i.settings.threshold then { i with shockRun := 0, runPeak := 0 }
  else { i with shockRun := bump i.settings.runLength i.shockRun, runPeak := max i.runPeak l1 }

/-- A sample declares a shock (R71). -/
def Incident.shockAt (i : Incident) (l1 : Nat) : Bool :=
  decide (i.settings.threshold ≤ l1 ∧ i.settings.runLength ≤ i.shockRun + 1)

def Incident.windowMicros (i : Incident) : Nat :=
  i.settings.windowSeconds * 1000000

/-- A shock opens an incident (R72). -/
def Incident.openWindow (i : Incident) (stamp : Stamp) : Incident :=
  let number := i.number + 1
  let end_ := stampAdd stamp i.windowMicros
  { i with
    number := number
    window := .incident
    windowEnd := end_
    list := appendBounded 8 i.list ⟨number, stamp, end_, i.runPeak, 0, none, none, .pending⟩
    requests := i.requests ++ [⟨number, stamp, i.settings.lookbackSeconds⟩] }

/-- The newest entry of a list changes. -/
def modifyLast {α : Type} (f : α → α) : List α → List α
  | [] => []
  | [x] => [f x]
  | x :: y :: rest => x :: modifyLast f (y :: rest)

/-- A shock extends the window (R73). -/
def Incident.extendWindow (i : Incident) (stamp : Stamp) : Incident :=
  let end_ := stampMax (stampAdd stamp i.windowMicros) i.windowEnd
  { i with
    windowEnd := end_
    list := modifyLast
      (fun e => { e with endStamp := end_, extensions := bump 255 e.extensions, peak := max e.peak i.runPeak }) i.list }

/-- A sample record reaches the monitor (R71 to R73); the flag says that an incident was opened. -/
def Incident.sample (i : Incident) (l1 : Nat) (stamp : Stamp) : Incident × Bool :=
  let j := i.runOn l1
  if i.shockAt l1 then
    match i.window with
    | .quiet => (j.openWindow stamp, true)
    | .incident => (j.extendWindow stamp, false)
  else (j, false)

/-- Intake has stopped (R71). -/
def Incident.intakeStopped (i : Incident) : Incident :=
  { i with shockRun := 0, runPeak := 0 }

/-- The window's wait expires (R74): the window is open and the count has reached its end. -/
def Incident.windowDue (i : Incident) (now : Stamp) : Bool :=
  decide (i.window = .incident) && reached now i.windowEnd 0

def Incident.closeWindow (i : Incident) : Incident :=
  { i with window := .quiet }

/-- The Clip Writer's answer reaches its entry (R76). -/
def IncidentEntry.take (e : IncidentEntry) (a : ProtectionAnswer) : IncidentEntry :=
  if e.number = a.number then
    { e with protectedClip := a.openClip, lookbackClip := a.previousClip, outcome := a.outcome }
  else e

def Incident.takeAnswer (i : Incident) (a : ProtectionAnswer) : Incident :=
  { i with list := i.list.map fun e => e.take a }

/-- Protection requests that a WARM reset found untaken are dropped (R76). -/
def Incident.dropRequests (i : Incident) : Incident :=
  let dropped := i.requests.map ProtectionRequest.number
  { i with
    list := i.list.map fun e => if dropped.contains e.number then { e with outcome := .dropped } else e
    requests := []
    markers := []
    markProtections := 0 }

/-- A press is accepted (R78). -/
def Incident.press (i : Incident) : Incident :=
  { i with
    key := i.key.setHold .markLong
    capture := { stamp := i.key.press, kind := .pressed, presses := i.capture.presses + 1 } }

/-- A release is accepted: a SHORT press (R79). -/
def Incident.shortPress (i : Incident) : Incident :=
  { i with
    capture := { i.capture with kind := .short }
    markers := i.markers ++ [⟨i.key.press, .short⟩] }

/-- A LONG press (R80). -/
def Incident.longPress (i : Incident) : Incident :=
  { i with
    key := i.key.makeLong
    capture := { i.capture with kind := .long }
    markers := i.markers ++ [⟨i.key.press, .long⟩]
    markProtections := i.markProtections + 1 }

/-- A WARM reset (R83), but for its reports. -/
def Incident.warm (i : Incident) : Incident :=
  { i.intakeStopped.closeWindow.dropRequests with key := i.key.release }

end Sys2Proof.Machine
end

