-- ==== Sys2Proof/Machine/Operands.lean ====
section
/-! DEFINITION. The operand forms: what the part reads from the records that the host, the sensor and the card give it
(spec/12 section 12.10, R22, R136), with the checks and clamps of each profile section. -/

namespace Sys2Proof.Machine

/-! ### Framing (R195) -/

def editionAt (bs : List Byte) (at_ : Nat) : Edition :=
  BitVec.ofNat 16 (leNat bs at_ 2)

/-- A record whose head edition differs from its tail edition. -/
def torn (bs : List Byte) (tailAt : Nat) : Bool :=
  editionAt bs 0 != editionAt bs tailAt

/-- A slot is new: untorn, its edition not 0 and different from the slot's last-taken edition (R195). -/
def slotNew (bs : List Byte) (tailAt : Nat) (taken : Edition) : Bool :=
  !torn bs tailAt && editionAt bs 0 != 0 && editionAt bs 0 != taken

/-! ### Requests (R197) -/

/-- A request slot read: a request, or a field of 0/1 choices that names neither value. -/
inductive ParsedRequest where
  | request (r : Request)
  | badChoice
deriving DecidableEq, Repr

def Request.kindCode : Request → Nat
  | .loadProfile _ => 1
  | .startMotion _ => 2
  | .stopMotion => 3
  | .imuTransfer _ _ => 4
  | .mountVolume => 5
  | .unmountVolume => 6
  | .formatVolume => 7
  | .startClip _ => 8
  | .stopClip _ => 9
  | .setProtection _ _ => 10
  | .deleteClip _ _ => 11
  | .readBack _ _ _ _ => 12
  | .setInputLimit _ => 13
  | .clearChargeFault => 14
  | .storeChargeOptions => 15
  | .shutdown => 16
  | .unknown code => code

/-- A field of 0/1 choices: `none` for a code that names neither (R197). -/
def choice (b : Byte) : Option Bool :=
  if b = 0 then some false else if b = 1 then some true else none

/-- The request in a slot of 64 bytes (R197). -/
def parseRequest (bs : List Byte) : ParsedRequest :=
  match (byteAt bs 2).toNat with
  | 1 => .request (.loadProfile (byteAt bs 4).toNat)
  | 2 => .request (.startMotion (BitVec.ofNat 32 (leNat bs 4 4)))
  | 3 => .request .stopMotion
  | 4 => .request (.imuTransfer (byteAt bs 4).toNat (slice bs 8 (min 16 (byteAt bs 4).toNat)))
  | 5 => .request .mountVolume
  | 6 => .request .unmountVolume
  | 7 => .request .formatVolume
  | 8 => .request (.startClip (leNat bs 4 4))
  | 9 =>
    match choice (byteAt bs 4) with
    | some false => .request (.stopClip none)
    | some true => .request (.stopClip (some (leNat bs 8 4)))
    | none => .badChoice
  | 10 =>
    match choice (byteAt bs 8) with
    | some on => .request (.setProtection (leNat bs 4 4) on)
    | none => .badChoice
  | 11 =>
    match choice (byteAt bs 8) with
    | some force => .request (.deleteClip (leNat bs 4 4) force)
    | none => .badChoice
  | 12 => .request (.readBack (leNat bs 4 4) (leNat bs 8 8) (leNat bs 16 4) (leNat bs 24 8))
  | 13 => .request (.setInputLimit (leNat bs 4 2))
  | 14 => .request .clearChargeFault
  | 15 => .request .storeChargeOptions
  | 16 => .request .shutdown
  | code => .request (.unknown code)

/-- The block that takes a request (R197). LOAD_PROFILE and unknown kinds are the Exchange Unit's own work. -/
inductive Owner where
  | exchange
  | motion
  | writer
  | charge
  | power
deriving DecidableEq, Repr

def Request.owner : Request → Owner
  | .loadProfile _ => .exchange
  | .startMotion _ => .motion
  | .stopMotion => .motion
  | .imuTransfer _ _ => .motion
  | .mountVolume => .writer
  | .unmountVolume => .writer
  | .formatVolume => .writer
  | .startClip _ => .writer
  | .stopClip _ => .writer
  | .setProtection _ _ => .writer
  | .deleteClip _ _ => .writer
  | .readBack _ _ _ _ => .writer
  | .setInputLimit _ => .charge
  | .clearChargeFault => .charge
  | .storeChargeOptions => .power
  | .shutdown => .power
  | .unknown _ => .exchange

/-! ### Chunk slots (R108, R109) -/

/-- A chunk slot as posted. `kind` is `none` for a code that is neither VIDEO nor AUDIO. -/
structure PostedChunk where
  edition : Edition
  kind : Option ChunkKind
  key : Bool
  seq : Nat
  length : Nat
  stamp : Stamp
  address : Nat
deriving DecidableEq, Repr

def parseChunk (bs : List Byte) : PostedChunk where
  edition := editionAt bs 0
  kind := if byteAt bs 2 = 1 then some .video else if byteAt bs 2 = 2 then some .audio else none
  key := byteAt bs 3 != 0
  seq := leNat bs 4 4
  length := leNat bs 8 4
  stamp := stampAt bs 12
  address := leNat bs 20 8

/-! ### Frame sheets (R51) -/

/-- A sheet is good: head and tail equal, not 0, and the frame number is the frame's (R51). -/
def sheetGood (bs : List Byte) (n : Word32) : Bool :=
  !torn bs 30 && editionAt bs 0 != 0 && leNat bs 4 4 == n.toNat

/-- The figures of a good sheet, clamped (R51). -/
def sheetValues (bs : List Byte) : SheetValues where
  exposure := clampNat 1 40000 (leNat bs 8 4)
  readout := min 40000 (leNat bs 12 4)
  bands := stepDown 1 [1, 2, 4, 8, 16] (byteAt bs 16).toNat

/-- A figure of the sheet was changed (R51). -/
def sheetChanged (bs : List Byte) : Bool :=
  (sheetValues bs).exposure != leNat bs 8 4 || (sheetValues bs).readout != leNat bs 12 4
    || (sheetValues bs).bands != (byteAt bs 16).toNat

/-! ### Profile sections (R15, R16, R47, R70, R84, R153, R168) -/

/-- A section's fields after its owner's clamps, and whether any was changed. -/
structure Checked (α : Type) where
  value : α
  clamped : Bool
deriving DecidableEq, Repr

/-- The codes of the motion section name what they must (R15). -/
def motionStructureOk (bs : List Byte) : Bool :=
  let src := fun i => (byteAt bs i).toNat
  (choice (byteAt bs 5)).isSome && (choice (byteAt bs 6)).isSome
    && decide (src 13 < 3) && decide (src 15 < 3) && decide (src 17 < 3)
    && (choice (byteAt bs 14)).isSome && (choice (byteAt bs 16)).isSome && (choice (byteAt bs 18)).isSome
    && src 13 != src 15 && src 13 != src 17 && src 15 != src 17

def axisSourceAt (bs : List Byte) (at_ : Nat) : AxisSource where
  source := (byteAt bs at_).toNat
  negative := byteAt bs (at_ + 1) = 1

/-- The motion section after steps 1 and 2 of R16. -/
def parseMotion (bs : List Byte) : Checked MotionProfile :=
  let clock := (byteAt bs 4).toNat
  let address := (byteAt bs 7).toNat
  let rate := leNat bs 8 2
  let scale := leNat bs 10 2
  let accel := (byteAt bs 12).toNat
  let bias : Axes Int := ⟨leInt bs 20 4, leInt bs 24 4, leInt bs 28 4⟩
  let threshold := leNat bs 32 4
  let still := leNat bs 36 4
  let p : MotionProfile :=
    { port := { clockCode := min 3 clock, idleHigh := byteAt bs 5 = 1, captureSecond := byteAt bs 6 = 1 }
      dataAddress := min 127 address
      nominalRate := stepDown 500 [500, 1000, 2000] rate
      fullScale := stepDown 500 [500, 1000, 2000] scale
      accelScale := stepDown 4 [4, 8, 16] accel
      axisMap := ⟨axisSourceAt bs 13, axisSourceAt bs 15, axisSourceAt bs 17⟩
      initialBias := bias.map (clampInt (-65536) 65536)
      stillThreshold := min 65535 threshold
      stillRun := clampNat 1 65535 still }
  { value := p
    clamped := p.port.clockCode != clock || p.dataAddress != address || p.nominalRate != rate || p.fullScale != scale
      || p.accelScale != accel || p.initialBias != bias || p.stillThreshold != threshold || p.stillRun != still }

/-- The enables and the motion track of the steady section name ON or OFF (R47). -/
def steadyStructureOk (bs : List Byte) : Bool :=
  (choice (byteAt bs 14)).isSome && (choice (byteAt bs 15)).isSome && (choice (byteAt bs 16)).isSome
    && (choice (byteAt bs 17)).isSome

/-- The steady section after the clamps of R47. -/
def parseSteady (bs : List Byte) : Checked SteadyProfile :=
  let f := leNat bs 4 2
  let mx := leNat bs 6 2
  let my := leNat bs 8 2
  let roll := leNat bs 10 2
  let k := leNat bs 12 2
  let p : SteadyProfile :=
    { focal := clampNat 200 8000 f
      marginX := min 1024 mx
      marginY := min 1024 my
      rollLimit := min 15000 roll
      follow := clampNat 1 256 k
      enable := ⟨byteAt bs 14 = 1, byteAt bs 15 = 1, byteAt bs 16 = 1⟩
      track := byteAt bs 17 = 1 }
  { value := p
    clamped := p.focal != f || p.marginX != mx || p.marginY != my || p.rollLimit != roll || p.follow != k }

/-- The volume fields of the volume section after the checks of R84. -/
def parseVolume (bs : List Byte) : Checked VolumeProfile :=
  let first := leNat bs 4 4
  let size := leNat bs 8 4
  let count := leNat bs 12 4
  let clip := leInt bs 16 4
  let gap := (byteAt bs 20).toNat
  let starve := (byteAt bs 21).toNat
  let p : VolumeProfile :=
    { firstSector := first
      segmentSize := stepDown 2048 [2048, 4096, 8192, 16384] size
      segmentCount := clampNat 16 1024 count
      clipSeconds := (clampInt 10 3600 clip).toNat
      gapWait := clampNat 1 16 gap
      starvationSeconds := clampNat 1 30 starve }
  { value := p
    clamped := p.segmentSize != size || p.segmentCount != count || (p.clipSeconds : Int) != clip || p.gapWait != gap
      || p.starvationSeconds != starve }

/-- The sector after a volume's last segment (R85). -/
def areaEnd (first size count : Nat) : Nat :=
  first + 144 + count * size

/-- The area of the checked volume fields can be addressed (R84). -/
def volumeAddressable (p : VolumeProfile) : Bool :=
  decide (areaEnd p.firstSector p.segmentSize p.segmentCount ≤ 4294967296)

/-- The incident fields of the volume section after the clamps of R70. -/
def parseIncident (bs : List Byte) : Checked IncidentSettings :=
  let window := (byteAt bs 22).toNat
  let lookback := (byteAt bs 23).toNat
  let q := (byteAt bs 24).toNat
  let threshold := leNat bs 28 4
  let p : IncidentSettings :=
    { threshold := clampNat 1 98304 threshold
      runLength := clampNat 1 8 q
      windowSeconds := clampNat 1 60 window
      lookbackSeconds := min 120 lookback }
  { value := p
    clamped := p.threshold != threshold || p.runLength != q || p.windowSeconds != window || p.lookbackSeconds != lookback }

def strictlyRising : List Nat → Bool
  | [] => true
  | [_] => true
  | a :: b :: rest => decide (a < b) && strictlyRising (b :: rest)

/-- The charge section, or the stored block, after the clamps of R153 and R168. -/
def parseCharge (bs : List Byte) : Checked ChargeOptions :=
  let n := fun i => leNat bs i 2
  let t := fun i => leInt bs i 1
  let empty := clampNat 3000 3600 (n 28)
  let auxLimit := clampNat 100 3000 (n 22)
  let p : ChargeOptions :=
    { vreg := clampNat 4000 4400 (n 4)
      icc := clampNat 100 3000 (n 6)
      prechargeCurrent := clampNat 50 500 (n 8)
      terminationCurrent := clampNat 20 500 (n 10)
      prechargeMinutes := clampNat 5 120 (n 12)
      totalMinutes := clampNat 60 720 (n 14)
      t1 := clampInt (-20) 80 (t 16)
      t2 := clampInt (-20) 80 (t 17)
      t3 := clampInt (-20) 80 (t 18)
      t4 := clampInt (-20) 80 (t 19)
      recordingCap := clampNat 100 3000 (n 20)
      auxLimit := auxLimit - auxLimit % 50
      auxSag := clampNat 6000 20000 (n 24)
      capacity := clampNat 200 5000 (n 26)
      emptyVoltage := empty
      cutoffVoltage := min empty (max 2900 (n 30))
      reserve := min 300 (n 32)
      openCircuit := (List.range 11).map fun i => n (34 + 2 * i)
      autoOn := (byteAt bs 56).getLsbD 0
      fastSettle := (byteAt bs 56).getLsbD 1 }
  { value := p
    clamped := p.vreg != n 4 || p.icc != n 6 || p.prechargeCurrent != n 8 || p.terminationCurrent != n 10
      || p.prechargeMinutes != n 12 || p.totalMinutes != n 14 || p.t1 != t 16 || p.t2 != t 17 || p.t3 != t 18
      || p.t4 != t 19 || p.recordingCap != n 20 || p.auxLimit != n 22 || p.auxSag != n 24 || p.capacity != n 26
      || p.emptyVoltage != n 28 || p.cutoffVoltage != n 30 || p.reserve != n 32 }

/-- The temperature limits rise strictly (R153). -/
def limitsOrdered (o : ChargeOptions) : Bool :=
  decide (o.t1 < o.t2) && decide (o.t2 < o.t3) && decide (o.t3 < o.t4)

/-- Charge options that can be taken: the limits and the open-circuit table rise strictly (R153, R168). -/
def chargeAcceptable (o : ChargeOptions) : Bool :=
  limitsOrdered o && strictlyRising o.openCircuit

/-! ### The motion sensor's burst (R22) -/

/-- A signed 16-bit value, high byte first. -/
def sensorValue (bs : List Byte) (at_ : Nat) : Int :=
  (BitVec.ofNat 16 (beNat bs at_ 2)).toInt

/-- The gyro value of a sensor axis from the 13 in bytes of a burst, the first of which is discarded (R22). -/
def sensorGyro (bs : List Byte) (axis : Nat) : Int :=
  sensorValue bs (1 + 2 * axis)

def sensorAccel (bs : List Byte) (axis : Nat) : Int :=
  sensorValue bs (7 + 2 * axis)

/-! ### The card's answers (R136) -/

/-- The first byte with bit 7 clear is the response; any other byte is not one. -/
def isResponse (b : Byte) : Bool :=
  !b.getLsbD 7

/-- What the card sends before a block: a start mark, an error mark, or neither. -/
inductive Mark where
  | start
  | error
  | other
deriving DecidableEq, Repr

def markOf (b : Byte) : Mark :=
  if b = 0xFE#8 then .start else if 1 ≤ b.toNat ∧ b.toNat ≤ 15 then .error else .other

/-- A block answer whose bits 0 to 4 read 05h accepts the block. -/
def blockAccepted (b : Byte) : Bool :=
  b.extractLsb' 0 5 == 5#5

end Sys2Proof.Machine
end

