-- ==== Sys2Proof/Machine/ChargeUnit.lean ====
section
/-! DEFINITION. The Charge Controller's operations: inputs and selection (R150 to R152), the measurement (R154 to R164); the comparators' levels (R150, R176). -/

namespace Sys2Proof.Machine

/-! ### Inputs (R150, R151) -/

/-- The bounds of an input's window in mV, both included (R150). -/
def inputWindow : Input → Nat × Nat
  | .usb => (4400, 6200)
  | .aux => (6000, 24000)

/-- An input with this voltage is in its window (R150). -/
def inWindow (i : Input) (millivolts : Nat) : Bool :=
  decide ((inputWindow i).1 ≤ millivolts ∧ millivolts ≤ (inputWindow i).2)

/-- The comparator's report, as a command, of a change of an input's voltage (R150, log 48). -/
def inputCommands (i : Input) (before after : Nat) : List Instr :=
  if inWindow i before = inWindow i after then []
  else if inWindow i after then [.inputEntersWindow i] else [.inputLeavesWindow i]

/-- The supply warning after the system supply has come to this voltage: asserted below 3,000 mV, removed at 3,050 mV or above, and
as it was in between (R176). -/
def supplyLow (warning : Bool) (millivolts : Nat) : Bool :=
  decide (millivolts < 3000) || (warning && decide (millivolts < 3050))

/-- The comparator's report, as a command, of a change of the system supply (R176, log 48). -/
def supplyCommands (warning : Bool) (millivolts : Nat) : List Instr :=
  if supplyLow warning millivolts = warning then []
  else if warning then [.supplyWarningRemove] else [.supplyWarningAssert]

/-- A reset's command with what the comparators read of the inputs' voltages and of the system supply at its release; a supply from
3,000 to 3,049 mV is read as not low (R167, R178, log 48). -/
def coldResetAt (usb aux supply : Nat) : Instr :=
  .coldReset (inWindow .usb usb) (inWindow .aux aux) (supplyLow false supply)

def supplyResetAt (usb aux supply : Nat) : Instr :=
  .supplyReset (inWindow .usb usb) (inWindow .aux aux) (supplyLow false supply)

def Charge.input (c : Charge) : Input → InputUnit
  | .usb => c.usb
  | .aux => c.aux

def Charge.setInput (c : Charge) (i : Input) (u : InputUnit) : Charge :=
  match i with
  | .usb => { c with usb := u }
  | .aux => { c with aux := u }

/-- The qualify wait, 1,000 ms (R150). -/
def qualifyMicros : Nat :=
  1000000

/-- The loss debounce in force (R151). -/
def Charge.lossMicros (c : Charge) : Nat :=
  if c.windowOpen then 200000 else 20000

/-- An input enters its window (R150, R151). -/
def InputUnit.enter (u : InputUnit) (now : Stamp) : InputUnit :=
  match u.state with
  | .absent => { u with state := .qualifying, qualify := some now }
  | .qualifying => u
  | .present => { u with loss := none }

/-- An input leaves its window (R150, R151). -/
def InputUnit.leave (u : InputUnit) (now : Stamp) : InputUnit :=
  match u.state with
  | .absent => u
  | .qualifying => { u with state := .absent, qualify := none }
  | .present => { u with loss := some (u.loss.getD now) }

def InputUnit.qualifyDue (u : InputUnit) (now : Stamp) : Bool :=
  decide (u.state = .qualifying) && waitDue (u.qualify.map fun s => ⟨s, qualifyMicros⟩) now

def Charge.lossDue (c : Charge) (i : Input) (now : Stamp) : Bool :=
  decide ((c.input i).state = .present) && waitDue ((c.input i).loss.map fun s => ⟨s, c.lossMicros⟩) now

def InputUnit.toPresent (u : InputUnit) : InputUnit :=
  { u with state := .present, qualify := none }

def InputUnit.toAbsent (u : InputUnit) : InputUnit :=
  { u with state := .absent, qualify := none, loss := none }

/-! ### The current cap (R161, R162) -/

/-- The cap from the state (section 9.4). -/
def stateCap (o : ChargeOptions) : ChargeState → Nat
  | .precharge => o.prechargeCurrent
  | .fast => o.icc
  | .topoff => o.icc
  | .noBattery => 0
  | .idle => 0
  | .qualify => 0
  | .full => 0
  | .suspended => 0
  | .fault => 0

/-- The band cap (R157). -/
def bandCap (b : TempBand) (cap : Nat) : Nat :=
  match b with
  | .coldStop => 0
  | .cool => cap / 2
  | .normal => cap
  | .warm => cap / 2
  | .hotStop => 0

/-- The current cap formed afresh (R161). -/
def Charge.formCap (c : Charge) (o : ChargeOptions) : Nat :=
  let cap := bandCap c.band (stateCap o c.state)
  if c.recording then min cap o.recordingCap else cap

/-- The cap is formed, and a fall applies to I_c at once (R161, R162). -/
def Charge.recap (c : Charge) (o : ChargeOptions) : Charge :=
  { c with cap := c.formCap o, ic := min c.ic (c.formCap o) }

/-- The effective V_reg (R157). -/
def effectiveVreg (o : ChargeOptions) (b : TempBand) : Nat :=
  match b with
  | .warm => o.vreg - 100
  | .coldStop | .cool | .normal | .hotStop => o.vreg

/-! ### State entries -/

/-- Entry to QUALIFY (R155). -/
def Charge.enterQualify (c : Charge) : Charge :=
  { c with state := .qualify, ic := 0, totalTimer := 0, termination := none }

/-- Entry to IDLE (R152): the fault reason is cleared, the suspend causes emptied. -/
def Charge.enterIdle (c : Charge) : Charge :=
  { c with state := .idle, fault := .none, causes := .empty }

/-- Entry to FAULT (R159). -/
def Charge.enterFault (c : Charge) (f : ChargeFault) : Charge :=
  { c with state := .fault, fault := f, ic := 0, termination := none, causes := .empty }

/-! ### The selector (R152) -/

def Charge.choice (c : Charge) : Source :=
  if c.aux.state = .present then .aux else if c.usb.state = .present then .usb else .none

/-- The effect of a change of source, from `before` to the source in force (R152). -/
def Charge.switched (c : Charge) (before : Source) : Charge :=
  match before, c.source with
  | .none, _ => if c.state = .idle then c.enterQualify else c
  | _, .none => if c.state = .noBattery then { c with ic := 0 } else { c with ic := 0 }.enterIdle
  | _, _ => { c with ic := min c.ic 100, termination := none }

/-- The selector's choice takes effect (R152). -/
def Charge.select (c : Charge) (o : ChargeOptions) : Charge :=
  if c.choice = c.source then c else ({ c with source := c.choice }.switched c.source).recap o

/-! ### The measurement (R154 to R164) -/

/-- The most a charge timer holds, in µs (R159, log 17). -/
def timerTop : Nat :=
  4294967295 * 1000

/-- The states whose time the total timer counts (R159). -/
def counts : ChargeState → Bool
  | .precharge => true
  | .fast => true
  | .topoff => true
  | .noBattery => false
  | .idle => false
  | .qualify => false
  | .full => false
  | .suspended => false
  | .fault => false

/-- Step 1: the timers (R159, R163). -/
def Charge.countTimers (c : Charge) (stamp : Stamp) : Charge :=
  let dt := match c.lastStamp with
    | none => 0
    | some l => (stampDiff stamp l).toNat
  { c with
    totalTimer := if counts c.state then min timerTop (c.totalTimer + dt) else c.totalTimer
    prechargeTimer := if c.state = .precharge then min timerTop (c.prechargeTimer + dt) else c.prechargeTimer
    lastStamp := some stamp }

/-- Step 2: battery presence (R154). -/
def Charge.presence (c : Charge) (r : Readings) : Charge :=
  match r.temperature with
  | none =>
    { c with
      state := .noBattery, ic := 0, prechargeTimer := 0, totalTimer := 0, termination := none, causes := .empty
      fault := .none }
  | some _ =>
    if c.state = .noBattery then (if c.source = .none then c.enterIdle else c.enterQualify) else c

/-- The band of a temperature (R157). -/
def bandOfTemperature (o : ChargeOptions) (t : Int) : TempBand :=
  if t < o.t1 then .coldStop else if t < o.t2 then .cool else if t < o.t3 then .normal else if t < o.t4 then .warm
  else .hotStop

/-- Step 3: the band (R157). -/
def Charge.formBand (c : Charge) (o : ChargeOptions) (r : Readings) : Charge :=
  match r.temperature with
  | none => c
  | some t => { c with band := bandOfTemperature o t }

/-- Step 4: overvoltage (R159). -/
def Charge.overvoltage (c : Charge) (o : ChargeOptions) (r : Readings) : Charge :=
  match c.state with
  | .noBattery | .idle | .fault => c
  | .qualify | .precharge | .fast | .topoff | .full | .suspended =>
    if o.vreg + 150 < r.vbat then c.enterFault .overvolt else c

/-- The conditions that stop charging (R158, first paragraph). -/
def stopCauses (b : TempBand) (die : Int) : SuspendCauses :=
  ⟨decide (b = .coldStop), decide (b = .hotStop), decide (110 < die)⟩

/-- The causes that stay, with hysteresis (R158, table). -/
def heldCauses (o : ChargeOptions) (t die : Int) : SuspendCauses :=
  ⟨decide (t < o.t1 + 3), decide (o.t4 - 3 < t), decide (100 < die)⟩

/-- Step 5: suspension and resumption (R158). -/
def Charge.suspend (c : Charge) (o : ChargeOptions) (r : Readings) : Charge :=
  let stop := stopCauses c.band r.die
  match c.state with
  | .qualify | .precharge | .fast | .topoff | .full =>
    if stop.any then
      { c with causes := stop, returnState := some c.state, state := .suspended, ic := 0, termination := none }
    else c
  | .suspended =>
    let held := heldCauses o (r.temperature.getD 0) r.die
    let causes : SuspendCauses :=
      ⟨(c.causes.cold && held.cold) || stop.cold, (c.causes.hot && held.hot) || stop.hot, (c.causes.die && held.die) || stop.die⟩
    if causes.any then { c with causes := causes }
    else { c with causes := causes, state := c.returnState.getD .qualify }
  | .noBattery | .idle | .fault => c

/-- The limit and the sag threshold of the selected input (R164). -/
def Charge.inputLimit (c : Charge) (o : ChargeOptions) : Nat :=
  if c.source = .aux then o.auxLimit else c.usbLimit

def Charge.sagThreshold (c : Charge) (o : ChargeOptions) : Nat :=
  if c.source = .aux then o.auxSag else 4500

/-- V_in of the selected input. -/
def Charge.vin (c : Charge) (r : Readings) : Nat :=
  if c.source = .aux then r.vinAux else r.vinUsb

/-- The selected input is above its limit or below its sag threshold (R156, R164). -/
def Charge.strained (c : Charge) (o : ChargeOptions) (r : Readings) : Bool :=
  decide ((c.inputLimit o : Int) < r.inputCurrent ∨ c.vin r < c.sagThreshold o)

/-- The termination test (R156). -/
def Charge.terminates (c : Charge) (o : ChargeOptions) (current : Int) (r : Readings) : Bool :=
  decide (current ≤ o.terminationCurrent ∧ effectiveVreg o c.band ≤ r.vbat + 20) && !c.strained o r

/-- Step 6: progress (R155, R156). -/
def Charge.progress (c : Charge) (o : ChargeOptions) (current : Int) (r : Readings) (stamp : Stamp) : Charge :=
  let v := effectiveVreg o c.band
  match c.state with
  | .qualify => if r.vbat < 3000 then { c with state := .precharge, prechargeTimer := 0 } else { c with state := .fast }
  | .precharge => if 3000 ≤ r.vbat then { c with state := .fast } else c
  | .fast => if v ≤ r.vbat then { c with state := .topoff } else c
  | .topoff =>
    if c.terminates o current r then
      let start := c.termination.getD stamp
      if 60000000 ≤ stampDiff stamp start then { c with termination := some start, state := .full, ic := 0 }
      else { c with termination := some start }
    else { c with termination := none }
  | .full => if r.vbat + 100 < v then { c with state := .fast, totalTimer := 0, termination := none } else c
  | .noBattery | .idle | .suspended | .fault => c

/-- Step 7: the timer limits (R159). -/
def Charge.timerLimits (c : Charge) (o : ChargeOptions) : Charge :=
  if (c.state = .precharge ∧ o.prechargeMinutes * 60000000 ≤ c.prechargeTimer)
      ∨ (counts c.state = true ∧ o.totalMinutes * 60000000 ≤ c.totalTimer) then
    c.enterFault .timer
  else c

/-- I_c after the back-off, the advance and the top-off trim (R164 steps 1 to 3). -/
def Charge.steppedCurrent (c : Charge) (o : ChargeOptions) (r : Readings) : Nat :=
  let v := effectiveVreg o c.band
  let ic :=
    if c.strained o r then c.ic - 100
    else if r.inputCurrent + 100 ≤ c.inputLimit o ∧ c.sagThreshold o + 200 ≤ c.vin r
        ∧ (c.state = .topoff → r.vbat + 20 < v) then c.ic + 50
    else c.ic
  if c.state = .topoff ∧ v < r.vbat then ic - 50 else ic

/-- Step 9: the current step (R164). -/
def Charge.step (c : Charge) (o : ChargeOptions) (r : Readings) : Charge :=
  { c with ic := min (c.steppedCurrent o r) c.cap }

/-- The battery current as measured: a reading beyond either end is clamped (R169). -/
def batteryCurrent (r : Readings) : Int :=
  clampInt (-5000) 5000 r.current

/-- A measurement is taken whole (R163). -/
def Charge.measure (c : Charge) (o : ChargeOptions) (r : Readings) (stamp : Stamp) : Charge :=
  let c : Charge := { c with inputCurrent := r.inputCurrent }
  let c := ((((c.countTimers stamp).presence r).formBand o r).overvoltage o r).suspend o r
  (((c.progress o (batteryCurrent r) r stamp).timerLimits o).recap o).step o r

/-! ### Requests and reports (R151, R160, R161, R165) -/

/-- SET_INPUT_LIMIT's checked value (R165). -/
def inputLimitValue (milliamps : Nat) : Nat :=
  clampNat 100 3000 milliamps - clampNat 100 3000 milliamps % 50

/-- CLEAR_CHARGE_FAULT (R160). -/
def Charge.clearFault (c : Charge) (o : ChargeOptions) : Charge :=
  if c.state = .fault then ({ c with fault := .none }.enterQualify).recap o else c

/-- The Clip Writer's report (R161). -/
def Charge.report (c : Charge) (o : ChargeOptions) (recording : Bool) : Charge :=
  if c.recording = recording then c else { c with recording := recording }.recap o

/-- The Clip Writer's reports of a step: `entered` says that RECORDING or CLOSING was entered in it, be it only to be left in the
same step, and `recording` how the step ends (R107, R161). -/
def Charge.hear (c : Charge) (o : ChargeOptions) (entered recording : Bool) : Charge :=
  (c.report o (entered || recording)).report o recording

/-- Something that raises CHARGE has changed (R150, R152, R154). -/
def Charge.news (before after : Charge) : Bool :=
  decide (before.usb.state ≠ after.usb.state ∨ before.aux.state ≠ after.aux.state ∨ before.source ≠ after.source
    ∨ before.state ≠ after.state)

end Sys2Proof.Machine
end

