-- ==== Sys2Proof/Machine/GaugeUnit.lean ====
section
/-! DEFINITION. The Battery Gauge's operations: the cadence (R169), counting (R170), anchors and the estimate (R171 to R173),
the reserve and cut-off tests (R174, R175). -/

namespace Sys2Proof.Machine

/-! ### The cadence (R169) -/

/-- The cadence period of a power state. -/
def PowerState.slowCadence : PowerState → Bool
  | .dormant => true
  | .run => false
  | .shutting => false
  | .standby => false
  | .waking => false

def Gauge.period (g : Gauge) : Nat :=
  if g.slowCadence then 8000000 else 250000

/-- A measurement is due: the count has reached the target, or has advanced since the reset (R169). -/
def Gauge.due (g : Gauge) (now : Stamp) : Bool :=
  match g.next with
  | none => decide (now ≠ 0)
  | some t => reached now t 0

/-- The next target: the old one plus the period, or the first measurement's stamp plus it (R10, R169). -/
def Gauge.nextTarget (g : Gauge) (now : Stamp) : Stamp :=
  stampAdd (g.next.getD now) g.period

/-- A change of power state reaches the cadence (R169). -/
def Gauge.cadence (g : Gauge) (before after : PowerState) (now : Stamp) : Gauge :=
  { g with
    slowCadence := after.slowCadence
    next := if before = .dormant ∧ after = .waking then g.next.map fun t => stampMin t (stampAdd now 250000) else g.next }

/-! ### Charge (R170, R171) -/

def fullCharge (o : ChargeOptions) : Int :=
  (o.capacity * 1000 : Nat)

/-- The state of charge in per-mille (R171). -/
def Gauge.stateOfCharge (g : Gauge) (o : ChargeOptions) : Int :=
  g.q / o.capacity

/-- Q takes a value, with its carry; beyond either end it is clamped and the carry is 0 (R170 step 4). -/
def Gauge.setQ (g : Gauge) (o : ChargeOptions) (q carry : Int) : Gauge :=
  if q < 0 then { g with q := 0, carry := 0 }
  else if fullCharge o < q then { g with q := fullCharge o, carry := 0 }
  else { g with q := q, carry := carry }

/-- The charge of an interval is added to Q (R170). -/
def Gauge.count (g : Gauge) (o : ChargeOptions) (current : Int) (interval : Int) : Gauge :=
  let micros := interval.toNat + g.remainder
  let n := current * (micros / 1000 : Nat) + g.carry
  { g.setQ o (g.q + truncDiv n 3600) (n - truncDiv n 3600 * 3600) with remainder := micros % 1000 }

/-- A measurement's count, but where none is made (R170). -/
def Gauge.countMeasurement (g : Gauge) (o : ChargeOptions) (r : Readings) (stamp : Stamp) : Gauge :=
  let counted : Gauge := match g.lastStamp with
    | none => { g with remainder := 0 }
    | some l =>
      if g.state = .unset ∨ r.temperature = none then g else g.count o (batteryCurrent r) (stampDiff stamp l)
  { counted with lastStamp := some stamp }

/-! ### Anchors and the estimate (R172, R173) -/

/-- Q is anchored (R172). -/
def Gauge.anchor (g : Gauge) (q : Int) : Gauge :=
  { g with q := q, carry := 0, state := .anchored }

/-- The open-circuit estimate between two points of the table and after (R173); `i` counts the points passed. -/
def estimateFrom (capacity vbat : Nat) : Nat → List Nat → Nat
  | i, v :: w :: rest =>
    if w ≤ vbat then estimateFrom capacity vbat (i + 1) (w :: rest)
    else if vbat ≤ v then capacity * 100 * i
    else capacity * (100 * i * (w - v) + 100 * (vbat - v)) / (w - v)
  | i, _ => capacity * 100 * i

/-- R173. -/
def Gauge.estimate (g : Gauge) (o : ChargeOptions) (vbat : Nat) (stamp : Stamp) : Gauge :=
  { g with
    q := min (fullCharge o) (estimateFrom o.capacity vbat 0 o.openCircuit : Nat)
    carry := 0
    state := .estimated
    lastStamp := some stamp }

/-- The measurement makes the estimate: the first one with a temperature, or one that ends a run of OPEN readings (R173). -/
def Gauge.estimates (g : Gauge) (r : Readings) : Bool :=
  r.temperature.isSome && (decide (g.state = .unset) || g.wasOpen)

/-- The empty anchor's test (R172). -/
def emptyTest (o : ChargeOptions) (r : Readings) : Bool :=
  r.temperature.isSome && decide (r.vbat ≤ o.emptyVoltage ∧ batteryCurrent r < 0)

/-- The gauge's own count, estimate and empty anchor of a measurement (R170, R172, R173). -/
def Gauge.account (g : Gauge) (o : ChargeOptions) (r : Readings) (stamp : Stamp) : Gauge :=
  let g := if g.estimates r then g.estimate o r.vbat stamp else g.countMeasurement o r stamp
  let g := { g with wasOpen := r.temperature.isNone }
  if emptyTest o r then g.anchor 0 else g

/-- The full anchor (R172). -/
def Gauge.full (g : Gauge) (o : ChargeOptions) : Gauge :=
  g.anchor (fullCharge o)

/-- A load changes the capacity (R171). -/
def Gauge.newCapacity (g : Gauge) (before after : ChargeOptions) : Gauge :=
  if before.capacity = after.capacity then g
  else
    { g.setQ after g.q g.carry with state := if g.state = .unset then .unset else .estimated }

/-! ### Reserve and cut-off (R174, R175) -/

/-- A measurement takes the reserve loaded since the last one (R171). -/
def Gauge.takeReserve (g : Gauge) (o : ChargeOptions) : Gauge :=
  { g with reserveLevel := o.reserve }

/-- The reserve test holds (R174). -/
def Gauge.reserveTest (g : Gauge) (o : ChargeOptions) (p : PowerState) : Bool :=
  decide (g.state ≠ .unset ∧ g.stateOfCharge o ≤ g.reserveLevel ∧ p = .run) && !g.sourceSelected

/-- A measurement clears the reserve (R174). -/
def Gauge.reserveClears (g : Gauge) (o : ChargeOptions) : Bool :=
  g.reserve && decide (g.state ≠ .unset ∧ (g.reserveLevel : Int) + 20 < g.stateOfCharge o)

/-- The cut-off test holds (R175). -/
def Gauge.cutoffTest (g : Gauge) (o : ChargeOptions) (r : Readings) : Bool :=
  decide (r.vbat < o.cutoffVoltage) && !g.sourceSelected && r.temperature.isSome

/-- The cut-off run after a measurement (R175). -/
def Gauge.cutoffStep (g : Gauge) (o : ChargeOptions) (r : Readings) : Gauge :=
  { g with cutoffRun := if g.cutoffTest o r then bump 2 g.cutoffRun else 0 }

/-- CUTOFF is sent with this measurement (R175). -/
def Gauge.cutoffSent (g : Gauge) (o : ChargeOptions) (r : Readings) : Bool :=
  g.cutoffTest o r && decide (g.cutoffRun = 1)

end Sys2Proof.Machine
end

