-- ==== Sys2Proof/Config.lean ====
section
/-! DEFINITION. What the spec leaves open: the free values. None has a body, so nothing can be proved of a value of one. -/

namespace Sys2Proof.Config

/-- DESIGN CHOICE (log 24): the number given after clip number 4,294,967,295, which R87 does not state. The argument is
the volume's generation. -/
opaque clipNumberAfterLast : Nat → Nat

/-- DESIGN CHOICE (log 25): the byte at a place of the report page whose item has no value at the time and for which R199
gives no code. The first argument is the place, the second the report edition. -/
opaque unstatedReportByte : Nat → Nat → Byte

end Sys2Proof.Config
end

