-- ==== Sys2Proof/Machine/Formats.lean ====
section
/-! DEFINITION. The records that the part writes into the exchange area, on the card and into its store, byte by byte
(spec/12 section 12.10), and the reading back of those it wrote on the card. -/

namespace Sys2Proof.Machine

/-! ### Answers and receipts (R112, R197) -/

inductive AnswerOutcome where
  | done
  | refusedState
  | refusedParam
  | failed
  | unknownKind
deriving DecidableEq, Repr

def AnswerOutcome.code : AnswerOutcome → Nat
  | .done => 1
  | .refusedState => 2
  | .refusedParam => 3
  | .failed => 4
  | .unknownKind => 5

inductive FailReason where
  | torn
  | noCard
  | card
  | areaTooLarge
  | unformatted
  | supply
  | directoryFull
  | link
  | clipGone
  | store
deriving DecidableEq, Repr

def FailReason.code : FailReason → Nat
  | .torn => 1
  | .noCard => 2
  | .card => 3
  | .areaTooLarge => 4
  | .unformatted => 5
  | .supply => 6
  | .directoryFull => 7
  | .link => 8
  | .clipGone => 9
  | .store => 10

/-- What an owner answers: outcome, notes, reason with FAILED, and the data of the kind (R197). -/
structure Answer where
  outcome : AnswerOutcome
  clamped : Bool
  alreadyClosing : Bool
  reason : Option FailReason
  data : List Byte
deriving DecidableEq, Repr

def Answer.done : Answer :=
  ⟨.done, false, false, none, []⟩

def Answer.refusedState : Answer :=
  ⟨.refusedState, false, false, none, []⟩

def Answer.refusedParam : Answer :=
  ⟨.refusedParam, false, false, none, []⟩

def Answer.failed (r : FailReason) : Answer :=
  ⟨.failed, false, false, some r, []⟩

def Answer.unknownKind : Answer :=
  ⟨.unknownKind, false, false, none, []⟩

/-- DONE with the CLAMPED note when a field was changed. -/
def Answer.doneClamped (clamped : Bool) : Answer :=
  { Answer.done with clamped := clamped }

def Answer.withData (a : Answer) (d : List Byte) : Answer :=
  { a with data := d }

/-- The body of an answer, bytes 2 to 61 (spec/12 section 12.10). -/
def Answer.body (a : Answer) (kind : Nat) : List Byte :=
  (layoutFrom 62 2 [(2, toLe 1 kind), (3, toLe 1 a.outcome.code), (4, toLe 1 (bitsNat [a.clamped, a.alreadyClosing])),
    (5, toLe 1 ((a.reason.map FailReason.code).getD 0)), (8, a.data)]).take 60

inductive ReceiptStatus where
  | written
  | malformed
  | refused
  | stale
  | skipped
  | fetchFailed
  | cardFailed
  | abandoned
deriving DecidableEq, Repr

def ReceiptStatus.code : ReceiptStatus → Nat
  | .written => 1
  | .malformed => 2
  | .refused => 3
  | .stale => 4
  | .skipped => 5
  | .fetchFailed => 6
  | .cardFailed => 7
  | .abandoned => 8

/-- The records of the exchange area with their places (spec/12 section 12.10). -/
def answerRecord (slot : Nat) (edition : Edition) (kind : Nat) (a : Answer) : Record where
  kind := .answer slot
  offset := 0x400 + 64 * slot
  head := toLe 2 edition.toNat
  body := a.body kind
  tailAt := 62

def receiptRecord (h : HeldSlot) (status : ReceiptStatus) : Record where
  kind := .receipt h.slot
  offset := 0x1200 + 16 * h.slot
  head := toLe 2 h.edition.toNat
  body := layoutFrom 14 2 [(2, toLe 1 status.code), (4, toLe 4 h.seq)]
  tailAt := 14

/-! ### Correction entries and motion records (R62, spec/04 section 4.8) -/

def Band.bytes (b : Band) : List Byte :=
  toLeInt 2 b.x ++ (toLeInt 2 b.y ++ (toLeInt 2 b.r ++ toLe 2 b.flagWord))

/-- The body of an entry from byte 4: bands beyond B are not written (R62), and neither are the bytes past band 15, 144 to 251
(log 49). -/
def correctionBody (flags : EntryFlags) (centre : Stamp) (bands : List Band) : List Byte :=
  layoutFrom 16 4 [(4, toLe 2 flags.word), (6, toLe 1 bands.length), (8, stampBytes centre)]
    ++ bands.flatMap Band.bytes

def correctionRecord (n : Word32) (flags : EntryFlags) (centre : Stamp) (bands : List Band) : Record where
  kind := .correction (n.toNat % 8)
  offset := 0x700 + 256 * (n.toNat % 8)
  head := toLe 4 n.toNat
  body := correctionBody flags centre bands
  tailAt := 252

def axesBytes (a : Axes Int) : List Byte :=
  toLeInt 4 a.yaw ++ (toLeInt 4 a.pitch ++ toLeInt 4 a.roll)

def MotionRecord.bytes (r : MotionRecord) : List Byte :=
  layoutFrom 40 0 [(0, toLe 4 r.frame.toNat), (4, toLe 2 r.flags.word), (6, toLe 1 r.bands.length),
      (8, stampBytes r.centre), (16, axesBytes r.theta), (28, axesBytes r.path)]
    ++ r.bands.flatMap Band.bytes

/-- The payload of a MOTION chunk: the record count, then the records in order. -/
def motionPayload (rs : List MotionRecord) : List Byte :=
  toLe 4 rs.length ++ rs.flatMap MotionRecord.bytes

/-! ### Directory entries (R87, spec/12 section 12.10) -/

def optSegment (o : Option Nat) : Nat :=
  o.getD 65535

def Marker.bytes (m : Marker) : List Byte :=
  stampBytes m.stamp ++ toLe 1 m.kind.code

/-- A directory entry's 256 bytes, its framing editions zero; an EMPTY entry is all zero. -/
def dirEntryBytes : Option Clip → List Byte
  | none => List.replicate 256 0
  | some c =>
    layoutFrom 256 0
      [(2, toLe 1 c.state.code), (3, toLe 1 ((c.cause.map CloseCause.code).getD 0)), (4, toLe 4 c.number),
       (8, stampBytes c.start), (16, stampBytes (c.endStamp.getD 0)), (24, toLe 2 (optSegment c.first)),
       (26, toLe 2 (optSegment c.last)), (28, toLe 2 c.segments), (30, toLe 1 c.causes.word), (31, toLe 1 c.flagWord),
       (32, toLe 4 c.hostCount), (36, toLe 4 c.motionCount), (40, toLe 8 c.bytes), (48, toLe 4 c.drops),
       (52, toLe 4 c.motionDrops), (56, toLe 1 c.markers.length), (64, c.markers.flatMap Marker.bytes)]

/-- A directory entry read from the card: EMPTY when its state code names no state or its clip number is 0 (R97). -/
def parseDirEntry (bs : List Byte) : Option Clip :=
  match ClipState.ofCode (byteAt bs 2).toNat with
  | none => none
  | some st =>
    if leNat bs 4 4 = 0 then none
    else
      some
        { number := leNat bs 4 4
          state := st
          cause := CloseCause.ofCode (byteAt bs 3).toNat
          start := stampAt bs 8
          endStamp := if st = .openClip then none else some (stampAt bs 16)
          first := if leNat bs 24 2 = 65535 then none else some (leNat bs 24 2)
          last := if leNat bs 26 2 = 65535 then none else some (leNat bs 26 2)
          segments := leNat bs 28 2
          hostCount := leNat bs 32 4
          motionCount := leNat bs 36 4
          bytes := leNat bs 40 8
          drops := leNat bs 48 4
          motionDrops := leNat bs 52 4
          causes := ⟨(byteAt bs 30).getLsbD 0, (byteAt bs 30).getLsbD 1, (byteAt bs 30).getLsbD 2⟩
          markers := (List.range (min 16 (byteAt bs 56).toNat)).map fun i =>
            ⟨stampAt bs (64 + 9 * i), MarkerKind.ofCode (byteAt bs (72 + 9 * i)).toNat⟩
          overflow := (byteAt bs 31).getLsbD 0
          motionTrack := (byteAt bs 31).getLsbD 1
          unkeyed := (byteAt bs 31).getLsbD 2 }

/-- A mirror entry: the 256 bytes with the mirror edition at both ends (R93). -/
def mirrorRecord (index : Nat) (follows : Bool) (edition : Edition) (c : Option Clip) : Record where
  kind := .mirror index follows
  offset := 0x2000 + 256 * index
  head := toLe 2 edition.toNat
  body := slice (dirEntryBytes c) 2 252
  tailAt := 254

/-! ### The directory zone (R85, R86, R88) -/

/-- The characters RIDEVOL1. -/
def volumeSignature : List Byte :=
  [0x52#8, 0x49#8, 0x44#8, 0x45#8, 0x56#8, 0x4F#8, 0x4C#8, 0x31#8]

def headerFields (generation size count nextClip : Nat) : List Byte :=
  volumeSignature ++ (toLe 4 generation ++ (toLe 4 size ++ (toLe 4 count ++ toLe 4 nextClip)))

/-- Zone sector 0 with its check over bytes 0 to 23. -/
def headerSector (generation size count nextClip : Nat) : List Byte :=
  let f := headerFields generation size count nextClip
  layoutFrom 512 0 [(0, f), (24, toLe 4 (crc32 f).toNat)]

/-- A header read from zone sector 0: generation, segment size, segment count, next clip number. -/
structure VolumeHeader where
  generation : Nat
  size : Nat
  count : Nat
  nextClip : Nat
deriving DecidableEq, Repr

/-- The header in zone sector 0, when it is valid (R86). -/
def parseHeader (bs : List Byte) : Option VolumeHeader :=
  let h : VolumeHeader := ⟨leNat bs 8 4, leNat bs 12 4, leNat bs 16 4, leNat bs 20 4⟩
  if slice bs 0 8 = volumeSignature ∧ leNat bs 24 4 = (crc32 (slice bs 0 24)).toNat
      ∧ (h.size = 2048 ∨ h.size = 4096 ∨ h.size = 8192 ∨ h.size = 16384) ∧ 16 ≤ h.count ∧ h.count ≤ 1024 then
    some h
  else none

def MapEntry.bytes (e : MapEntry) : List Byte :=
  toLe 1 e.state.code ++ (0 :: toLe 2 (optSegment e.link))

/-- A map entry read from the card; a link at or above the segment count is END (R97). -/
def parseMapEntry (count : Nat) (bs : List Byte) : MapEntry where
  state := SegmentState.ofCode (byteAt bs 0).toNat
  link := if leNat bs 2 2 < count then some (leNat bs 2 2) else none

def entryAt (dir : List (Option Clip)) (i : Nat) : Option Clip :=
  dir.getD i none

def freeEntry : MapEntry :=
  ⟨.free, none⟩

def mapAt (map : List MapEntry) (s : Nat) : MapEntry :=
  map.getD s freeEntry

/-- The zone sector that holds directory entry `i`, and the one that holds map entry `s` (R85). -/
def dirSector (i : Nat) : Nat :=
  1 + i / 2

def mapSector (s : Nat) : Nat :=
  129 + s / 128

/-- A zone sector's content, from the tables (R92). -/
def zoneSector (t : Tables) (z : Nat) : List Byte :=
  if z = 0 then headerSector t.generation t.geometry.segmentSize t.geometry.segmentCount t.nextClip
  else if z < 129 then dirEntryBytes (entryAt t.dir (2 * (z - 1))) ++ dirEntryBytes (entryAt t.dir (2 * (z - 1) + 1))
  else (List.range 128).flatMap fun i => (mapAt t.map (128 * (z - 129) + i)).bytes

/-! ### Segments and chunks (R90, R91) -/

def segmentHeaderFields (clip ordinal generation firstSeq : Nat) : List Byte :=
  toLe 4 clip ++ (toLe 4 ordinal ++ (toLe 4 generation ++ toLe 4 firstSeq))

/-- A segment's first sector, with its check over bytes 0 to 15. -/
def segmentHeaderSector (clip ordinal generation firstSeq : Nat) : List Byte :=
  let f := segmentHeaderFields clip ordinal generation firstSeq
  layoutFrom 512 0 [(0, f), (16, toLe 4 (crc32 f).toNat)]

/-- A segment header names a clip (R90). -/
def segmentNames (bs : List Byte) (clip ordinal generation : Nat) : Bool :=
  leNat bs 16 4 == (crc32 (slice bs 0 16)).toNat && leNat bs 0 4 == clip && leNat bs 4 4 == ordinal
    && leNat bs 8 4 == generation

/-- The characters RCHK. -/
def chunkMarker : List Byte :=
  [0x52#8, 0x43#8, 0x48#8, 0x4B#8]

/-- The chunk header with its CRC field as given: 32 bytes, the CRC at 28 (R91, spec/12 section 12.10). -/
def chunkHeader (kind : ChunkKind) (key : Bool) (seq length : Nat) (stamp : Stamp) (crc : Nat) : List Byte :=
  chunkMarker ++ (toLe 1 kind.code ++ (boolByte key :: 0 :: 0 :: (toLe 4 seq ++ (toLe 4 length ++ (stampBytes stamp
    ++ (0 :: 0 :: 0 :: 0 :: toLe 4 crc))))))

/-- The sectors that a chunk takes (R91). -/
def chunkSectors (length : Nat) : Nat :=
  (32 + length + 511) / 512

/-- The largest payload for a segment size (R91). -/
def largestPayload (segmentSize : Nat) : Nat :=
  min 1048576 ((segmentSize - 1) * 512 - 32)

/-- A chunk on the card: header with the CRC over itself (its field zero) and the payload, the payload, zero padding. -/
def chunkImage (kind : ChunkKind) (key : Bool) (seq : Nat) (stamp : Stamp) (payload : List Byte) : List Byte :=
  let crc := crc32 (chunkHeader kind key seq payload.length stamp 0 ++ payload)
  chunkHeader kind key seq payload.length stamp crc.toNat
    ++ (payload ++ List.replicate (chunkSectors payload.length * 512 - (32 + payload.length)) 0)

/-- What the recovery scan reads of a chunk header (R98). -/
structure ReadChunk where
  motion : Bool
  seq : Nat
  length : Nat
  stamp : Stamp
deriving DecidableEq, Repr

/-- A chunk header whose marker, kind and length can be those of a chunk in the rest of the segment (R98). -/
def parseChunkHeader (bs : List Byte) (segmentSize sector : Nat) : Option ReadChunk :=
  let kind := (byteAt bs 4).toNat
  let length := leNat bs 12 4
  if slice bs 0 4 = chunkMarker ∧ 1 ≤ kind ∧ kind ≤ 3 ∧ 1 ≤ length ∧ length ≤ largestPayload segmentSize
      ∧ sector + chunkSectors length ≤ segmentSize then
    some ⟨kind = 3, leNat bs 8 4, length, stampAt bs 16⟩
  else none

/-- The CRC of a chunk read whole matches (R91, R98). -/
def chunkCrcOk (bs : List Byte) (length : Nat) : Bool :=
  leNat bs 28 4 == (crc32 (slice bs 0 28 ++ ([0, 0, 0, 0] ++ (bs.drop 32).take length))).toNat

/-! ### Charge options (R186, spec/12 section 12.10) -/

/-- Bytes 4 to 56 of the charge section. -/
def chargeFields (o : ChargeOptions) : List Byte :=
  toLe 2 o.vreg ++ (toLe 2 o.icc ++ (toLe 2 o.prechargeCurrent ++ (toLe 2 o.terminationCurrent
    ++ (toLe 2 o.prechargeMinutes ++ (toLe 2 o.totalMinutes ++ (toLeInt 1 o.t1 ++ (toLeInt 1 o.t2 ++ (toLeInt 1 o.t3
    ++ (toLeInt 1 o.t4 ++ (toLe 2 o.recordingCap ++ (toLe 2 o.auxLimit ++ (toLe 2 o.auxSag ++ (toLe 2 o.capacity
    ++ (toLe 2 o.emptyVoltage ++ (toLe 2 o.cutoffVoltage ++ (toLe 2 o.reserve ++ (o.openCircuit.flatMap (toLe 2)
    ++ toLe 1 (bitsNat [o.autoOn, o.fastSettle]))))))))))))))))))

/-- The stored block: bytes 4 to 56 as in the section, the CRC-16 at 62 (R187, R200). -/
def storedBlock (o : ChargeOptions) : List Byte :=
  let head := layoutFrom 62 0 [(4, chargeFields o)]
  head ++ toLe 2 (crc16Stored head).toNat

/-- What a reset finds in the store: the block's status and the options that follow. The temperature limits must rise strictly after
the clamps (R186, log 64). -/
def readStore (block : List Byte) (torn : Bool) : BlockStatus × ChargeOptions :=
  if torn then (.failing, .default)
  else if block.all (fun b => b == 0xFF#8) then (.blank, .default)
  else if leNat block 62 2 = (crc16Stored (slice block 0 62)).toNat ∧ chargeAcceptable (parseCharge block).value = true then
    (.valid, (parseCharge block).value)
  else (.failing, .default)

end Sys2Proof.Machine
end

