-- ==== Sys2Proof/Machine/Exchange.lean ====
section
/-! DEFINITION. The Exchange Unit's own operations: transfers and records on the link (R190, R196), answers (R197), the
registers (R191), the attention line (R192) and pickups (R194). -/

namespace Sys2Proof.Machine

/-- What every block sees of the others as it acts: the count (R8) and the supply warning (R176). -/
structure Env where
  now : Stamp
  warn : Bool
deriving DecidableEq, Repr

/-! ### Transfers -/

def Exchange.running (e : Exchange) : Bool :=
  decide (e.state = .running)

/-- BASE (R190). -/
def Exchange.base (e : Exchange) : Nat :=
  e.baseHi.toNat * 4294967296 + e.baseLo.toNat

/-- A transfer is issued after those its owners asked for before (R190). -/
def Exchange.issue (e : Exchange) (now : Stamp) (p : Purpose) (address : Nat) (out : Option (List Byte)) (length : Nat) :
    Exchange :=
  { e with transfers := e.transfers ++ [⟨p, address, out, length, now⟩] }

/-- A read of the exchange area. -/
def Exchange.readArea (e : Exchange) (now : Stamp) (p : Purpose) (offset length : Nat) : Exchange :=
  e.issue now p (e.base + offset) none length

def Exchange.transferAt (e : Exchange) (n : Nat) : Option Transfer :=
  e.transfers[n]?

/-- A transfer has ended and leaves the list. -/
def Exchange.dropTransfer (e : Exchange) (n : Nat) : Exchange :=
  { e with transfers := e.transfers.eraseIdx n }

/-- The place in the area and the bytes of one part of a record (R196). -/
def Record.partOf (r : Record) : RecordPart → Nat × List Byte
  | .head => (r.offset, r.head)
  | .body => (r.offset + r.head.length, r.body)
  | .tail => (r.offset + r.tailAt, r.head)

/-- A part of a record is issued, to its place from BASE as it now stands (R196, log 77). -/
def Exchange.issuePart (e : Exchange) (now : Stamp) (r : Record) (p : RecordPart) : Exchange :=
  e.issue now (.record r p) (e.base + (r.partOf p).1) (some (r.partOf p).2) (r.partOf p).2.length

/-- A request's slot is free once its answer is written, skipped or dropped (R197). -/
def Exchange.freeSlot (e : Exchange) (slot : Nat) : Exchange :=
  { e with working := e.working.set slot none }

def Exchange.workingAt (e : Exchange) (slot : Nat) : Option Working :=
  e.working.getD slot none

/-- What a record's write leaves behind, made or skipped (R196): an answer frees its slot. -/
def Exchange.recordDone (e : Exchange) (k : RecordKind) : Exchange :=
  match k with
  | .answer slot => e.freeSlot slot
  | .receipt _ => e
  | .correction _ => e
  | .mirror _ _ => e
  | .report => e

/-- A transfer whose work was dropped goes on and finds nothing to act on at its end. -/
def Purpose.withoutFetch : Purpose → Purpose
  | .payload _ => .payload false
  | p => p

def Purpose.withoutCopy : Purpose → Purpose
  | .readBackWrite _ => .readBackWrite false
  | p => p

def Purpose.withoutSheet : Purpose → Purpose
  | .sheet _ => .sheet false
  | p => p

def Exchange.mapPurposes (e : Exchange) (f : Purpose → Purpose) : Exchange :=
  { e with transfers := e.transfers.map fun t => { t with purpose := f t.purpose } }

/-- A record is written head first, or skipped while the exchange is not RUNNING (R196). -/
def Exchange.writeRecord (e : Exchange) (now : Stamp) (r : Record) : Exchange :=
  if e.running then e.issuePart now r .head else e.recordDone r.kind

/-- An owner's answer goes to the slot of its request, if that request is still being worked (R197). -/
def Exchange.answer (e : Exchange) (now : Stamp) (slot : Nat) (a : Answer) : Exchange :=
  match e.workingAt slot with
  | none => e
  | some w => e.writeRecord now (answerRecord slot w.edition w.kind a)

def Media.answer (m : Media) (env : Env) (slot : Nat) (a : Answer) : Media :=
  { m with exch := m.exch.answer env.now slot a }

def Media.answerAll (m : Media) (env : Env) (slots : List Nat) (a : Answer) : Media :=
  slots.foldl (fun m slot => m.answer env slot a) m

/-! ### Registers (R191, R192) -/

/-- A period code as CONTROL takes it: 0 becomes 1, above 20 becomes 20 (R191). -/
def takenPeriod (code : BitVec 5) : BitVec 5 :=
  if code = 0 then 1 else if 20 < code.toNat then 20 else code

/-- The pickup period in µs (R191). -/
def Exchange.periodMicros (e : Exchange) : Nat :=
  (takenPeriod e.period).toNat * 5000

def Exchange.control (e : Exchange) : Word32 :=
  BitVec.ofNat 32 ((if e.run then 1 else 0) + 2 * e.period.toNat + 256 * e.enables.toNat)

/-- What a 32-bit read of the register window gives (R190, spec/12 section 12.2). -/
def Exchange.readRegister (e : Exchange) (offset : Nat) : Word32 :=
  match offset with
  | 0x00 => 0x01010029#32
  | 0x04 => e.control
  | 0x08 => e.attn.setWidth 32
  | 0x0C => e.baseLo
  | 0x10 => e.baseHi
  | _ => 0

/-- The commands that a host's 32-bit write to CONTROL stands for (log 8). -/
def controlWrite (value : Word32) : List Instr :=
  [.attentionEnableSet (value.extractLsb' 8 11), .pickupPeriodSet (value.extractLsb' 1 5),
    if value.getLsbD 0 then .runStart else .runStop]

/-- A flag is set whose enable is set (R192). -/
def Exchange.wantsAttention (e : Exchange) : Bool :=
  e.attn &&& e.enables != 0

/-- BASE may be written while STOPPED or FAULTED; BASE_LO ignores bits 0 to 11 (R191). -/
def Exchange.writeBase (e : Exchange) (r : BaseRegister) (value : Word32) : Exchange :=
  if e.running then e
  else
    match r with
    | .lo => { e with baseLo := value &&& 0xFFFFF000#32 }
    | .hi => { e with baseHi := value }

/-- Writing 1 to a bit of ATTN clears that flag (R192). -/
def Exchange.clearFlags (e : Exchange) (bits : Word32) : Exchange :=
  { e with attn := e.attn &&& ~~~ (bits.setWidth 11) }

/-! ### Pickups (R194, R195) -/

/-- A pickup begins: it is stamped, the period wait is set from that stamp, and the request board is read. An expiry that has fallen
and has not been taken is not moved: it is owed (R194, log 65). -/
def Exchange.beginPickup (e : Exchange) (now : Stamp) : Exchange :=
  { e.readArea now .requestBoard 0x200 512 with
    pickup := some ⟨now, .requests, false⟩
    pickupHeld := false
    periodWait := some ⟨now, e.periodMicros⟩
    periodOwed := e.periodOwed || waitDue e.periodWait now }

/-- A pickup is due: it begins at once, or is held while one is in progress (R194). -/
def Exchange.pickupDue (e : Exchange) (now : Stamp) : Exchange :=
  if e.running then
    match e.pickup with
    | none => e.beginPickup now
    | some _ => { e with pickupHeld := true }
  else e

/-- A pickup ends, and a held one begins (R194). -/
def Exchange.endPickup (e : Exchange) (now : Stamp) : Exchange :=
  let e := { e with pickup := none }
  if e.running && e.pickupHeld then e.beginPickup now else { e with pickupHeld := false }

/-- RUN written 0: pickups stop, and one in progress ends after its transfer in flight (R193). -/
def Exchange.stop (e : Exchange) : Exchange :=
  { e with
    state := .stopped
    run := false
    pickup := e.pickup.map fun p => { p with ending := true }
    pickupHeld := false
    periodWait := none
    periodOwed := false }

/-- The start: last-taken editions 0, the first pickup at once (R193, R194). The report edition starts from 1 (R196). -/
def Exchange.start (e : Exchange) (now : Stamp) : Exchange :=
  Exchange.pickupDue
    { e with
      state := .running
      run := true
      requestTaken := List.replicate 8 0
      chunkTaken := List.replicate 24 0
      periodWait := none
      periodOwed := false
      reportEdition := 0 }
    now

/-- The exchange becomes FAULTED: EXCHANGE_FAULT is raised, pickups stop, transfers in flight are abandoned (R193). Slots
whose answers were on their way are free, as if the answers had been written (R196, log 40). -/
def Exchange.fault (e : Exchange) : Exchange :=
  let done := fun (e : Exchange) (t : Transfer) =>
    match t.purpose with
    | .record r _ => e.recordDone r.kind
    | .profileSection slot _ => e.freeSlot slot
    | .requestBoard | .chunkBoard | .sheet _ | .payload _ | .readBackWrite _ => e
  let e := e.transfers.foldl done e
  ({ e with
    state := .faulted
    pickup := none
    pickupHeld := false
    periodWait := none
    periodOwed := false
    transfers := [] } : Exchange).raise .exchangeFault

/-- The link is down or the host is reset: CONTROL, ATTN and BASE become 0, the exchange STOPPED, nothing is in flight
(R191, R193, log 10). -/
def Exchange.shut (e : Exchange) : Exchange :=
  { e.fault with
    state := .stopped
    run := false
    period := 0
    enables := 0
    attn := 0
    baseLo := 0
    baseHi := 0 }

end Sys2Proof.Machine
end

