-- ==== Sys2Proof/Machine/CardPort.lean ====
section
/-! DEFINITION. The Card Port: the detect line, identification, claims and the arbiter, runs (R136 to R149). What ends a run
leaves an outcome in `Card.outcomes`, which the Clip Writer takes. -/

namespace Sys2Proof.Machine

/-! ### Places and outcomes -/

def Card.place (c : Card) : ClaimClass → Option Claim
  | .volume => c.volume
  | .chunk => c.chunk
  | .readBack => c.readBack

def Card.setPlace (c : Card) (cls : ClaimClass) (claim : Option Claim) : Card :=
  match cls with
  | .volume => { c with volume := claim }
  | .chunk => { c with chunk := claim }
  | .readBack => { c with readBack := claim }

def Card.deliver (c : Card) (cls : ClaimClass) (o : RunOutcome) (got : List Byte) (completion : Stamp) : Card :=
  { c with outcomes := c.outcomes ++ [⟨cls, o, got, completion⟩] }

/-- The first outcome has been taken by the Clip Writer. -/
def Card.takeOutcome (c : Card) : Card :=
  { c with outcomes := c.outcomes.tail }

def Claim.isWrite (c : Claim) : Bool :=
  c.data.isSome

/-- A claim handed to the Card Port (R140, R147). -/
def Card.hand (c : Card) (env : Env) (cls : ClaimClass) (claim : Claim) : Card :=
  match c.state with
  | .absent => c.deliver cls .absent [] env.now
  | .fault => c.deliver cls .timeout [] env.now
  | .identifying | .ready | .busy =>
    if claim.isWrite && env.warn then c.deliver cls .writeError [] env.now else c.setPlace cls (some claim)

/-- The Clip Writer drops the work of a class: a waiting claim is withdrawn, a run in flight goes on unwanted (R140). -/
def Card.withdraw (c : Card) (cls : ClaimClass) : Card :=
  { c.setPlace cls none with
    run := c.run.map fun r => if r.cls = cls then { r with wanted := false } else r
    outcomes := c.outcomes.filter fun d => d.cls ≠ cls }

def Card.withdrawAll (c : Card) : Card :=
  ((c.withdraw .volume).withdraw .chunk).withdraw .readBack

/-! ### Exchanges (R136) -/

/-- An exchange with the card: one command of the table, its response and what follows it (R136, log 47). -/
inductive CardExchange where
  | reset
  | readiness
  | capacity
  | status
  | read (start : Nat)
  | write (start : Nat)
  | stop
deriving DecidableEq, Repr

/-- The exchange that an identification step belongs to; the wake step belongs to none (R139). -/
def IdentStep.exchange : IdentStep → Option CardExchange
  | .wake => none
  | .reset => some .reset
  | .readiness => some .readiness
  | .capacity => some .capacity
  | .capacityBlock => some .capacity
  | .status _ => some .status

/-- The exchange that the run's present phase belongs to: blocks, busy periods and the stop mark follow the read or write command; the
stop command and the status command are exchanges of their own (R142, R143). -/
def Run.exchange (r : Run) : CardExchange :=
  match r.phase with
  | .command | .block | .busy | .finalBusy | .rejected =>
    if r.claim.isWrite then .write r.claim.start else .read r.claim.start
  | .stop => .stop
  | .status => .status

/-- The exchange in progress; a run that has begun while a stop command is owed waits for its response (R136, log 15). -/
def Card.exchange (c : Card) : Option CardExchange :=
  if c.stopOwed then some .stop
  else
    match c.ident with
    | some step => step.exchange
    | none => c.run.map Run.exchange

/-- An exchange begins: the select line, high since the exchange before it was over, falls, and the command is sent
(R136, log 47). -/
def Card.begin (c : Card) : Card :=
  { c with exchanges := c.exchanges + 1 }

/-! ### The arbiter (R141, R144) -/

/-- A write claim may not begin while the supply warning is asserted (R141, R147). -/
def Claim.mayBegin (env : Env) (c : Claim) : Bool :=
  !(c.isWrite && env.warn)

/-- The claim of highest rank among those that may begin (R141). -/
def Card.pick (c : Card) (env : Env) : Option (ClaimClass × Claim) :=
  match c.volume.filter (Claim.mayBegin env) with
  | some v => some (.volume, v)
  | none =>
    match c.chunk.filter (Claim.mayBegin env) with
    | some v => some (.chunk, v)
    | none => (c.readBack.filter (Claim.mayBegin env)).map fun v => (.readBack, v)

/-- The range check before a claim begins (R144). -/
def Card.inRange (c : Card) (claim : Claim) : Bool :=
  decide (1 ≤ claim.count) && decide (claim.count ≤ 4096) && decide (claim.start + claim.count ≤ c.capacity)

/-- A claim begins as a run. Its command goes out at once, or after the response to a stop command that is owed (R141, log 15). -/
def Card.startRun (c : Card) (env : Env) (cls : ClaimClass) (claim : Claim) : Card :=
  let c : Card := { c with state := .busy, run := some ⟨cls, claim, 0, .command, none, [], env.now, true⟩ }
  if c.stopOwed then c else c.begin

/-- The arbiter at a READY card: it starts the claim of highest rank, or ends it when its range does not fit. (R141, R144). -/
def Card.arbitrate (c : Card) (env : Env) : Option Card :=
  if c.state = .ready then
    match c.pick env with
    | none => none
    | some (cls, claim) =>
      let c := c.setPlace cls none
      if c.inRange claim then
        some (c.startRun env cls claim)
      else some (c.deliver cls (if claim.isWrite then .writeError else .readError) [] env.now)
  else none

/-! ### Identification (R138, R139, R145) -/

/-- An identification is entered: SLOW, the 1,000 ms wait, and the wake step. -/
def Card.enterIdent (c : Card) (now : Stamp) (recovery : Bool) : Card :=
  { c with
    state := .identifying
    fast := false
    run := none
    ident := some .wake
    identWait := some ⟨now, 1000000⟩
    recovery := recovery
    stopOwed := false }

/-- The wake step has clocked its idle bytes; it awaits no answer, and the reset command follows within the step (log 47). -/
def Card.wakeEnd (c : Card) : Card :=
  match c.ident with
  | some .wake => { c with ident := some .reset }.begin
  | some .reset | some .readiness | some .capacity | some .capacityBlock | some (.status _) | none => c

/-- An identification begins: the wake step, and then the reset command (R139 steps 1 and 2). -/
def Card.identify (c : Card) (now : Stamp) (recovery : Bool) : Card :=
  (c.enterIdent now recovery).wakeEnd

/-- Every waiting claim ends with an outcome (R140, R145). DESIGN CHOICE: the spec gives no order in which the outcomes of several claims
reach the Clip Writer; here it is that of the classes' ranks, VOLUME, CHUNK, READ_BACK (log 51). -/
def Card.endClaims (c : Card) (o : RunOutcome) (now : Stamp) : Card :=
  let step := fun (c : Card) (cls : ClaimClass) =>
    match c.place cls with
    | none => c
    | some _ => (c.setPlace cls none).deliver cls o [] now
  step (step (step c .volume) .chunk) .readBack

/-- An identification fails (R139): FAULT, waiting claims end TIMEOUT. -/
def Card.identFail (c : Card) (now : Stamp) (timedOut : Bool) : Card :=
  Card.endClaims
    { c with
      state := .fault
      ident := none
      identWait := none
      timeouts := if timedOut then bump 65535 c.timeouts else c.timeouts
      capacity := if c.recovery then c.capacity else 0 }
    .timeout now

/-- Step 5 has completed with the size read (R139). -/
def Card.identEnd (c : Card) (now : Stamp) (size : Nat) : Card :=
  if c.recovery && size != c.capacity then c.identFail now false
  else { c with state := .ready, fast := true, ident := none, identWait := none, capacity := size }

def Media.setCard (m : Media) (c : Card) : Media :=
  { m with card := c }

/-- The Card Port has acted: CARD is raised when the card state became ABSENT, READY or FAULT, but not when it came back from
BUSY to READY (R138). -/
def Media.cardNews (m : Media) (c : Card) : Media :=
  if c.state ≠ m.card.state
      ∧ (c.state = .absent ∨ c.state = .fault ∨ (c.state = .ready ∧ m.card.state ≠ .busy)) then
    (m.setCard c).raise .card
  else m.setCard c

/-! ### Runs (R142, R143) -/

/-- The run in flight ends with an outcome other than TIMEOUT, and the card is READY. -/
def Card.endRun (c : Card) (r : Run) (o : RunOutcome) (completion : Stamp) : Card :=
  let c := { c with run := none, state := .ready }
  if r.wanted then c.deliver r.cls o r.got completion else c

/-- The run in flight ends TIMEOUT, and a RECOVERY identification begins (R145). -/
def Card.timeOutRun (c : Card) (now : Stamp) (r : Run) : Card :=
  let c := { c with timeouts := bump 65535 c.timeouts }
  let c := if r.wanted then c.deliver r.cls .timeout r.got now else c
  c.identify now true

/-- READ_ERROR: the total rises, and the port sends the stop command (R142, log 15). -/
def Card.failRead (c : Card) (now : Stamp) (r : Run) : Card :=
  { c.endRun r .readError now with readErrors := bump 65535 c.readErrors, stopOwed := true }.begin

/-- WRITE_ERROR with the total (R143). -/
def Card.failWrite (c : Card) (now : Stamp) (r : Run) : Card :=
  { c.endRun r .writeError now with writeErrors := bump 65535 c.writeErrors }

def Card.setRun (c : Card) (r : Run) : Card :=
  { c with run := some r }

/-- The waits of R142 and R143. -/
def sectorWait (now : Stamp) : Wait :=
  ⟨now, 100000⟩

def busyWait (now : Stamp) : Wait :=
  ⟨now, 250000⟩

/-- The response to the stop command of a READ_ERROR, or its absence: that exchange is over, and the command of a run that has begun
meanwhile goes out (R142, log 15). -/
def Card.stopAnswered (c : Card) : Card :=
  let c := { c with stopOwed := false }
  if c.run.isSome then c.begin else c

/-- A response byte to the command of an identification step; readiness is repeated one exchange after another (R136, R139). -/
def Card.identResponse (c : Card) (now : Stamp) (step : IdentStep) (response status : Byte) : Card :=
  match step with
  | .wake => c
  | .reset => if response = 1 then { c with ident := some .readiness }.begin else c.identFail now false
  | .readiness =>
    if response = 0 then { c with ident := some .capacity }.begin
    else if response = 1 then c.begin
    else c.identFail now false
  | .capacity => if response = 0 then { c with ident := some .capacityBlock } else c.identFail now false
  | .capacityBlock => c
  | .status size => if response = 0 ∧ status = 0 then c.identEnd now size else c.identFail now false

/-- A response byte to the command of a run (R136, R142, R143). -/
def Card.runResponse (c : Card) (now : Stamp) (r : Run) (response status : Byte) : Card :=
  match r.phase with
  | .command =>
    if response = 0 then
      c.setRun { r with phase := .block, wait := if r.claim.isWrite then none else some (sectorWait now) }
    else if r.claim.isWrite then c.failWrite now r
    else c.failRead now r
  | .stop => if response = 0 then c.endRun r .ok r.completion else c.failRead now r
  | .status => if response = 0 ∧ status = 0 then c.endRun r .ok r.completion else c.failWrite now r
  | .block | .busy | .finalBusy | .rejected => c

/-- The card's response byte to a command (R136). The response to a stop command sent after a READ_ERROR ends that exchange
and nothing else (log 15). -/
def Card.response (c : Card) (now : Stamp) (response status : Byte) : Card :=
  if !isResponse response then c
  else if c.stopOwed then c.stopAnswered
  else
    match c.ident, c.run with
    | some step, _ => c.identResponse now step response status
    | none, some r => c.runResponse now r response status
    | none, none => c

/-- No response within 8 idle bytes (R136, R139, R142, R143). A block answer that does not come is no response to a command, and the
run waits on (log 55). -/
def Card.noResponse (c : Card) (now : Stamp) : Card :=
  if c.stopOwed then c.stopAnswered
  else
    match c.ident, c.run with
    | some .capacityBlock, _ => c
    | some .wake, _ => c
    | some _, _ => c.identFail now true
    | none, some r =>
      match r.phase with
      | .command | .stop | .status => c.timeOutRun now r
      | .block | .busy | .finalBusy | .rejected => c
    | none, none => c

/-- A sector's data for a READ_RUN, its check matching (R142). -/
def Run.gotSector (r : Run) (now : Stamp) (data : List Byte) : Run :=
  { r with
    done := r.done + 1
    got := r.got ++ data
    completion := now
    phase := if r.done + 1 = r.claim.count then .stop else .block
    wait := if r.done + 1 = r.claim.count then none else some (sectorWait now) }

/-- The run goes on with a sector; after the last one the stop command is sent (R142). -/
def Card.sectorGot (c : Card) (r : Run) (now : Stamp) (data : List Byte) : Card :=
  let c := c.setRun (r.gotSector now data)
  if r.done + 1 = r.claim.count then c.begin else c

/-- A mark and a block from the card, for a READ_RUN or for the capacity read (R136, R139, R142). -/
def Card.blockReceived (c : Card) (now : Stamp) (mark : Byte) (data : List Byte) (check : BitVec 16) : Card :=
  let d := slice data 0 512
  let good := crc16Block d == check
  match markOf mark, c.ident, c.run with
  | .other, _, _ => c
  | .start, some .capacityBlock, _ =>
    if good && decide (1 ≤ beNat d 0 8) && decide (beNat d 0 8 ≤ 4294967296) then
      { c with ident := some (.status (beNat d 0 8)) }.begin
    else c.identFail now false
  | .error, some .capacityBlock, _ => c.identFail now false
  | _, some _, _ => c
  | m, none, some r =>
    if r.phase = .block ∧ r.claim.isWrite = false then
      if m = .start ∧ good = true then c.sectorGot r now d else c.failRead now r
    else c
  | _, none, none => c

/-- A sector's 100 ms wait expires (R142). -/
def Card.sectorExpiry (c : Card) (now : Stamp) : Card :=
  match c.run with
  | some r => if r.phase = .block ∧ r.claim.isWrite = false ∧ waitDue r.wait now = true then c.timeOutRun now r else c
  | none => c

/-- The card answers a block of a WRITE_RUN (R143). The write error total rises as the block is rejected, however the run then ends
(log 54). -/
def Card.blockAnswer (c : Card) (now : Stamp) (answer : Byte) : Card :=
  match c.run with
  | some r =>
    if r.phase = .block ∧ r.claim.isWrite = true then
      if blockAccepted answer then c.setRun { r with phase := .busy, wait := some (busyWait now) }
      else
        ({ c with writeErrors := bump 65535 c.writeErrors } : Card).setRun
          { r with phase := .rejected, wait := some (busyWait now) }
    else c
  | none => c

/-- The card's busy period ends (R143). After the last sector's, the 250 ms of the busy period behind the stop mark run from this stamp,
which is the model's reading (log 36). -/
def Card.busyEnd (c : Card) (now : Stamp) : Card :=
  match c.run with
  | some r =>
    match r.phase with
    | .busy =>
      if r.done + 1 = r.claim.count then
        c.setRun { r with done := r.done + 1, phase := .finalBusy, wait := some (busyWait now) }
      else c.setRun { r with done := r.done + 1, phase := .block, wait := none }
    | .finalBusy => (c.setRun { r with phase := .status, wait := none, completion := now }).begin
    | .rejected => c.endRun r .writeError now
    | .command | .block | .stop | .status => c
  | none => c

/-- A busy period outlasts its 250 ms (R143). -/
def Card.busyExpiry (c : Card) (now : Stamp) : Card :=
  match c.run with
  | some r =>
    match r.phase with
    | .busy | .finalBusy | .rejected => if waitDue r.wait now then c.timeOutRun now r else c
    | .command | .block | .stop | .status => c
  | none => c

/-- The supply warning ends a WRITE_RUN in flight WRITE_ERROR, the total unchanged (R147). -/
def Card.supplyWarning (c : Card) (now : Stamp) : Card :=
  match c.run with
  | some r => if r.claim.isWrite then c.endRun r .writeError now else c
  | none => c

/-! ### Detection and removal (R137, R146) -/

/-- An edge of the detect line while the rail is on (R137). -/
def Card.detectEdge (c : Card) (now : Stamp) (present : Bool) : Card :=
  { c with debounce := if present = c.detect then none else some (present, now) }

/-- The rail comes on: a line at PRESENT begins a debounce (R137). -/
def Card.railOn (c : Card) (now : Stamp) : Card :=
  if c.detectLine then c.detectEdge now true else c

/-- What a removal does at the Card Port (R146). The Clip Writer is told by R128, which covers every run and claim. -/
def Card.remove (c : Card) : Card :=
  { c with
    state := .absent
    capacity := 0
    fast := false
    run := none
    volume := none
    chunk := none
    readBack := none
    ident := none
    identWait := none
    stopOwed := false
    removals := bump 65535 c.removals
    outcomes := [] }

/-! ### The lines (R136, R139) -/

/-- The lines between exchanges: the select line high, the clock line low, the data line high (R136). -/
def linesBetween : PortLines :=
  ⟨true, false, true⟩

/-- The select, clock and outgoing data lines between bytes: the select line low for the whole of an exchange and high between
exchanges; in ABSENT high, low and low (R136). -/
def Card.lines (c : Card) : PortLines :=
  if c.state = .absent then ⟨true, false, false⟩ else { linesBetween with selectHigh := c.exchange.isNone }

/-- The lines in one bit period of a byte sent: the bit stands on the outgoing line before the clock rises, which is when both sides
sample, and until the clock falls (R136, log 47). -/
def Card.bitLines (c : Card) (bit : Bool) : List PortLines :=
  [⟨c.lines.selectHigh, false, bit⟩, ⟨c.lines.selectHigh, true, bit⟩]

/-- The lines over one byte sent, most significant bit first, and their rest after it (R136). -/
def Card.byteLines (c : Card) (b : Byte) : List PortLines :=
  (msbBits b).flatMap c.bitLines ++ [c.lines]

def Card.sendLines (c : Card) (bs : List Byte) : List PortLines :=
  bs.flatMap c.byteLines

/-- The `n` bytes taken from the incoming line, whose level is sampled on the rising clock edge, the first edge of each bit period
(R136). -/
def cardTaken (levels : List (Bool × Bool)) (n : Nat) : List Byte :=
  takenBytes false levels n

/-- Idle bytes sent by the G41 (R136). -/
def idleBytes (n : Nat) : List Byte :=
  List.replicate n 0xFF#8

/-- The port's clock in Hz (R136). -/
def Card.clockHz (c : Card) : Nat :=
  if c.fast then 25000000 else 400000

/-- The 6 bytes of a command (R136). -/
def cardCommand (index argument : Nat) : List Byte :=
  [BitVec.ofNat 8 (0x40 + index), BitVec.ofNat 8 (argument / 16777216), BitVec.ofNat 8 (argument / 65536),
    BitVec.ofNat 8 (argument / 256), BitVec.ofNat 8 argument, 1]

/-- The command that an exchange begins with, by the table of R136. -/
def CardExchange.command : CardExchange → List Byte
  | .reset => cardCommand 0 0
  | .readiness => cardCommand 41 0
  | .capacity => cardCommand 9 0
  | .status => cardCommand 13 0
  | .read start => cardCommand 18 start
  | .write start => cardCommand 25 start
  | .stop => cardCommand 12 0

/-- The lines as the exchange in progress begins: the select line still high, its fall, and the command's bytes (R136). -/
def Card.beginLines (c : Card) : List PortLines :=
  match c.exchange with
  | none => [c.lines]
  | some e => linesBetween :: c.lines :: c.sendLines e.command

/-- The lines as the port goes from one state to the next: an exchange that begins begins from a high select line, also where it
follows another at once (R136, log 47). -/
def Card.turnLines (before after : Card) : List PortLines :=
  if before.exchanges < after.exchanges then after.beginLines else [after.lines]

/-- What an identification step sends: 10 idle bytes to wake the card, then commands (R139). -/
def IdentStep.sent : IdentStep → List Byte
  | .wake => idleBytes 10
  | .reset => CardExchange.reset.command
  | .readiness => CardExchange.readiness.command
  | .capacity => CardExchange.capacity.command
  | .capacityBlock => []
  | .status _ => CardExchange.status.command

/-- The command or mark that the run's present phase has sent (R142, R143). -/
def Run.sent (r : Run) : List Byte :=
  match r.phase with
  | .command => r.exchange.command
  | .block =>
    match r.claim.data with
    | none => []
    | some d =>
      let sector := slice d (512 * r.done) 512
      0xFC#8 :: (sector ++ [BitVec.ofNat 8 ((crc16Block sector).toNat / 256), BitVec.ofNat 8 (crc16Block sector).toNat])
  | .stop => r.exchange.command
  | .busy => []
  | .finalBusy => [0xFD#8]
  | .rejected => [0xFD#8]
  | .status => r.exchange.command

end Sys2Proof.Machine
end

