-- ==== Sys2Proof/Machine/Volume.lean ====
section
/-! DEFINITION. The Clip Writer's tables: the directory and the segment map, the update list, opening, closing, allocating,
reclaiming (R85 to R93, R103, R104, R115, R124) and the tidy and recovery of a mount (R97 to R99). -/

namespace Sys2Proof.Machine

/-! ### Finding entries -/

def Clip.isOpen (c : Clip) : Bool :=
  decide (c.state = .openClip)

def openEntry : Option Clip → Bool
  | none => false
  | some c => c.isOpen

/-- The index of the OPEN entry of the tables (R87: at most one). -/
def Tables.openIndex (t : Tables) : Option Nat :=
  t.dir.findIdx? openEntry

def Tables.indexOf (t : Tables) (number : Nat) : Option Nat :=
  t.dir.findIdx? fun e => match e with
    | none => false
    | some c => c.number == number

def Tables.clipAt (t : Tables) (i : Nat) : Option Clip :=
  entryAt t.dir i

def Tables.present (t : Tables) : List Clip :=
  t.dir.filterMap id

/-- The open clip of a mounted volume (R75, R81). -/
def Writer.openIndex (w : Writer) : Option Nat :=
  if w.mounted then w.tables.bind Tables.openIndex else none

def Writer.clipAt (w : Writer) (i : Nat) : Option Clip :=
  w.tables.bind fun t => t.clipAt i

def Writer.openClip (w : Writer) : Option Clip :=
  w.openIndex.bind w.clipAt

def Writer.indexOf (w : Writer) (number : Nat) : Option Nat :=
  if w.mounted then w.tables.bind fun t => t.indexOf number else none

/-! ### Changing the tables and marking the sectors changed (R92, R93) -/

def Writer.modTables (w : Writer) (f : Tables → Tables) : Writer :=
  { w with tables := w.tables.map f }

def Tables.modClip (t : Tables) (i : Nat) (f : Clip → Clip) : Tables :=
  { t with dir := t.dir.modify i (Option.map f) }

def Tables.setEntry (t : Tables) (i : Nat) (c : Option Clip) : Tables :=
  { t with dir := t.dir.set i c }

def Tables.setSegment (t : Tables) (s : Nat) (e : MapEntry) : Tables :=
  { t with map := t.map.set s e }

/-- A changed zone sector goes on the update list, unless it waits there already (R92). -/
def Writer.mark (w : Writer) (z : Nat) : Writer :=
  { w with updates := addOnce w.updates z }

def Writer.markAll (w : Writer) (zs : List Nat) : Writer :=
  zs.foldl Writer.mark w

/-- Entry `i` differs from what was last mirrored (R93). -/
def Writer.dirty (w : Writer) (i : Nat) : Writer :=
  { w with mirrorDirty := addOnce w.mirrorDirty i }

def Writer.dirtyAll (w : Writer) (is : List Nat) : Writer :=
  is.foldl Writer.dirty w

/-- A change of an entry puts its directory sector on the list (R87). -/
def Writer.changeEntry (w : Writer) (i : Nat) (f : Clip → Clip) : Writer :=
  ((w.modTables fun t => t.modClip i f).mark (dirSector i)).dirty i

/-- A change of an open clip's chunk and byte counts travels with the next write of its sector (R87). -/
def Writer.countEntry (w : Writer) (i : Nat) (f : Clip → Clip) : Writer :=
  (w.modTables fun t => t.modClip i f).dirty i

/-- A change of a map entry puts its map sector on the list (R88). -/
def Writer.changeSegment (w : Writer) (s : Nat) (e : MapEntry) : Writer :=
  (w.modTables fun t => t.setSegment s e).mark (mapSector s)

/-- A sector is on the update list, in flight or waiting (R92, R115). -/
def Writer.outstanding (w : Writer) (z : Nat) : Bool :=
  w.updates.contains z || (match w.flight with
    | none => false
    | some f => f.sector == z)

/-- The open clip's drop count rises, a change of its entry (R87, R111). -/
def Writer.addDrops (w : Writer) (n : Nat) : Writer :=
  match w.openIndex with
  | none => w
  | some i => if n = 0 then w else w.changeEntry i fun c => { c with drops := c.drops + n }

/-- The open clip's motion drop count rises, a change of its entry (R63, R87, R116). -/
def Writer.addMotionDrops (w : Writer) (n : Nat) : Writer :=
  match w.openIndex with
  | none => w
  | some i => if n = 0 then w else w.changeEntry i fun c => { c with motionDrops := c.motionDrops + n }

/-! ### Chains (R89) -/

/-- The segments reached from a first segment by following links, at most `n`. -/
def chainFrom (map : List MapEntry) : Nat → Option Nat → List Nat
  | 0, _ => []
  | _, none => []
  | n + 1, some s => s :: chainFrom map n (mapAt map s).link

def Tables.chain (t : Tables) (c : Clip) : List Nat :=
  chainFrom t.map c.segments c.first

/-- The bytes that a segment stores after its header (R133). -/
def Tables.perSegment (t : Tables) : Nat :=
  (t.geometry.segmentSize - 1) * 512

/-- The card sector where segment `s` begins (R85). -/
def Geometry.segmentStart (g : Geometry) (s : Nat) : Nat :=
  g.firstSector + 144 + s * g.segmentSize

/-! ### Deleting and reclaiming (R103, R104) -/

/-- What becomes of a segment when its clip goes: RETIRING becomes BAD, any other FREE, link END (R88). -/
def leaveChain (e : MapEntry) : MapEntry :=
  ⟨if e.state = .retiring then .bad else .free, none⟩

/-- A whole clip goes: its entry EMPTY, its chain freed; the directory sector and then the map sectors are marked. The
second part lists the sectors changed. -/
def Writer.removeClip (w : Writer) (i : Nat) : Writer × List Nat :=
  match w.tables, w.clipAt i with
  | some t, some c =>
    let chain := t.chain c
    let w := ((w.modTables fun t => t.setEntry i none).mark (dirSector i)).dirty i
    let free := fun (w : Writer) s => w.changeSegment s (leaveChain (mapAt t.map s))
    (chain.foldl free w, dirSector i :: (chain.map mapSector).dedup)
  | _, _ => (w, [])

/-- A clip that a reclaim may take: not OPEN, no protection cause (R104). -/
def reclaimable (c : Clip) : Bool :=
  !c.isOpen && !c.causes.any

/-- The lowest-numbered clip that a reclaim may take. -/
def Tables.oldest (t : Tables) : Option Clip :=
  (t.present.filter reclaimable).foldl
    (fun best c => match best with
      | none => some c
      | some b => if c.number < b.number then some c else some b)
    none

/-- A reclaim: the oldest clip that can go is removed, or nothing can be freed (R104). -/
def Writer.reclaim (w : Writer) : Option (Writer × List Nat) :=
  match w.tables with
  | none => none
  | some t =>
    match t.oldest with
    | none => none
    | some c =>
      match t.indexOf c.number with
      | none => none
      | some i => some (w.removeClip i)

/-! ### Allocation (R115) -/

/-- The first FREE segment from the allocation pointer, wrapping past the last (R115). -/
def Tables.firstFree (t : Tables) : Option Nat :=
  let n := t.geometry.segmentCount
  ((List.range n).map fun k => (t.alloc + k) % n).find? fun s => decide ((mapAt t.map s).state = SegmentState.free)

/-- Steps 3 to 6 of R115 for segment `s`, which is FREE; the second part lists the sectors changed. -/
def Writer.takeSegment (w : Writer) (i s : Nat) : Writer × List Nat :=
  match w.tables, w.clipAt i with
  | some t, some c =>
    let w := w.changeSegment s ⟨.filling, none⟩
    let lastSectors := match c.last with
      | none => []
      | some l => [mapSector l]
    let w := match c.last with
      | none => w
      | some l =>
        let old := (mapAt t.map l).state
        w.changeSegment l ⟨if old = SegmentState.filling then SegmentState.filled else old, some s⟩
    let w := w.changeEntry i fun c =>
      { c with first := if c.first.isNone then some s else c.first, last := some s, segments := c.segments + 1 }
    let w := w.modTables fun t => { t with alloc := (s + 1) % t.geometry.segmentCount }
    ({ w with current := some ⟨s, 1, false⟩ }, mapSector s :: (lastSectors ++ [dirSector i]))
  | _, _ => (w, [])

/-- Search, reclaim and search again (R115, steps 1 and 2). `none` in the second part: the volume is FULL. -/
def Writer.allocate : Nat → Writer → Nat → List Nat → Writer × Option (List Nat)
  | 0, w, _, _ => (w, none)
  | n + 1, w, i, sectors =>
    match w.tables.bind Tables.firstFree with
    | some s => let r := w.takeSegment i s; (r.1, some (sectors ++ r.2))
    | none =>
      match w.reclaim with
      | some r => Writer.allocate n r.1 i (sectors ++ r.2)
      | none => (w, none)

/-! ### Opening and closing (R87, R121, R124) -/

/-- The number after clip number `n`; the spec states none after the last (log 24). -/
def numberAfter (generation n : Nat) : Nat :=
  if n < 4294967295 then n + 1 else Config.clipNumberAfterLast generation

def newClip (number : Nat) (start : Stamp) : Clip where
  number := number
  state := .openClip
  cause := none
  start := start
  endStamp := none
  first := none
  last := none
  segments := 0
  hostCount := 0
  motionCount := 0
  bytes := 0
  drops := 0
  motionDrops := 0
  causes := .none
  markers := []
  overflow := false
  motionTrack := false
  unkeyed := false

/-- The EMPTY entry of lowest index. -/
def Tables.emptyIndex (t : Tables) : Option Nat :=
  t.dir.findIdx? fun e => e.isNone

/-- The entry at index `i` takes the next clip number and becomes OPEN; the header and directory sectors are marked (R87). -/
def Writer.openAt (w : Writer) (i : Nat) (start : Stamp) : Writer :=
  let w := w.modTables fun t =>
    { t.setEntry i (some (newClip t.nextClip start)) with nextClip := numberAfter t.generation t.nextClip }
  let w := ((w.mark 0).mark (dirSector i)).dirty i
  { w with current := none, motionOrdinal := 0, lastHostStamp := none, lastMotionStamp := none }

/-- A clip is opened; `none` in the second part: DIRECTORY_FULL (R87). -/
def Writer.open_ (w : Writer) (start : Stamp) : Writer × Option Nat :=
  match w.tables.bind Tables.emptyIndex with
  | some i => (w.openAt i start, some i)
  | none =>
    match w.reclaim with
    | none => (w, none)
    | some r =>
      match r.1.tables.bind Tables.emptyIndex with
      | some i => (r.1.openAt i start, some i)
      | none => (r.1, none)

/-- The end stamp of a close (R124). -/
def Writer.endStamp (w : Writer) (c : Clip) : Stamp :=
  match w.lastHostStamp, w.lastMotionStamp with
  | some s, _ => s
  | none, some s => s
  | none, none => c.start

/-- The open clip's entry becomes CLOSED and its FILLING current segment FILLED; the second part lists the sectors changed
(R124 step 3). -/
def Writer.closeEntry (w : Writer) (i : Nat) (cause : CloseCause) : Writer × List Nat :=
  match w.clipAt i with
  | none => (w, [])
  | some c =>
    let stamp := w.endStamp c
    let w := w.changeEntry i fun c => { c with state := .closed, cause := some cause, endStamp := some stamp }
    match w.current, w.tables with
    | some cur, some t =>
      let e := mapAt t.map cur.segment
      if e.state = .filling then
        ({ w.changeSegment cur.segment ⟨.filled, e.link⟩ with current := none }, [dirSector i, mapSector cur.segment])
      else ({ w with current := none }, [dirSector i])
    | _, _ => ({ w with current := none }, [dirSector i])

/-- The tables, the update list and what belongs to them are dropped (R101, R106). -/
def Writer.dropTables (w : Writer) : Writer :=
  { w with
    mounted := false
    tables := none
    updates := []
    flight := none
    mirrorDirty := []
    waiting := []
    current := none
    lastHostStamp := none
    lastMotionStamp := none }

/-! ### Markers and protection (R75, R81) -/

/-- A marker is appended, or the list is full and MARKER_OVERFLOW is set (R81). -/
def Clip.addMarker (c : Clip) (m : Marker) : Clip :=
  if c.markers.length < 16 then { c with markers := c.markers ++ [m] } else { c with overflow := true }

/-- The Clip Writer takes a marker (R81). -/
def Writer.takeMarker (w : Writer) (m : Marker) : Writer :=
  match w.openIndex, w.openClip with
  | some i, some c => if c.addMarker m = c then w else w.changeEntry i fun c => c.addMarker m
  | _, _ => w

/-- A protection cause is added; nothing is marked when it is there already. -/
def Writer.protect (w : Writer) (i : Nat) (add : Causes → Causes) : Writer :=
  match w.clipAt i with
  | none => w
  | some c => if add c.causes = c.causes then w else w.changeEntry i fun c => { c with causes := add c.causes }

/-- The Clip Writer takes an incident's protection request (R75). -/
def Writer.takeProtection (w : Writer) (r : ProtectionRequest) : Writer × ProtectionAnswer :=
  match w.openIndex, w.openClip with
  | some i, some c =>
    let add : Causes → Causes := fun k => { k with incident := true }
    let w := (w.protect i add).takeMarker ⟨r.stamp, .incident⟩
    if c.number = 1 ∨ (r.lookbackSeconds : Int) * 1000000 ≤ stampDiff r.stamp c.start then
      (w, ⟨r.number, .notNeeded, some c.number, none⟩)
    else
      match w.indexOf (c.number - 1) with
      | some j => (w.protect j add, ⟨r.number, .kept, some c.number, some (c.number - 1)⟩)
      | none => (w, ⟨r.number, .lost, some c.number, some (c.number - 1)⟩)
  | _, _ => (w, ⟨r.number, .noClip, none, none⟩)

/-! ### The mount's tidy (R97) -/

/-- The entries of the zone read, those with a number seen at a lower index taken as EMPTY (R97 step 1). -/
def dropDuplicates : List Nat → List (Option Clip) → List (Option Clip)
  | _, [] => []
  | seen, none :: rest => none :: dropDuplicates seen rest
  | seen, some c :: rest =>
    if seen.contains c.number then none :: dropDuplicates seen rest
    else some c :: dropDuplicates (c.number :: seen) rest

/-- The place in the bytes of zone sectors 1 to 136 of directory entry `i` and of map entry `s`. -/
def zoneEntry (zone : List Byte) (i : Nat) : List Byte :=
  slice zone (256 * i) 256

def zoneMapEntry (zone : List Byte) (s : Nat) : List Byte :=
  slice zone (65536 + 4 * s) 4

/-- Steps 1 and 2 of R97: the entries and map codes of the zone read. A FREE or BAD segment is taken with the link END (R88,
log 52). An entry at or above the segment count is taken by the same step, and its sector is not listed for it (R85, log 73). -/
def readZone (geometry : Geometry) (generation nextClip : Nat) (zone : List Byte) : Tables where
  geometry := geometry
  generation := generation
  nextClip := nextClip
  dir := dropDuplicates [] ((List.range 256).map fun i => parseDirEntry (zoneEntry zone i))
  map := (List.range 1024).map fun s =>
    let e := parseMapEntry geometry.segmentCount (zoneMapEntry zone s)
    if e.state = .bad ∨ e.state = .free then ⟨e.state, none⟩ else e
  alloc := 0

/-- The segments a walk accepts from `s`: below the count, in a chainable state, in no chain yet (R97 step 3). -/
def walk (map : List MapEntry) (count : Nat) : Nat → List Nat → Option Nat → List Nat
  | 0, _, _ => []
  | _, _, none => []
  | n + 1, used, some s =>
    let st := (mapAt map s).state
    if s < count ∧ (st = .filling ∨ st = .filled ∨ st = .retiring) ∧ used.contains s = false then
      s :: walk map count n (s :: used) (mapAt map s).link
    else []

/-- The links of a chain, the last one END. -/
def linkChain (map : List MapEntry) : List Nat → List MapEntry
  | [] => map
  | [s] => map.set s ⟨(mapAt map s).state, none⟩
  | s :: t :: rest => linkChain (map.set s ⟨(mapAt map s).state, some t⟩) (t :: rest)

/-- The indices of the present entries in ascending clip number (R97). -/
def Tables.byNumber (t : Tables) : List Nat :=
  let number := fun i => (t.clipAt i).elim 0 Clip.number
  ((List.range 256).filter fun i => (t.clipAt i).isSome).insertionSort fun i j => number i ≤ number j

/-- Steps 3 and 5 for one entry; `used` lists the segments already in a chain. -/
def tidyEntry (p : Tables × List Nat) (i : Nat) : Tables × List Nat :=
  match p.1.clipAt i with
  | none => p
  | some c =>
    let chain := walk p.1.map p.1.geometry.segmentCount p.1.geometry.segmentCount p.2 c.first
    let t := p.1.modClip i fun c => { c with first := chain.head?, last := chain.getLast?, segments := chain.length }
    ({ t with map := linkChain t.map chain }, p.2 ++ chain)

/-- Step 4: a segment in no chain is freed, or BAD when it was RETIRING. -/
def freeOrphan (count : Nat) (used : List Nat) (e : MapEntry) (s : Nat) : MapEntry :=
  if s < count ∧ used.contains s = false ∧ (e.state = .filling ∨ e.state = .filled ∨ e.state = .retiring) then
    leaveChain e
  else e

/-- Steps 1 to 5 of the tidy (R97). -/
def tidy (t : Tables) : Tables :=
  let p := t.byNumber.foldl tidyEntry (t, [])
  { p.1 with map := p.1.map.mapIdx fun s e => freeOrphan t.geometry.segmentCount p.2 e s }

/-- The tidy left directory entry `i` other than the card holds it. -/
def entryChanged (zone : List Byte) (t : Tables) (i : Nat) : Bool :=
  match t.clipAt i with
  | none => byteAt (zoneEntry zone i) 2 != 0
  | some c => parseDirEntry (zoneEntry zone i) != some c

/-- The tidy left map entry `s` other than the card holds it; a FREE or BAD entry with a link counts too (log 52),
an entry at or above the segment count does not (R85, log 73). -/
def segmentChanged (zone : List Byte) (t : Tables) (s : Nat) : Bool :=
  let raw := zoneMapEntry zone s
  decide (s < t.geometry.segmentCount)
    && ((byteAt raw 0).toNat != (mapAt t.map s).state.code || leNat raw 2 2 != optSegment (mapAt t.map s).link)

/-- The directory entries that the tidy changed, ascending (R97). -/
def changedEntries (zone : List Byte) (t : Tables) : List Nat :=
  (List.range 256).filter (entryChanged zone t)

/-- The zone sectors that the tidy changed (R97). The spec gives no order in which they join the list: here the directory sectors come
before the map sectors, each ascending (log 72). -/
def changedSectors (zone : List Byte) (t : Tables) : List Nat :=
  (changedEntries zone t).map dirSector
    ++ ((List.range 1024).filter (segmentChanged zone t)).map mapSector

/-! ### Recovery (R98, R99) -/

/-- A scan of the clip in entry `i`, about to read its first segment's header. -/
def Tables.startScan (t : Tables) (i : Nat) (c : Clip) : Scan where
  index := i
  segments := t.chain c
  ordinal := 0
  sector := 1
  firstSeq := 0
  atFirst := true
  lastHost := none
  lastMotion := none
  hostCount := 0
  motionCount := 0
  bytes := 0
  hostStamp := none
  motionStamp := none
  head := []

def Scan.last (s : Scan) (motion : Bool) : Option Nat :=
  if motion then s.lastMotion else s.lastHost

/-- A sequence is above the last valid one of its class, or that is NONE (R98). -/
def above (seq : Nat) : Option Nat → Bool
  | none => true
  | some l => decide (l < seq)

/-- A valid chunk is counted, and the scan moves past it (R98). -/
def Scan.count (s : Scan) (c : ReadChunk) : Scan :=
  let s := { s with sector := s.sector + chunkSectors c.length, atFirst := false, bytes := s.bytes + c.length }
  if c.motion then
    { s with lastMotion := some c.seq, motionCount := s.motionCount + 1, motionStamp := some c.stamp }
  else { s with lastHost := some c.seq, hostCount := s.hostCount + 1, hostStamp := some c.stamp }

/-- A chunk read whole is judged (R98): counted, passed over as the copy of a rewritten chunk, or the segment's end. -/
def Scan.judge (s : Scan) (c : ReadChunk) (crcOk : Bool) : Option Scan :=
  if crcOk = false ∨ (s.atFirst = true ∧ c.seq ≠ s.firstSeq) then none
  else if above c.seq (s.last c.motion) then some (s.count c)
  else if s.atFirst = true ∧ s.last c.motion = some c.seq then
    some { s with sector := s.sector + chunkSectors c.length, atFirst := false }
  else none

/-- The entry of a scanned clip is rebuilt (R99). -/
def Clip.rebuild (c : Clip) (s : Scan) : Clip :=
  { c with
    state := .recovered
    cause := some .recovered
    hostCount := s.hostCount
    motionCount := s.motionCount
    bytes := s.bytes
    endStamp := some (match s.hostStamp, s.motionStamp with
      | some h, _ => h
      | none, some m => m
      | none, none => c.start) }

/-- Step 7 of R97 for one segment: FILLING becomes FILLED. -/
def fillSegment (w : Writer) (s : Nat) : Writer :=
  match w.tables with
  | none => w
  | some t =>
    if s < t.geometry.segmentCount ∧ (mapAt t.map s).state = .filling then
      w.changeSegment s ⟨.filled, (mapAt t.map s).link⟩
    else w

/-- The next clip number after a mount (R99). -/
def Tables.nextAfterMount (t : Tables) : Nat :=
  t.present.foldl (fun n c => max n (numberAfter t.generation c.number)) t.nextClip

/-- The allocation pointer after a mount (R99). -/
def Tables.allocAfterMount (t : Tables) : Nat :=
  match (t.byNumber.filterMap fun i => (t.clipAt i).bind Clip.last).getLast? with
  | none => 0
  | some s => (s + 1) % t.geometry.segmentCount

/-- The mount's last changes to the tables: FILLING segments, the next clip number, the allocation pointer (R97, R99). The map sectors
join the list ascending and the header last, which is the model's order (log 72). -/
def Writer.settleTables (w : Writer) : Writer :=
  let w := (List.range 1024).foldl fillSegment w
  match w.tables with
  | none => w
  | some t =>
    let w := if t.nextAfterMount = t.nextClip then w else w.mark 0
    { w.modTables fun t => { t with nextClip := t.nextAfterMount, alloc := t.allocAfterMount } with mounted := true }

/-- An empty volume (R95). -/
def Tables.formatted (g : Geometry) (generation : Nat) : Tables where
  geometry := g
  generation := generation
  nextClip := 1
  dir := List.replicate 256 none
  map := List.replicate 1024 freeEntry
  alloc := 0

end Sys2Proof.Machine
end

