-- ==== Sys2Proof/Machine/Chunks.lean ====
section
/-! DEFINITION. The Clip Writer's recording side: motion buffers and receipts (R64 to R66, R112), closes (R124), admission
(R108 to R111, R122), the write queue (R113 to R119) and the entry to CARD_FAULT (R120). -/

namespace Sys2Proof.Machine

/-! ### The writer's state (section 7.2, R107) -/

def Media.modWriter (m : Media) (f : Writer → Writer) : Media :=
  { m with writer := f m.writer }

def Media.modExch (m : Media) (f : Exchange → Exchange) : Media :=
  { m with exch := f m.exch }

def Media.modCard (m : Media) (f : Card → Card) : Media :=
  { m with card := f m.card }

/-- The writer takes a state; becoming IDLE or UNMOUNTED is reported to the Power State Controller, and RECORDING or CLOSING to the
Charge Controller (R107). -/
def Writer.enter (w : Writer) (st : WriterState) : Writer :=
  { w with
    state := st
    idleReport := w.idleReport || decide (st = .idle ∨ st = .unmounted)
    recordingReport := w.recordingReport || decide (st = .recording ∨ st = .closing) }

def Media.enter (m : Media) (st : WriterState) : Media :=
  m.modWriter fun w => w.enter st

def Writer.recordingOrClosing (w : Writer) : Bool :=
  decide (w.state = .recording ∨ w.state = .closing)

/-! ### Motion buffers (R64, R65, R66) -/

def Steady.buffer (s : Steady) : BufferId → MotionBuffer
  | .a => s.bufA
  | .b => s.bufB

def Steady.setBuffer (s : Steady) (id : BufferId) (b : MotionBuffer) : Steady :=
  match id with
  | .a => { s with bufA := b }
  | .b => { s with bufB := b }

def Media.setBuffer (m : Media) (id : BufferId) (b : MotionBuffer) : Media :=
  { m with steady := m.steady.setBuffer id b }

/-- A buffer is returned: FREE, without records (R66). -/
def Media.returnBuffer (m : Media) (id : BufferId) : Media :=
  m.setBuffer id .empty

/-- The MOTION chunk that a buffer's records become (R64, R113). Its sequence is given when its write begins. -/
def motionChunk (id : BufferId) (records : List MotionRecord) : Chunk where
  kind := .motion
  key := false
  seq := 0
  stamp := (records.head?.map MotionRecord.centre).getD 0
  length := (motionPayload records).length
  source := .buffer id
  opensClip := false

/-- The states in which a buffer handed over is returned at once (R120, R128, R129). -/
def Writer.returnsBuffers (w : Writer) : Bool :=
  decide (w.state = .cardFault ∨ w.state = .cardLost ∨ w.state = .halted)

/-- A buffer is handed to the Clip Writer (R64). -/
def Media.handOver (m : Media) (id : BufferId) : Media :=
  if m.writer.returnsBuffers then m.returnBuffer id
  else
    (m.setBuffer id { m.steady.buffer id with state := .queued }).modWriter fun w =>
      { w with queue := w.queue ++ [motionChunk id (m.steady.buffer id).records] }

/-- The buffer that is FILLING, if one is. -/
def Steady.filling (s : Steady) : Option BufferId :=
  if s.bufA.state = .filling then some .a else if s.bufB.state = .filling then some .b else none

/-- A flush (R65). -/
def Media.flush (m : Media) : Media :=
  match m.steady.filling with
  | some id => if (m.steady.buffer id).records.isEmpty then m else m.handOver id
  | none => m

/-! ### Receipts (R112) -/

/-- The receipts whose write is in flight: an edition stays held until its receipt is written (R112). -/
def Exchange.receiptsInFlight (e : Exchange) : List (Nat × Edition) :=
  e.transfers.filterMap fun t => match t.purpose with
    | .record ⟨.receipt slot, _, head, _, _⟩ _ => some (slot, editionAt head 0)
    | _ => none

/-- The edition of a slot that the writer holds, if it holds one (R108, log 12). -/
def Media.heldEdition (m : Media) (slot : Nat) : Option Edition :=
  match m.writer.held.find? fun h => h.slot == slot with
  | some h => some h.edition
  | none => (m.exch.receiptsInFlight.find? fun r => r.1 == slot).map Prod.snd

/-- The count of the held slots (R135). -/
def Media.heldCount (m : Media) : Nat :=
  m.writer.held.length + m.exch.receiptsInFlight.length

/-- A receipt for a held edition, which from here is held by its receipt's write; one that is held no more has none (log 12). -/
def Media.receipt (m : Media) (env : Env) (st : ReceiptStatus) (h : HeldSlot) : Media :=
  if m.writer.held.contains h then
    (m.modWriter fun w => { w with held := w.held.filter fun x => x ≠ h }).modExch fun e =>
      e.writeRecord env.now (receiptRecord h st)
  else m

def Chunk.heldSlot (c : Chunk) : Option HeldSlot :=
  match c.source with
  | .slot i ed _ => some ⟨i, ed, c.seq⟩
  | .buffer _ => none

/-- The writer has finished with a chunk: a host chunk receives its receipt, a motion buffer is returned. -/
def Media.finish (m : Media) (env : Env) (st : ReceiptStatus) (c : Chunk) : Media :=
  match c.source with
  | .slot i ed _ => m.receipt env st ⟨i, ed, c.seq⟩
  | .buffer id => m.returnBuffer id

def Media.finishAll (m : Media) (env : Env) (st : ReceiptStatus) (cs : List Chunk) : Media :=
  cs.foldl (fun m c => m.finish env st c) m

def Chunk.isHost (c : Chunk) : Bool :=
  decide (c.kind ≠ .motion)

/-- The write in progress and the write queue. -/
def Writer.admitted (w : Writer) : List Chunk :=
  (w.wip.map WriteInProgress.chunk).toList ++ w.queue

def hostCount (cs : List Chunk) : Nat :=
  (cs.filter Chunk.isHost).length

/-- The records that the motion chunks of a list hold (R116). -/
def Steady.recordCount (s : Steady) (cs : List Chunk) : Nat :=
  cs.foldl (fun n c => match c.source with
    | .slot _ _ _ => n
    | .buffer id => n + (s.buffer id).records.length) 0

/-- Everything admitted leaves the queue and the write in progress with one status, the write in progress first and then the queue from
its front: the order of the receipts is the model's (log 74). -/
def Media.dropAdmitted (m : Media) (env : Env) (st : ReceiptStatus) : Media :=
  let cs := m.writer.admitted
  ((m.modWriter fun w => { w with queue := [], wip := none }).finishAll env st cs).modExch fun e =>
    e.mapPurposes Purpose.withoutFetch

/-- The parked set goes with one status (R116, R120, R128, R129), its receipts in the set's own order; that they come before
those of the admitted chunks is the model's order (log 74). -/
def Media.dropParked (m : Media) (env : Env) (st : ReceiptStatus) : Media :=
  let cs := m.writer.parked
  (m.modWriter fun w => { w with parked := [] }).finishAll env st cs

/-! ### A close begins (R124 step 1) -/

def Media.closeBegin (m : Media) (env : Env) (cause : CloseCause) : Media :=
  if m.writer.state = .recording then
    let m := (m.enter .closing).modWriter fun w =>
      { w with closeCause := some cause, stopPending := none, starvation := none }
    (m.dropParked env .refused).flush
  else m

/-- Stop pending holds a last sequence that the expected sequence has passed (R110, R111, R123). -/
def Writer.stopReached (w : Writer) : Bool :=
  match w.stopPending with
  | none => false
  | some l => decide (l < w.expected)

def Media.checkStop (m : Media) (env : Env) : Media :=
  if m.writer.stopReached then m.closeBegin env .request else m

/-! ### Admission (R108 to R111, R122) -/

def Chunk.keyVideo (c : Chunk) : Bool :=
  decide (c.kind = .video) && c.key

/-- The clip's length limit has passed for a key VIDEO chunk (R122). -/
def Writer.rollsOver (w : Writer) (c : Chunk) : Bool :=
  c.keyVideo && decide ((w.limits.clipSeconds : Int) * 1000000 ≤ stampDiff c.stamp w.admissionStart)

/-- A chunk at the expected sequence is skipped or admitted (R110). -/
def Media.admitOne (m : Media) (env : Env) (pickup : Stamp) (c : Chunk) : Media :=
  if m.writer.keyWait && decide (c.kind = .video) && !c.key then
    ((m.finish env .skipped c).modWriter fun w => w.addDrops 1).modWriter fun w => { w with expected := w.expected + 1 }
  else
    let rolls := m.writer.rollsOver c
    let m := if rolls then m.flush else m
    m.modWriter fun w =>
      { w with
        queue := w.queue ++ [{ c with opensClip := rolls }]
        admissionStart := if rolls then c.stamp else w.admissionStart
        keyWait := w.keyWait && !c.keyVideo
        expected := w.expected + 1
        starvation := some ⟨pickup, w.limits.starvationSeconds * 1000000⟩ }

/-- Parked chunks that follow in order are treated in turn (R110). -/
def Media.admitParked (env : Env) (pickup : Stamp) : Nat → Media → Media
  | 0, m => m
  | n + 1, m =>
    match m.writer.state, m.writer.parked with
    | .recording, c :: rest =>
      if c.seq = m.writer.expected then
        Media.admitParked env pickup n
          (((m.modWriter fun w => { w with parked := rest }).admitOne env pickup c).checkStop env)
      else m
    | _, _ => m

/-- The gap count becomes 0 when chunks remain parked (R110). -/
def Writer.restartGap (w : Writer) : Writer :=
  if w.state = .recording ∧ w.parked ≠ [] then { w with gapCount := 0, gapFresh := true } else w

/-- R110 from the lowest parked chunk on. -/
def Media.treatParked (m : Media) (env : Env) (pickup : Stamp) : Media :=
  (Media.admitParked env pickup m.writer.parked.length m).modWriter Writer.restartGap

/-- R110 for a chunk that has just arrived at the expected sequence. -/
def Media.treat (m : Media) (env : Env) (pickup : Stamp) (c : Chunk) : Media :=
  ((m.admitOne env pickup c).checkStop env).treatParked env pickup

/-- The parked set is ordered by sequence (section 7.1). -/
def parkInto (c : Chunk) : List Chunk → List Chunk
  | [] => [c]
  | d :: rest => if c.seq < d.seq then c :: d :: rest else d :: parkInto c rest

/-- A chunk ahead of the expected sequence is parked (R109 check 5). -/
def Writer.park (w : Writer) (c : Chunk) : Writer :=
  { w with
    parked := parkInto c w.parked
    gapCount := if w.parked = [] then 0 else w.gapCount
    gapFresh := w.gapFresh || decide (w.parked = []) }

/-- The malformed check of R109. -/
def Writer.malformed (w : Writer) (p : PostedChunk) : Bool :=
  let largest := match w.mounted, w.tables with
    | true, some t => largestPayload t.geometry.segmentSize
    | _, _ => 1048576
  decide (p.length = 0 ∨ largest < p.length ∨ p.address % 4 ≠ 0) || p.kind.isNone

/-- A slot edition that joins the held slots goes through the checks (R108, R109). -/
def Media.takeChunk (m : Media) (env : Env) (pickup : Stamp) (slot : Nat) (p : PostedChunk) : Media :=
  let h : HeldSlot := ⟨slot, p.edition, p.seq⟩
  let m := m.modWriter fun w => { w with held := w.held ++ [h] }
  let c : Chunk :=
    { kind := p.kind.getD .video, key := p.key, seq := p.seq, stamp := p.stamp, length := p.length
      source := .slot slot p.edition p.address, opensClip := false }
  if m.writer.malformed p then m.receipt env .malformed h
  else if m.writer.state ≠ .recording then m.receipt env .refused h
  else if p.seq < m.writer.expected ∨ m.writer.parked.any (fun d => d.seq == p.seq) = true then m.receipt env .stale h
  else if p.seq = m.writer.expected then m.treat env pickup c
  else m.modWriter fun w => w.park c

/-- The jump over missing sequences (R111). -/
def Media.jump (m : Media) (env : Env) (pickup : Stamp) : Media :=
  match m.writer.parked with
  | [] => m
  | c :: _ =>
    let m := (m.modWriter fun w => w.addDrops (c.seq - w.expected)).modWriter fun w =>
      { w with expected := c.seq, keyWait := true }
    (m.checkStop env).treatParked env pickup

/-- A pickup-complete notice (R111). -/
def Media.pickupComplete (m : Media) (env : Env) (pickup : Stamp) : Media :=
  let w := m.writer
  let m :=
    if w.state = .recording ∧ w.parked ≠ [] ∧ w.gapFresh = false then
      let m := m.modWriter fun w => { w with gapCount := w.gapCount + 1 }
      if w.limits.gapWait ≤ w.gapCount + 1 then m.jump env pickup else m
    else m
  m.modWriter fun w => { w with gapFresh := false }

/-! ### Writing one chunk (R114 to R119) -/

/-- The chunk fits the current segment (R114). -/
def Writer.fits (w : Writer) (c : Chunk) : Bool :=
  match w.current, w.tables with
  | some cur, some t => decide (cur.nextSector + chunkSectors c.length ≤ t.geometry.segmentSize)
  | _, _ => false

/-- The WRITE_RUN of a chunk (R118). -/
def Writer.chunkClaim (_ : Writer) (t : Tables) (clip : Clip) (cur : CurrentSegment) (c : Chunk) (payload : List Byte) :
    Claim :=
  let image := chunkImage c.kind c.key c.seq c.stamp payload
  let start := t.geometry.segmentStart cur.segment
  if cur.headerWritten then ⟨start + cur.nextSector, chunkSectors payload.length, some image⟩
  else
    ⟨start, 1 + chunkSectors payload.length,
      some (segmentHeaderSector clip.number (clip.segments - 1) t.generation c.seq ++ image)⟩

/-- The stage becomes WRITING and the run is handed to the Card Port (R118). -/
def Media.handChunk (m : Media) (env : Env) (p : WriteInProgress) (payload : List Byte) : Media :=
  let m := m.modWriter fun w => { w with wip := some { p with stage := .writing, payload := some payload } }
  match m.writer.tables, m.writer.openClip, m.writer.current with
  | some t, some clip, some cur =>
    m.modCard fun c => c.hand env .chunk (m.writer.chunkClaim t clip cur p.chunk payload)
  | _, _, _ => m

/-- The chunk has its place: it is fetched, or written when its data are held (R114, R117, R119). -/
def Media.placeChunk (m : Media) (env : Env) (p : WriteInProgress) : Media :=
  match p.chunk.source, p.payload with
  | .buffer id, _ => m.handChunk env p (motionPayload (m.steady.buffer id).records)
  | .slot _ _ _, some payload => m.handChunk env p payload
  | .slot _ _ address, none =>
    (m.modWriter fun w => { w with wip := some { p with stage := .fetching } }).modExch fun e =>
      e.issue env.now (.payload true) address none p.chunk.length

/-- The volume is FULL (R116). -/
def Media.volumeFull (m : Media) (env : Env) : Media :=
  let m := m.closeBegin env .full
  let cs := m.writer.admitted
  ((m.modWriter fun w => w.addDrops (hostCount cs)).modWriter fun w =>
    w.addMotionDrops (m.steady.recordCount cs)).dropAdmitted env .refused

/-- A segment is allocated for the write in progress (R115). -/
def Media.allocateFor (m : Media) (env : Env) (i : Nat) (p : WriteInProgress) : Media :=
  let r := Writer.allocate 257 m.writer i []
  match r.2 with
  | some sectors =>
    m.modWriter fun _ => { r.1 with wip := some { p with stage := .allocating, allocSectors := sectors } }
  | none => (m.modWriter fun _ => { r.1 with wip := some { p with stage := .allocating } }).volumeFull env

/-- The write of the front item begins in the open clip: a MOTION chunk takes its ordinal, then the fit check (R113, R114). -/
def Media.beginItem (m : Media) (env : Env) (i : Nat) (c : Chunk) : Media :=
  let c := if c.isHost then c else { c with seq := m.writer.motionOrdinal }
  let p : WriteInProgress := ⟨c, .fetching, false, none, []⟩
  if m.writer.fits c then m.placeChunk env p else m.allocateFor env i p

/-- A rollover's opening finds the directory full (R122): the old clip, entry `i`, takes cause FULL, and the key chunk's receipt comes last
(log 74). -/
def Media.rolloverFull (m : Media) (env : Env) (i : Nat) (sectors : List Nat) (key : Chunk) : Media :=
  let m := m.modWriter fun w => w.changeEntry i fun c => { c with cause := some .full }
  let m := m.closeBegin env .full
  let m := (m.dropAdmitted env .refused).finish env .refused key
  m.modWriter fun w => { w with closeCause := some .full, waiting := w.waiting ++ [⟨.close, sectors⟩] }

/-- The rollover of the marked chunk is completed (R122): the old clip, entry `i`, closes and the next one opens. -/
def Media.rollover (m : Media) (env : Env) (i : Nat) (c : Chunk) : Media :=
  let closed := m.writer.closeEntry i .rollover
  let opened := closed.1.open_ c.stamp
  let m := m.modWriter fun _ => opened.1
  match opened.2 with
  | some j => m.beginItem env j c
  | none => m.rolloverFull env i closed.2 c

/-- The item at the front of the queue becomes the write in progress (R114). -/
def Media.startWrite (m : Media) (env : Env) : Option Media :=
  match m.writer.recordingOrClosing, m.writer.wip, m.writer.queue, m.writer.openIndex with
  | true, none, c :: rest, some i =>
    let m := m.modWriter fun w => { w with queue := rest }
    some (if c.opensClip then m.rollover env i c else m.beginItem env i c)
  | _, _, _, _ => none

/-- An allocation's sectors have all been written: the chunk moves on (R115). -/
def Media.allocationDone (m : Media) (env : Env) : Option Media :=
  match m.writer.wip with
  | some p =>
    if p.stage = .allocating ∧ p.allocSectors.all (fun z => !m.writer.outstanding z) = true then some (m.placeChunk env p)
    else none
  | none => none

/-- The payload has been read (R117). -/
def Media.payloadRead (m : Media) (env : Env) (bytes : List Byte) : Media :=
  match m.writer.wip with
  | some p => if p.stage = .fetching then m.handChunk env p (slice bytes 0 p.chunk.length) else m
  | none => m

/-- The payload could not be read (R117). -/
def Media.fetchFailed (m : Media) (env : Env) : Media :=
  match m.writer.wip with
  | some p =>
    if p.stage = .fetching then
      let m := m.finish env .fetchFailed p.chunk
      (m.modWriter fun w => w.addDrops 1).modWriter fun w => { w with wip := none, keyWait := true }
    else m
  | none => m

/-- The open clip's entry gains a chunk (R118 step 2). -/
def Clip.gain (c : Clip) (k : Chunk) : Clip :=
  if k.isHost then { c with hostCount := c.hostCount + 1, bytes := c.bytes + k.length }
  else { c with motionCount := c.motionCount + 1, bytes := c.bytes + k.length }

/-- The flag that a chunk sets in its clip's entry, if it sets one (R118 step 2). -/
def Clip.flagFor (c : Clip) (k : Chunk) : Option (Clip → Clip) :=
  if k.isHost then
    if c.hostCount = 0 ∧ k.keyVideo = false then some fun c => { c with unkeyed := true } else none
  else if c.motionTrack then none
  else some fun c => { c with motionTrack := true }

def Writer.gainChunk (w : Writer) (k : Chunk) : Writer :=
  match w.openIndex, w.openClip with
  | some i, some c =>
    let w := match c.flagFor k with
      | some f => w.changeEntry i f
      | none => w
    w.countEntry i fun c => c.gain k
  | _, _ => w

/-- A chunk's run has ended OK (R118). -/
def Media.chunkWritten (m : Media) (env : Env) (p : WriteInProgress) (completion : Stamp) : Media :=
  let k := p.chunk
  let m := m.modWriter fun w =>
    let w := w.gainChunk k
    { w with
      current := w.current.map fun cur => ⟨cur.segment, cur.nextSector + chunkSectors k.length, true⟩
      motionOrdinal := if k.isHost then w.motionOrdinal else w.motionOrdinal + 1
      lastHostStamp := if k.isHost then some k.stamp else w.lastHostStamp
      lastMotionStamp := if k.isHost then w.lastMotionStamp else some k.stamp
      lastCompletion := completion
      wip := none }
  m.finish env .written k

/-! ### CARD_FAULT (R120) and the requests that wait -/

/-- The slots of the requests that wait on zone sectors. -/
def Writer.waitingSlots (w : Writer) : List Nat :=
  w.waiting.filterMap fun x => match x.key with
    | .request slot => some slot
    | .close => none

/-- Every request that waits for its answer, but for a read-back, a mount, a format and an unmount, is answered: those that wait on zone
sectors and then the STOP_CLIPs, each in the order in which they came, which is the model's (log 75). -/
def Media.failWaiting (m : Media) (env : Env) (r : FailReason) : Media :=
  let slots := m.writer.waitingSlots ++ m.writer.stopSlots
  (m.modWriter fun w => { w with waiting := [], stopSlots := [] }).answerAll env slots (.failed r)

/-- A read-back ends with the count of the bytes copied (R134). -/
def Media.endReadBack (m : Media) (env : Env) (a : Answer) : Media :=
  match m.writer.readBack with
  | none => m
  | some r =>
    let m := m.modWriter fun w => { w with readBack := none }
    let m := (m.modCard fun c => c.withdraw .readBack).modExch fun e => e.mapPurposes Purpose.withoutCopy
    m.answer env r.slot (a.withData (toLe 4 r.copied))

/-- The request of a mount or format in progress is answered, and its work is dropped. -/
def VolumeJob.slot : VolumeJob → Nat
  | .mount slot _ _ _ _ => slot
  | .format slot _ _ _ => slot

def Media.endJob (m : Media) (env : Env) (a : Answer) : Media :=
  match m.writer.job with
  | none => m
  | some j => (m.modWriter fun w => { w with job := none }).answer env j.slot a

/-- The VOLUME claim of a volume update (R92). -/
def zoneClaim (t : Tables) (z : Nat) : Claim :=
  ⟨t.geometry.firstSector + z, 1, some (zoneSector t z)⟩

/-- CARD_FAULT, CARD_LOST or HALTED is entered: the recording is over without a close, and close cause and stop pending become NONE
(R120, R128, R129, log 70). -/
def Writer.clearClose (w : Writer) : Writer :=
  { w with closeCause := none, stopPending := none, starvation := none }

/-- CARD_FAULT closes the open clip in the tables, its drop count raised first, and issues the last write (R120 steps 1, 2,
log 20). -/
def Media.faultEntry (m : Media) (env : Env) : Media :=
  match m.writer.openIndex with
  | none => m.modWriter fun w => { w with updates := [], flight := none }
  | some i =>
    let m := m.modWriter fun w => (w.addDrops (hostCount w.admitted)).closeEntry i .cardFault |>.1
    let m := m.modWriter fun w => { w with updates := [], flight := some ⟨dirSector i, false, true, []⟩ }
    match m.writer.tables with
    | none => m
    | some t => m.modCard fun c => c.hand env .volume (zoneClaim t (dirSector i))

/-- The entry to CARD_FAULT (R120); the order of its FAILED(CARD) answers is the model's (log 75). -/
def Media.enterCardFault (m : Media) (env : Env) : Media :=
  let m := (m.enter .cardFault).modCard Card.withdrawAll
  let m := m.faultEntry env
  let m := ((m.dropParked env .cardFailed).dropAdmitted env .cardFailed).flush
  let m := (m.failWaiting env .card).endReadBack env (.failed .card)
  (m.endJob env (.failed .card)).modWriter fun w => { w.clearClose with hostReset := false }

/-- A chunk's run has failed: the segment is retired and the chunk rewritten, or CARD_FAULT follows (R119, R120), under a WARM
reset's close as under any other (log 21). -/
def Media.chunkFailed (m : Media) (env : Env) (p : WriteInProgress) : Media :=
  if p.rewrite then m.enterCardFault env
  else
    match m.writer.openIndex, m.writer.current, m.writer.tables with
    | some i, some cur, some t =>
      (m.modWriter fun w => w.changeSegment cur.segment ⟨.retiring, (mapAt t.map cur.segment).link⟩).allocateFor env i
        { p with rewrite := true }
    | _, _, _ => m

end Sys2Proof.Machine
end

