-- ==== Sys2Proof/Machine/VolumeWork.lean ====
section
/-! DEFINITION. The Clip Writer's work on the card: volume updates and the mirror (R92, R93), formatting (R94, R95), mounting
(R96 to R100), unmounting (R101), reading back (R133, R134), the loss of the card or the supply (R128, R129), the exchange
failing and the WARM reset (R130, R131), and the settling of what follows a command (log 31). -/

namespace Sys2Proof.Machine

/-! ### The directory mirror (R93) -/

def Writer.entry (w : Writer) (i : Nat) : Option Clip :=
  w.clipAt i

/-- One mirror entry's write becomes due: the mirror edition rises, and the entry is as last mirrored (R93). -/
def Writer.mirrorNext (w : Writer) (i : Nat) : Writer :=
  { w with mirrorEdition := nextEdition w.mirrorEdition, mirrorDirty := w.mirrorDirty.filter fun x => x ≠ i }

/-- The mirror writes of the entries listed, asked for side by side, each with the entry's fields as they stand (log 13); one that
is skipped still raises the edition (R196). -/
def Media.mirror (env : Env) (follows : Bool) (entries : List Nat) (m : Media) : Media :=
  entries.foldl
    (fun m i =>
      let m := m.modWriter fun w => w.mirrorNext i
      m.modExch fun e => e.writeRecord env.now (mirrorRecord i follows m.writer.mirrorEdition (m.writer.entry i)))
    m

/-- The whole directory is written to the mirror (R93). -/
def Media.mirrorAll (m : Media) (env : Env) : Media :=
  Media.mirror env false (List.range 256) m

/-- A directory sector was written OK: its changed entries go to the mirror (R93). -/
def Media.mirrorSector (m : Media) (env : Env) (z : Nat) : Media :=
  if 1 ≤ z ∧ z < 129 then
    Media.mirror env true ([2 * (z - 1), 2 * (z - 1) + 1].filter fun i => m.writer.mirrorDirty.contains i) m
  else m

/-! ### Volume updates (R92) -/

/-- The waiters whose change the present content of a sector carries. -/
def Writer.carriedBy (w : Writer) (z : Nat) : List WaitKey :=
  (w.waiting.filter fun x => x.sectors.contains z).map Waiter.key

/-- A volume update is handed to the Card Port, its content taken from the tables now (R92). -/
def Media.issueUpdate (m : Media) (env : Env) (t : Tables) (z : Nat) (retried : Bool) : Media :=
  (m.modWriter fun w => { w with flight := some ⟨z, retried, false, w.carriedBy z⟩ }).modCard fun c =>
    c.hand env .volume (zoneClaim t z)

/-- The states in which the update list is written. -/
def Writer.writesList (w : Writer) : Bool :=
  match w.state with
  | .idle | .recording | .closing => true
  | .mounting => match w.job with
    | some (.mount _ .writeBack _ _ _) => true
    | some _ | none => false
  | .unmounted | .formatting | .cardLost | .cardFault | .halted => false

/-- The first sector of the list is issued when none is in flight. -/
def Media.nextUpdate (m : Media) (env : Env) : Option Media :=
  match m.writer.writesList, m.writer.flight, m.writer.updates, m.writer.tables with
  | true, none, z :: rest, some t => some ((m.modWriter fun w => { w with updates := rest }).issueUpdate env t z false)
  | _, _, _, _ => none

/-- What a waiter has waited for is complete: the request is answered DONE, or the close ends in IDLE and its STOP_CLIPs are answered in
the order in which they came (R92, R124, log 75). -/
def Media.fire (m : Media) (env : Env) (k : WaitKey) : Media :=
  match k with
  | .request slot => m.answer env slot .done
  | .close =>
    let slots := m.writer.stopSlots
    ((m.enter .idle).modWriter fun w => { w with closeCause := none, stopSlots := [] }).answerAll env slots .done

def Waiter.written (x : Waiter) (carried : List WaitKey) (z : Nat) : Waiter :=
  if x.key ∈ carried then { x with sectors := x.sectors.filter fun y => y ≠ z } else x

/-- The waiters carried by a write that ended OK wait for that sector no longer. Those with none left complete after the mirror records of
that sector, in the order in which they began to wait (R92, R93, log 75). -/
def Media.sectorWritten (m : Media) (env : Env) (f : VolumeFlight) : Media :=
  let waiting := m.writer.waiting.map fun x => x.written f.carried f.sector
  let done := (waiting.filter fun x => x.sectors.isEmpty).map Waiter.key
  let m := m.modWriter fun w => { w with flight := none, waiting := waiting.filter fun x => !x.sectors.isEmpty }
  done.foldl (fun m k => m.fire env k) (m.mirrorSector env f.sector)

/-- A request's answer waits for zone sectors, or is given at once when it changed none (R92). -/
def Media.awaitSectors (m : Media) (env : Env) (slot : Nat) (sectors : List Nat) : Media :=
  if sectors.isEmpty then m.answer env slot .done
  else m.modWriter fun w => { w with waiting := w.waiting ++ [⟨.request slot, sectors⟩] }

/-- The tables are dropped and the writer becomes UNMOUNTED; the unmount's requests are answered after the read-back (R101, log 75). -/
def Media.finishUnmount (m : Media) (env : Env) (slots : List Nat) (a : Answer) : Media :=
  let m := (m.endReadBack env (.failed .clipGone)).modCard Card.withdrawAll
  let m := (m.modWriter fun w => { w.dropTables with unmounting := none }).enter .unmounted
  m.answerAll env slots a

/-- The list being written is that of a WARM reset's close, or of its unmount in IDLE (R131); it is not while a START_CLIP taken in that
IDLE records or closes its clip (log 19). -/
def Writer.resetEnds (w : Writer) : Bool :=
  w.hostReset && decide (w.state = .idle ∨ w.closeCause = some .hostReset)

/-- A volume update has failed twice (R92, R131). When a WARM reset's unmount drops the list so, the changes that wait on it are
answered FAILED(CARD) (log 60), and a chunk in ALLOCATING goes on to be written (log 61). -/
def Media.updateFailed (m : Media) (env : Env) : Media :=
  let m := m.modWriter fun w => { w with flight := none }
  if m.writer.resetEnds then (m.modWriter fun w => { w with updates := [] }).failWaiting env .card
  else m.enterCardFault env

/-- The outcome of a volume update (R92) or of CARD_FAULT's last write (R120). -/
def Media.updateOutcome (m : Media) (env : Env) (f : VolumeFlight) (o : RunOutcome) : Media :=
  if o = .ok then m.sectorWritten env f
  else if f.final then m.modWriter fun w => { w with flight := none }
  else if f.retried then m.updateFailed env
  else
    match m.writer.tables with
    | none => m.modWriter fun w => { w with flight := none }
    | some t => m.issueUpdate env t f.sector true

/-! ### Formatting (R94, R95) -/

/-- Where R94 and R96 test READY, BUSY passes too (R138). -/
def Card.usable (c : Card) : Bool :=
  decide (c.state = .ready ∨ c.state = .busy)

/-- The tables go, with the claims waiting for them; a run in flight goes on unwanted (R94, R96, R140). -/
def Media.dropVolume (m : Media) : Media :=
  (m.modWriter Writer.dropTables).modCard Card.withdrawAll

/-- A mount or format ends with the writer in a state and the tables dropped. -/
def Media.abandonJob (m : Media) (env : Env) (st : WriterState) (a : Answer) : Media :=
  (m.dropVolume.enter st).endJob env a

def Writer.setJob (w : Writer) (j : VolumeJob) : Writer :=
  { w with job := some j }

def Media.handVolume (m : Media) (env : Env) (c : Claim) : Media :=
  m.modCard fun card => card.hand env .volume c

/-- A request waits on the update list. -/
def Writer.requestWaits (w : Writer) : Bool :=
  !w.waitingSlots.isEmpty

/-- What is true of the writer once a WARM reset has ended it (R131). -/
def Writer.warmCleared (w : Writer) : Writer :=
  { w with
    expected := 0
    keyWait := false
    gapCount := 0
    stopPending := none
    closeCause := none
    motionOrdinal := 0
    hostReset := false }

/-- A format drops the volume that a WARM reset was about to unmount, and the reset is over with it (R94, R131, log 19). -/
def Writer.resetOver (w : Writer) : Writer :=
  if w.hostReset then w.warmCleared else w

/-- FORMAT_VOLUME (R94). -/
def Media.format (m : Media) (env : Env) (slot : Nat) : Media :=
  let w := m.writer
  let idleFree := decide (w.state = .idle) && w.readBack.isNone && w.unmounting.isNone && !w.requestWaits
  if (decide (w.state = .unmounted) || idleFree) = false ∨ env.warn = true then m.answer env slot .refusedState
  else if m.card.usable = false then m.answer env slot (.failed .noCard)
  else
    let p := w.profile
    let g : Geometry := ⟨p.firstSector, p.segmentSize, p.segmentCount⟩
    let m := (m.dropVolume.modWriter Writer.resetOver).enter .formatting
    if m.card.capacity < areaEnd g.firstSector g.segmentSize g.segmentCount then
      (m.enter .unmounted).answer env slot (.failed .areaTooLarge)
    else (m.modWriter fun w => w.setJob (.format slot 1 g 0)).handVolume env ⟨g.firstSector, 1, none⟩

/-- The generation after the one the card holds, if it holds one (R95 step 1). -/
def newGeneration (sector : List Byte) : Nat :=
  match parseHeader sector with
  | none => 1
  | some h => if h.generation = 4294967295 then 1 else h.generation + 1

/-- The zone sectors 1 to 136 of an empty volume (R95 step 3). -/
def emptyZone (g : Geometry) (generation : Nat) : List Byte :=
  ((List.range 136).map fun i => zoneSector (.formatted g generation) (i + 1)).flatten

/-- The last run of a format ended OK: the tables take the new volume, and the answer follows the mirror records (R95, log 75). -/
def Media.installFormat (m : Media) (env : Env) (slot : Nat) (g : Geometry) (generation : Nat) : Media :=
  let m := m.modWriter fun w =>
    { w with
      mounted := true
      tables := some (.formatted g generation)
      updates := []
      mirrorDirty := []
      job := none }
  ((m.mirrorAll env).enter .idle).answer env slot .done

/-- A run of a format ended OK: the next one follows (R95). -/
def Media.formatStep (m : Media) (env : Env) (slot step : Nat) (g : Geometry) (generation : Nat) (got : List Byte) : Media :=
  match step with
  | 1 =>
    (m.modWriter fun w => w.setJob (.format slot 2 g (newGeneration got))).handVolume env
      ⟨g.firstSector, 1, some (List.replicate 512 0)⟩
  | 2 =>
    (m.modWriter fun w => w.setJob (.format slot 3 g generation)).handVolume env
      ⟨g.firstSector + 1, 136, some (emptyZone g generation)⟩
  | 3 =>
    (m.modWriter fun w => w.setJob (.format slot 4 g generation)).handVolume env
      ⟨g.firstSector, 1, some (headerSector generation g.segmentSize g.segmentCount 1)⟩
  | _ => m.installFormat env slot g generation

/-! ### Mounting (R96 to R99) -/

/-- MOUNT_VOLUME (R96). -/
def Media.mount (m : Media) (env : Env) (slot : Nat) : Media :=
  let st := m.writer.state
  if (st ≠ .unmounted ∧ st ≠ .cardLost ∧ st ≠ .cardFault ∧ st ≠ .halted) ∨ env.warn = true then
    m.answer env slot .refusedState
  else if m.card.usable = false then m.answer env slot (.failed .noCard)
  else
    let first := m.writer.profile.firstSector
    let m := m.dropVolume.enter .mounting
    if m.card.capacity ≤ first then (m.enter .unmounted).answer env slot (.failed .areaTooLarge)
    else (m.modWriter fun w => w.setJob (.mount slot .header none [] [])).handVolume env ⟨first, 1, none⟩

/-- The scan of a clip goes on with its next segment, or the clip is rebuilt and the next OPEN clip is scanned (R98, R99). The
list of clips still to scan is `todo`; with none left the mount writes back (R99). -/
def Media.mountFinishScan (m : Media) (slot : Nat) (recovered : List Nat) : Media :=
  m.modWriter fun w => w.settleTables.setJob (.mount slot .writeBack none [] recovered)

/-- The next segment of a scan is about to be read. -/
def Media.readSegment (m : Media) (env : Env) (slot : Nat) (t : Tables) (s : Scan) (seg : Nat) (todo recovered : List Nat) :
    Media :=
  (m.modWriter fun w => w.setJob (.mount slot .segmentHeader (some s) todo recovered)).handVolume env
    ⟨t.geometry.segmentStart seg, 1, none⟩

/-- The next OPEN clip is scanned; one with an empty chain is rebuilt at once (R97 step 6). -/
def Media.scanClips (env : Env) (slot : Nat) : List Nat → List Nat → Media → Media
  | [], recovered, m => m.mountFinishScan slot recovered
  | i :: todo, recovered, m =>
    match m.writer.tables, m.writer.clipAt i with
    | some t, some c =>
      let s := t.startScan i c
      match s.segments with
      | seg :: _ => m.readSegment env slot t s seg todo recovered
      | [] =>
        Media.scanClips env slot todo (recovered ++ [c.number])
          (m.modWriter fun w => w.changeEntry i fun c => c.rebuild s)
    | _, _ => Media.scanClips env slot todo recovered m

/-- A segment's chunks have ended: the next segment follows, or the clip is rebuilt (R98, R99). -/
def Media.segmentEnd (m : Media) (env : Env) (slot : Nat) (s : Scan) (todo recovered : List Nat) : Media :=
  let s := { s with segments := s.segments.tail, ordinal := s.ordinal + 1 }
  match m.writer.tables, m.writer.clipAt s.index with
  | some t, some c =>
    match s.segments with
    | seg :: _ => m.readSegment env slot t s seg todo recovered
    | [] =>
      Media.scanClips env slot todo (recovered ++ [c.number])
        (m.modWriter fun w => w.changeEntry s.index fun c => c.rebuild s)
  | _, _ => Media.scanClips env slot todo recovered m

/-- The scan reads the chunk header at its place, or finds the segment's end (R98). -/
def Media.readChunkAt (m : Media) (env : Env) (slot : Nat) (s : Scan) (todo recovered : List Nat) : Media :=
  match m.writer.tables, s.segments with
  | some t, seg :: _ =>
    if s.sector < t.geometry.segmentSize then
      (m.modWriter fun w => w.setJob (.mount slot .chunkFirst (some s) todo recovered)).handVolume env
        ⟨t.geometry.segmentStart seg + s.sector, 1, none⟩
    else m.segmentEnd env slot s todo recovered
  | _, _ => m.segmentEnd env slot s todo recovered

/-- A segment header has been read (R98). -/
def Media.segmentHeaderRead (m : Media) (env : Env) (slot : Nat) (s : Scan) (todo recovered : List Nat) (got : List Byte) :
    Media :=
  match m.writer.tables, m.writer.clipAt s.index with
  | some t, some c =>
    if segmentNames got c.number s.ordinal t.generation then
      m.readChunkAt env slot { s with sector := 1, firstSeq := leNat got 12 4, atFirst := true } todo recovered
    else m.segmentEnd env slot s todo recovered
  | _, _ => m.segmentEnd env slot s todo recovered

/-- A chunk has been read whole and is judged (R98). -/
def Media.chunkRead (m : Media) (env : Env) (slot : Nat) (s : Scan) (c : ReadChunk) (todo recovered : List Nat)
    (bytes : List Byte) : Media :=
  match s.judge c (chunkCrcOk bytes c.length) with
  | some s => m.readChunkAt env slot s todo recovered
  | none => m.segmentEnd env slot s todo recovered

/-- A chunk's first sector has been read (log 16). -/
def Media.chunkFirstRead (m : Media) (env : Env) (slot : Nat) (s : Scan) (todo recovered : List Nat) (got : List Byte) :
    Media :=
  match m.writer.tables, s.segments with
  | some t, seg :: _ =>
    match parseChunkHeader got t.geometry.segmentSize s.sector with
    | none => m.segmentEnd env slot s todo recovered
    | some c =>
      if chunkSectors c.length ≤ 1 then m.chunkRead env slot s c todo recovered got
      else
        (m.modWriter fun w => w.setJob (.mount slot .chunkRest (some { s with head := got }) todo recovered)).handVolume env
          ⟨t.geometry.segmentStart seg + s.sector + 1, chunkSectors c.length - 1, none⟩
  | _, _ => m.segmentEnd env slot s todo recovered

/-- The rest of a chunk has been read (log 16). -/
def Media.chunkRestRead (m : Media) (env : Env) (slot : Nat) (s : Scan) (todo recovered : List Nat) (got : List Byte) :
    Media :=
  match m.writer.tables with
  | some t =>
    match parseChunkHeader s.head t.geometry.segmentSize s.sector with
    | some c => m.chunkRead env slot { s with head := [] } c todo recovered (s.head ++ got)
    | none => m.segmentEnd env slot s todo recovered
  | none => m.segmentEnd env slot s todo recovered

/-- Zone sector 0 has been read (R96). -/
def Media.headerRead (m : Media) (env : Env) (slot : Nat) (got : List Byte) : Media :=
  let first := m.writer.profile.firstSector
  match parseHeader got with
  | none => m.abandonJob env .unmounted (.failed .unformatted)
  | some h =>
    if m.card.capacity < areaEnd first h.size h.count then m.abandonJob env .unmounted (.failed .areaTooLarge)
    else
      (m.modWriter fun w =>
          { w with
            tables := some ⟨⟨first, h.size, h.count⟩, h.generation, h.nextClip, [], [], 0⟩
            job := some (.mount slot .zone none [] []) }).handVolume env
        ⟨first + 1, 136, none⟩

/-- The indices of the OPEN entries in ascending clip number (R97 step 6). -/
def Tables.openEntries (t : Tables) : List Nat :=
  t.byNumber.filter fun i => openEntry (t.clipAt i)

/-- The zone has been read: it is tidied, the sectors changed join the list (in the model's order, log 72), and the OPEN clips are scanned
(R97). -/
def Media.zoneRead (m : Media) (env : Env) (slot : Nat) (got : List Byte) : Media :=
  match m.writer.tables with
  | none => m
  | some t0 =>
    let t := tidy (readZone t0.geometry t0.generation t0.nextClip got)
    let m := m.modWriter fun w => (({ w with tables := some t } : Writer).markAll (changedSectors got t)).dirtyAll (changedEntries got t)
    Media.scanClips env slot t.openEntries [] m

/-- A read of the mount has ended OK (R96 to R98). -/
def Media.mountStep (m : Media) (env : Env) (slot : Nat) (stage : MountStage) (scan : Option Scan)
    (todo recovered : List Nat) (got : List Byte) : Media :=
  match stage, scan with
  | .header, _ => m.headerRead env slot got
  | .zone, _ => m.zoneRead env slot got
  | .segmentHeader, some s => m.segmentHeaderRead env slot s todo recovered got
  | .chunkFirst, some s => m.chunkFirstRead env slot s todo recovered got
  | .chunkRest, some s => m.chunkRestRead env slot s todo recovered got
  | _, _ => m

/-- The mount's answer data (R99, R197). -/
def mountData (present : Nat) (recovered : List Nat) : List Byte :=
  toLe 2 present ++ (toLe 2 recovered.length ++ (recovered.take 12).flatMap (toLe 4))

/-- The changed sectors have been written: the mount completes, and its answer follows the mirror records (R99, log 75). -/
def Media.mountDone (m : Media) (env : Env) : Option Media :=
  match m.writer.job, m.writer.updates, m.writer.flight, m.writer.tables with
  | some (.mount slot .writeBack _ _ recovered), [], none, some t =>
    let m := m.modWriter fun w => { w with job := none, mirrorDirty := [] }
    some (((m.mirrorAll env).enter .idle).answer env slot (Answer.done.withData (mountData t.present.length recovered)))
  | _, _, _, _ => none

/-- The outcome of a run of the mount or format in progress (R95, R96, R100). -/
def Media.jobOutcome (m : Media) (env : Env) (j : VolumeJob) (o : RunOutcome) (got : List Byte) : Media :=
  if o = .ok then
    match j with
    | .mount slot stage scan todo recovered => m.mountStep env slot stage scan todo recovered got
    | .format slot step g generation => m.formatStep env slot step g generation got
  else m.abandonJob env .unmounted (.failed .card)

/-! ### Unmounting, protection, deletion (R101 to R103) -/

/-- UNMOUNT_VOLUME (R101). -/
def Media.unmount (m : Media) (env : Env) (slot : Nat) : Media :=
  match m.writer.state with
  | .recording | .closing | .mounting | .formatting => m.answer env slot .refusedState
  | .unmounted => m.answer env slot .done
  | .idle => m.modWriter fun w => { w with unmounting := some (w.unmounting.getD [] ++ [slot]) }
  | .cardLost | .cardFault | .halted => m.finishUnmount env [slot] .done

/-- The states that take SET_PROTECTION, DELETE_CLIP and READ_BACK (R102, R103, R133). -/
def Writer.takesClipRequests (w : Writer) : Bool :=
  decide (w.state = .idle ∨ w.state = .recording ∨ w.state = .closing)

/-- SET_PROTECTION (R102). -/
def Media.setProtection (m : Media) (env : Env) (slot clip : Nat) (on : Bool) : Media :=
  if m.writer.takesClipRequests then
    match m.writer.indexOf clip, (m.writer.indexOf clip).bind m.writer.clipAt with
    | some i, some c =>
      if c.causes.request = on then m.answer env slot .done
      else
        (m.modWriter fun w => w.changeEntry i fun c => { c with causes := { c.causes with request := on } }).awaitSectors env
          slot [dirSector i]
    | _, _ => m.answer env slot .refusedParam
  else m.answer env slot .refusedState

/-- DELETE_CLIP (R103). -/
def Media.deleteClip (m : Media) (env : Env) (slot clip : Nat) (force : Bool) : Media :=
  if m.writer.takesClipRequests then
    match m.writer.indexOf clip, (m.writer.indexOf clip).bind m.writer.clipAt with
    | some i, some c =>
      if c.isOpen then m.answer env slot .refusedState
      else if c.causes.any && !force then m.answer env slot .refusedParam
      else
        let r := m.writer.removeClip i
        (m.modWriter fun _ => r.1).awaitSectors env slot r.2
    | _, _ => m.answer env slot .refusedParam
  else m.answer env slot .refusedState

/-! ### Starting and stopping a clip (R121, R123) -/

/-- START_CLIP, with the stamp of the pickup that took it (R121). An unmount that waits for the update list then waits until the writer is
IDLE again (log 19). -/
def Media.startClip (m : Media) (env : Env) (slot first : Nat) (pickup : Stamp) : Media :=
  let w := m.writer
  if w.state = .idle ∧ w.reserveHeld = false then
    let r := w.open_ pickup
    let m := m.modWriter fun _ => r.1
    match r.2 with
    | none => m.answer env slot (.failed .directoryFull)
    | some i =>
      let p := w.profile
      let m := (m.modWriter fun w =>
        { w with
          limits := ⟨p.clipSeconds, p.gapWait, p.starvationSeconds⟩
          expected := first
          keyWait := true
          parked := []
          gapCount := 0
          gapFresh := false
          admissionStart := pickup
          starvation := some ⟨pickup, p.starvationSeconds * 1000000⟩
          current := none
          motionOrdinal := 0
          stopPending := none
          closeCause := none }).enter .recording
      m.awaitSectors env slot [0, dirSector i]
  else m.answer env slot .refusedState

/-- STOP_CLIP (R123). -/
def Media.stopClip (m : Media) (env : Env) (slot : Nat) (last : Option Nat) : Media :=
  match m.writer.state with
  | .recording =>
    let m := m.modWriter fun w => { w with stopSlots := w.stopSlots ++ [slot] }
    match last with
    | none => m.closeBegin env .request
    | some l => (m.modWriter fun w => { w with stopPending := some l }).checkStop env
  | .closing => m.answer env slot { Answer.done with alreadyClosing := true }
  | .idle => m.answer env slot .done
  | .unmounted | .mounting | .formatting | .cardLost | .cardFault | .halted => m.answer env slot .refusedState

/-! ### Reading back (R133, R134) -/

/-- The bytes of a clip that a read-back can reach (R133). -/
def Tables.storedBytes (t : Tables) (c : Clip) : Nat :=
  (t.chain c).length * t.perSegment

/-- READ_BACK (R133). -/
def Media.startReadBack (m : Media) (env : Env) (slot clip offset length address : Nat) : Media :=
  if m.writer.takesClipRequests && m.writer.readBack.isNone then
    match m.writer.tables, (m.writer.indexOf clip).bind m.writer.clipAt with
    | some t, some c =>
      let stored := t.storedBytes c
      if offset % 512 ≠ 0 ∨ length % 512 ≠ 0 ∨ length = 0 ∨ 1048576 < length ∨ address % 4 ≠ 0 ∨ stored ≤ offset then
        m.answer env slot .refusedParam
      else
        m.modWriter fun w =>
          { w with readBack := some ⟨slot, clip, offset, min length (stored - offset), address, 0, 0, .idle⟩ }
    | _, _ => m.answer env slot .refusedParam
  else m.answer env slot .refusedState

/-- The sectors of the next piece: up to 64, within one segment (R134). -/
def Tables.pieceSectors (t : Tables) (r : ReadBack) : Nat :=
  min 64 (min (r.left / 512) ((t.perSegment - r.next % t.perSegment) / 512))

/-- The next piece is handed to the Card Port, or the clip has gone (R134). -/
def Media.nextPiece (m : Media) (env : Env) : Option Media :=
  match m.writer.readBack with
  | none => none
  | some r =>
    if r.stage = .idle then
      match m.writer.tables, (m.writer.indexOf r.clip).bind m.writer.clipAt with
      | some t, some c =>
        match (t.chain c)[r.next / t.perSegment]? with
        | some seg =>
          let n := t.pieceSectors r
          let claim : Claim := ⟨t.geometry.segmentStart seg + 1 + r.next % t.perSegment / 512, n, none⟩
          some ((m.modWriter fun w => { w with readBack := some { r with piece := n, stage := .reading } }).modCard fun c =>
            c.hand env .readBack claim)
        | none => some (m.endReadBack env (.failed .clipGone))
      | _, _ => some (m.endReadBack env (.failed .clipGone))
    else none

/-- The clip left the directory while its next piece waited at the Card Port: the claim is withdrawn before a sector of a freed
segment is read (R134, R140). -/
def Media.pieceGone (m : Media) (env : Env) : Option Media :=
  match m.writer.readBack, m.card.readBack with
  | some r, some _ => if (m.writer.indexOf r.clip).isNone then some (m.endReadBack env (.failed .clipGone)) else none
  | _, _ => none

/-- A piece's run has ended (R134). -/
def Media.pieceOutcome (m : Media) (env : Env) (r : ReadBack) (o : RunOutcome) (got : List Byte) : Media :=
  if o = .ok then
    (m.modWriter fun w => { w with readBack := some { r with stage := .writing } }).modExch fun e =>
      e.issue env.now (.readBackWrite true) (r.address + r.copied) (some got) got.length
  else m.endReadBack env (.failed .card)

/-- A piece has been written into the host buffer (R134). -/
def Media.pieceCopied (m : Media) (env : Env) : Media :=
  match m.writer.readBack with
  | some r =>
    if r.stage = .writing then
      let n := r.piece * 512
      let r := { r with next := r.next + n, left := r.left - n, copied := r.copied + n, stage := .idle }
      let m := m.modWriter fun w => { w with readBack := some r }
      if r.left = 0 then m.endReadBack env .done else m
    else m
  | none => m

/-- The link write of a piece has failed (R134). -/
def Media.pieceLost (m : Media) (env : Env) : Media :=
  match m.writer.readBack with
  | some r => if r.stage = .writing then m.endReadBack env (.failed .link) else m
  | none => m

/-! ### Losing the card or the supply (R100, R128, R129) -/

/-- Every held edition receives one status, those held for no chunk last (log 74), and motion chunks held are discarded (R128, R129). -/
def Media.abandonHeld (m : Media) (env : Env) : Media :=
  let m := (m.dropParked env .abandoned).dropAdmitted env .abandoned
  (m.writer.held.foldl (fun m h => m.receipt env .abandoned h) m).flush

/-- Every request at the writer that waits for its answer is answered FAILED (R100, R128, R129): those of `failWaiting`, the waiting
unmounts, the read-back, and the mount or format. The order is the model's (log 75). -/
def Media.failAll (m : Media) (env : Env) (r : FailReason) : Media :=
  let slots := m.writer.unmounting.getD []
  let m := (m.failWaiting env r).modWriter fun w => { w.clearClose with unmounting := none, hostReset := false }
  ((m.answerAll env slots (.failed r)).endReadBack env (.failed r)).endJob env (.failed r)

/-- The Card Port tells the writer that the card has gone (R100, R128). -/
def Media.cardGone (m : Media) (env : Env) : Media :=
  match m.writer.state with
  | .idle | .recording | .closing | .cardFault | .mounting | .formatting =>
    let m := ((m.enter .cardLost).abandonHeld env).failAll env .noCard
    m.dropVolume
  | .halted => m.dropVolume
  | .unmounted | .cardLost => m

/-- The list gets back the sector whose write the halt cut short: it has not been written (R129). -/
def Writer.restoreFlight (w : Writer) : Writer :=
  match w.flight with
  | none => w
  | some f => { w with flight := none, updates := if w.updates.contains f.sector then w.updates else f.sector :: w.updates }

/-- The supply warning sends the writer to HALTED (R100, R129). -/
def Media.halt (m : Media) (env : Env) : Media :=
  if m.writer.state = .halted then m
  else
    let job := m.writer.job.isSome
    let m := (m.modWriter fun w => w.addDrops (hostCount w.admitted)).enter .halted
    let m := (m.modCard Card.withdrawAll).modWriter Writer.restoreFlight
    let m := (m.abandonHeld env).failAll env .supply
    if job then m.dropVolume else m

/-! ### The exchange failing, and the WARM reset (R130, R131, R68) -/

/-- The Clip Writer's part in the exchange becoming FAULTED (R130, R134). Every edition leaves the held slots at once, that of a chunk
in WRITING too (log 53). A host chunk in ALLOCATING keeps its place (log 23). With a queued key chunk that opens a
clip its rollover goes, and the admission start stamp stays at that chunk's (log 62). -/
def Media.writerFault (m : Media) (env : Env) : Media :=
  let dropped := hostCount m.writer.queue
  let m := m.modWriter fun w =>
    { w.addDrops dropped with
      parked := []
      held := []
      queue := w.queue.filter fun c => !c.isHost }
  let m := (m.fetchFailed env).modWriter fun w => { w with keyWait := true }
  m.pieceLost env

/-- The buffer's chunk is being written. -/
def Writer.writingBuffer (w : Writer) (id : BufferId) : Bool :=
  match w.wip with
  | some p => decide (p.stage = .writing ∧ p.chunk.source = .buffer id)
  | none => false

/-- A WARM reset at a motion buffer (R68). -/
def Media.warmBuffer (m : Media) (id : BufferId) : Media :=
  if m.writer.writingBuffer id then m else m.returnBuffer id

/-- A write in progress that has not reached WRITING is dropped by a WARM reset (R131). -/
def Writer.warmDropped (w : Writer) : List Chunk :=
  match w.wip with
  | some p => if p.stage = .writing then w.queue else p.chunk :: w.queue
  | none => w.queue

/-- Chunks and requests are dropped by a WARM reset, without receipt or answer; the volume update in flight carries no request's change
any more (R92, R131). -/
def Media.warmDrop (m : Media) : Media :=
  let m := m.modWriter fun w =>
    { w.addDrops (hostCount w.warmDropped) with
      parked := []
      queue := []
      held := []
      wip := w.wip.filter fun p => decide (p.stage = .writing)
      waiting := []
      flight := w.flight.map fun f => { f with carried := [] }
      stopSlots := []
      unmounting := none
      starvation := none
      stopPending := none
      gapFresh := false
      readBack := none }
  ((m.warmBuffer .a).warmBuffer .b).modCard fun c => c.withdraw .readBack

/-- The volume goes and the writer is UNMOUNTED after a WARM reset (R131). -/
def Media.warmUnmount (m : Media) : Media :=
  (m.dropVolume.modWriter Writer.warmCleared).enter .unmounted

/-- A WARM reset at the Clip Writer and the motion buffers (R68, R100, R131). -/
def Media.warmWriter (m : Media) (env : Env) : Media :=
  let m := m.warmDrop
  match m.writer.state with
  | .recording | .closing =>
    (m.modWriter fun w => { w with hostReset := true, closeCause := some .hostReset }).enter .closing
  | .idle => m.modWriter fun w => { w with hostReset := true }
  | .cardLost | .cardFault => m.warmUnmount
  | .halted => if env.warn then m.dropVolume.modWriter Writer.warmCleared else m.warmUnmount
  | .mounting | .formatting => (m.modWriter fun w => { w with job := none }).warmUnmount
  | .unmounted => m.modWriter Writer.warmCleared

/-! ### What follows within a step (log 31) -/

/-- With the queue drained the open clip's entry closes (R124 step 3, R131). -/
def Media.closeDrained (m : Media) : Option Media :=
  let w := m.writer
  match w.state, w.queue, w.wip, w.openIndex with
  | .closing, [], none, some i =>
    let r := w.closeEntry i (w.closeCause.getD .request)
    some (m.modWriter fun _ => if w.resetEnds then r.1 else { r.1 with waiting := r.1.waiting ++ [⟨.close, r.2⟩] })
  | _, _, _, _ => none

/-- A waiting unmount completes: FAILED(CARD) once the writer is in CARD_FAULT, and with the update list empty in IDLE, or in a WARM
reset's close (R101, R131), after the read-back that it ends (log 75). An UNMOUNT_VOLUME that waits for a WARM reset's
unmount is answered DONE, also after the list was dropped (log 60). -/
def Media.unmountDrained (m : Media) (env : Env) : Option Media :=
  let w := m.writer
  if w.state = .cardFault then w.unmounting.map fun slots => m.finishUnmount env slots (.failed .card)
  else match w.updates, w.flight, w.wip with
  | [], none, none =>
    if w.resetEnds && w.openIndex.isNone && decide (w.state = .closing ∨ w.state = .idle) then
      let m := (m.endReadBack env (.failed .clipGone)).modWriter fun w => { w with unmounting := none }
      some (m.warmUnmount.answerAll env (w.unmounting.getD []) .done)
    else
      match w.state, w.unmounting with
      | .idle, some slots => some (m.finishUnmount env slots .done)
      | _, _ => none
  | _, _, _ => none

/-- An outcome reaches the writer (R92, R95, R100, R118, R134). -/
def Media.take (m : Media) (env : Env) (d : Delivery) : Media :=
  if d.outcome = .absent then m.cardGone env
  else
    match d.cls with
    | .volume =>
      match m.writer.flight, m.writer.job with
      | some f, _ => m.updateOutcome env f d.outcome
      | none, some j => m.jobOutcome env j d.outcome d.got
      | none, none => m
    | .chunk =>
      match m.writer.wip with
      | some p =>
        if p.stage = .writing then
          if d.outcome = .ok then m.chunkWritten env p d.completion else m.chunkFailed env p
        else m
      | none => m
    | .readBack =>
      match m.writer.readBack with
      | some r => if r.stage = .reading then m.pieceOutcome env r d.outcome d.got else m
      | none => m

def Media.takeNext (m : Media) (env : Env) : Option Media :=
  match m.card.outcomes with
  | [] => none
  | d :: _ => some ((m.modCard Card.takeOutcome).take env d)

def Media.arbitrate (m : Media) (env : Env) : Option Media :=
  (m.card.arbitrate env).map m.setCard

/-- The next thing that follows of itself, the arbiter before the writer (worked sequence 8.10). -/
def Media.follow (env : Env) (m : Media) : Option Media :=
  (((((((((m.pieceGone env).or (m.arbitrate env)).or (m.takeNext env)).or (m.nextUpdate env)).or (m.allocationDone env)).or (m.startWrite env)).or
    m.closeDrained).or (m.unmountDrained env)).or (m.mountDone env)).or (m.nextPiece env)

/-- Everything that follows within a step, at most `n` things. -/
def Media.settleFor (env : Env) : Nat → Media → Media
  | 0, m => m
  | n + 1, m =>
    match m.follow env with
    | none => m
    | some m => Media.settleFor env n m

/-- Everything that follows within a step (log 31). -/
def Media.settle (m : Media) (env : Env) : Media :=
  Media.settleFor env 1024 m

end Sys2Proof.Machine
end

