-- ==== Sys2Proof/Machine/ReportPage.lean ====
section
/-! DEFINITION. The report page (R199): the items of every block at the places of spec/12 section 12.10. An item with no value at
the time, for which R199 gives no code, is a free byte (log 25). -/

namespace Sys2Proof.Machine

/-- The edition that the report page being written will carry. -/
def State.pageEdition (s : State) : Edition :=
  nextEdition s.media.exch.reportEdition

/-- Free bytes at a place of the page (log 25). -/
def State.unstated (s : State) (at_ n : Nat) : List Byte :=
  (List.range n).map fun i => Config.unstatedReportByte (at_ + i) s.pageEdition.toNat

def optNat (o : Option Nat) : Nat :=
  o.getD 0

/-- Clock and exchange, motion (R30), integration (R45). -/
def State.reportMotion (s : State) (pickup : Stamp) : List (Nat × List Byte) :=
  let e := s.media.exch
  let m := s.motion
  let g := s.integ
  [(8, stampBytes pickup), (16, toLe 2 e.torn), (18, toLe 1 (e.working.countP Option.isSome)), (24, toLe 1 m.state.code),
   (25, toLe 1 m.learning.code), (26, toLe 2 m.stampFaults), (28, axesBytes m.bias), (40, toLe 4 m.lostTotal),
   (48, toLe 1 g.state.code), (49, toLe 1 g.history.length), (50, toLe 2 g.gapTotal), (52, toLe 2 g.satTotal),
   (56, stampBytes ((g.history.getLast?.map HistoryEntry.stamp).getD 0)), (64, axesBytes g.theta)]

/-- Steadying (R67). -/
def State.reportSteady (s : State) : List (Nat × List Byte) :=
  let y := s.media.steady
  [(80, toLe 1 y.state.code), (81, toLe 1 y.frames.length), (82, [boolByte y.seeded]), (83, [boolByte y.lastComputed.isSome]),
   (84, toLe 4 y.frameCounter.toNat), (88, toLe 4 (y.lastComputed.getD 0).toNat), (92, axesBytes y.path),
   (104, toLe 2 y.skippedTotal), (106, toLe 2 y.heldTotal), (108, toLe 2 y.dropTotal),
   (110, toLe 1 y.bufA.state.code ++ toLe 1 y.bufB.state.code)]

/-- An entry of the incident list, 32 bytes (spec/12 section 12.10). -/
def IncidentEntry.bytes (e : IncidentEntry) : List Byte :=
  toLe 2 e.number.toNat ++ (toLe 1 e.outcome.code ++ (toLe 1 e.extensions ++ (toLe 4 e.peak ++ (stampBytes e.stamp
    ++ (stampBytes e.endStamp ++ (toLe 4 (optNat e.protectedClip) ++ toLe 4 (optNat e.lookbackClip)))))))

/-- Incidents (R82). The window end is written while the window is open, and 0 otherwise. -/
def State.reportIncident (s : State) : List (Nat × List Byte) :=
  let i := s.incident
  [(112, toLe 1 i.window.code), (113, toLe 1 i.shockRun), (114, toLe 1 i.settings.runLength),
   (115, toLe 1 i.settings.windowSeconds), (116, toLe 1 i.settings.lookbackSeconds), (117, toLe 1 i.list.length),
   (118, toLe 1 i.key.state.code), (119, toLe 1 i.capture.kind.code), (120, toLe 1 i.capture.presses.toNat),
   (124, toLe 4 i.settings.threshold), (128, stampBytes (if i.window = .incident then i.windowEnd else 0)),
   (136, stampBytes i.capture.stamp), (144, i.list.flatMap IncidentEntry.bytes)]

/-- The segments of the mounted volume in each state (R105). -/
def Tables.segmentsIn (t : Tables) (st : SegmentState) : Nat :=
  (t.map.take t.geometry.segmentCount).countP fun e => e.state = st

/-- The length of the update list: the sector in flight leaves it only when its write has ended OK (R92, log 28). -/
def Writer.listLength (w : Writer) : Nat :=
  w.updates.length + (match w.flight with
    | none => 0
    | some f => if w.updates.contains f.sector then 0 else 1)

/-- The items of a mounted volume (R105). -/
def Tables.report (t : Tables) (w : Writer) : List (Nat × List Byte) :=
  [(416, toLe 4 t.geometry.firstSector), (420, toLe 4 t.geometry.segmentSize), (424, toLe 2 t.geometry.segmentCount),
   (426, toLe 1 w.listLength), (428, toLe 4 t.generation), (432, toLe 4 t.nextClip),
   (436, toLe 2 (t.segmentsIn .free) ++ (toLe 2 (t.segmentsIn .filling) ++ (toLe 2 (t.segmentsIn .filled)
     ++ (toLe 2 (t.segmentsIn .retiring) ++ toLe 2 (t.segmentsIn .bad))))),
   (446, toLe 2 t.present.length), (448, toLe 2 (t.present.countP fun c => c.causes.any))]

/-- The volume (R105). While no volume is mounted its items are 0 (spec/12 section 12.10), but not the mirror edition: the model takes
that as the part's own count and writes it as it stands (DESIGN CHOICE, log 76). -/
def State.reportVolume (s : State) : List (Nat × List Byte) :=
  let w := s.media.writer
  [(400, [boolByte w.mounted]), (401, toLe 1 w.state.code), (402, toLe 1 w.profile.gapWait),
   (403, toLe 1 w.profile.starvationSeconds), (404, toLe 4 w.profile.firstSector), (408, toLe 4 w.profile.segmentSize),
   (412, toLe 2 w.profile.segmentCount), (414, toLe 2 w.profile.clipSeconds)]
    ++ ((match w.mounted, w.tables with
      | true, some t => t.report w
      | _, _ => [])
    ++ [(450, toLe 2 w.mirrorEdition.toNat)])

/-- Recording (R135). The attempt has no code while no write is in progress. -/
def State.reportRecording (s : State) : List (Nat × List Byte) :=
  let w := s.media.writer
  [(452, toLe 4 ((w.openClip.map Clip.number).getD 0)), (456, toLe 8 w.expected), (464, [boolByte w.keyWait]),
   (465, toLe 1 w.gapCount), (466, toLe 1 s.media.heldCount), (467, toLe 1 w.parked.length),
   (468, toLe 1 (hostCount w.queue)), (469, toLe 1 (w.queue.length - hostCount w.queue)),
   (470, toLe 1 ((w.wip.map fun p => p.stage.code).getD 0)),
   (471, match w.wip with
     | some p => [boolByte p.rewrite]
     | none => s.unstated 471 1),
   (472, [boolByte w.stopPending.isSome]), (473, [boolByte w.reserveHeld]), (474, [boolByte w.readBack.isSome]),
   (476, if w.stopPending.isSome then toLe 4 (optNat w.stopPending) else s.unstated 476 4),
   (480, stampBytes w.lastCompletion),
   (488, match w.readBack with
     | some r => toLe 4 r.left
     | none => s.unstated 488 4)]

/-- The card (R148). -/
def State.reportCard (s : State) : List (Nat × List Byte) :=
  let c := s.media.card
  [(492, toLe 1 c.state.code), (493, [boolByte c.detect]), (494, toLe 1 ((c.run.map fun r => r.cls.code).getD 0)),
   (495, toLe 1 (bitsNat [c.volume.isSome, c.chunk.isSome, c.readBack.isSome])), (496, toLe 8 c.capacity),
   (504, toLe 2 c.readErrors ++ (toLe 2 c.writeErrors ++ (toLe 2 c.timeouts ++ toLe 2 c.removals)))]

/-- Charging (R166). The effective V_reg is that of the options in force at the pickup (log 56). -/
def State.reportCharge (s : State) : List (Nat × List Byte) :=
  let c := s.charge
  [(512, toLe 1 c.usb.state.code ++ toLe 1 c.aux.state.code), (514, toLe 1 c.source.code), (515, toLe 1 c.state.code),
   (516, match c.returnState with
     | some st => toLe 1 st.code
     | none => s.unstated 516 1),
   (517, toLe 1 c.causes.word), (518, toLe 1 c.fault.code), (519, toLe 1 c.band.code), (520, [boolByte c.recording]),
   (522, toLe 2 (effectiveVreg s.options c.band)), (524, toLe 2 c.ic), (526, toLe 2 c.cap)]
    ++ ((match s.gauge.last with
      | some m => [(528, toLeInt 2 c.inputCurrent), (530, toLe 2 c.usbLimit),
          (532, toLe 2 m.readings.vinUsb ++ toLe 2 m.readings.vinAux)]
      | none => [(528, s.unstated 528 2), (530, toLe 2 c.usbLimit), (532, s.unstated 532 4)])
    ++ [(536, toLe 4 (c.prechargeTimer / 1000)), (540, toLe 4 (c.totalTimer / 1000)), (544, chargeFields s.options)])

/-- The last measurement (R177); a stamp that does not apply is 0. -/
def State.reportMeasurement (s : State) : List (Nat × List Byte) :=
  match s.gauge.last with
  | some m =>
    [(610, toLeInt 1 (m.readings.temperature.getD (-128))), (612, toLeInt 2 m.readings.current), (614, toLe 2 m.readings.vbat),
     (616, toLeInt 2 m.readings.die), (618, toLe 2 m.readings.vinUsb ++ toLe 2 m.readings.vinAux),
     (624, stampBytes m.stamp)]
  | none => [(610, s.unstated 610 1), (612, s.unstated 612 10), (624, stampBytes 0)]

/-- The gauge (R177). -/
def State.reportGauge (s : State) : List (Nat × List Byte) :=
  let g := s.gauge
  [(600, toLeInt 4 g.q), (604, toLeInt 2 (if g.state = .unset then 0 else g.stateOfCharge s.options)),
   (606, toLe 1 g.state.code), (607, [boolByte g.reserve]), (608, toLe 1 g.cutoffRun), (609, [boolByte g.warning])]
    ++ s.reportMeasurement

/-- Power (R189). -/
def State.reportPower (s : State) : List (Nat × List Byte) :=
  let p := s.power
  [(632, toLe 1 p.state.code), (633, toLe 1 p.key.state.code), (634, toLe 1 p.pressCount.toNat),
   (635, toLe 1 p.cause.code), (636, [boolByte p.reserveHeld]), (637, [boolByte p.cutoffLock]), (638, toLe 1 p.origin.code),
   (639, toLe 1 p.blockStatus.code), (640, [boolByte p.storing.isSome]), (641, toLe 1 p.record.lastKind.code),
   (642, toLe 1 p.record.warmCount), (643, toLe 1 p.record.supplyCount), (644, toLe 1 p.record.lastShutdown.code),
   (648, stampBytes (p.closeTarget.getD 0))]

/-- The body of the report page, bytes 2 to 1021 (R199). -/
def State.reportBody (s : State) (pickup : Stamp) : List Byte :=
  layoutFrom 1022 2
    (s.reportMotion pickup ++ (s.reportSteady ++ (s.reportIncident ++ (s.reportVolume ++ (s.reportRecording
      ++ (s.reportCard ++ (s.reportCharge ++ (s.reportGauge ++ s.reportPower))))))))

/-- The report page as a record of the exchange area (R196, R199). -/
def State.reportRecord (s : State) (pickup : Stamp) : Record where
  kind := .report
  offset := 0x1800
  head := toLe 2 s.pageEdition.toNat
  body := s.reportBody pickup
  tailAt := 1022

end Sys2Proof.Machine
end

