-- ==== Sys2Proof/Machine/MotionUnit.lean ====
section
/-! DEFINITION. The Motion Port's operations: the port's lines, bursts, the sample record, still detection and bias learning
(R13 to R33). -/

namespace Sys2Proof.Machine

/-! ### The port (R13, R14) -/

/-- The level at which the clock line rests (R13). -/
def MotionPort.idleLevel (p : MotionPort) : Bool :=
  match p.profile with
  | none => false
  | some q => q.port.idleHigh

/-- The port clock in Hz for a clock code (R13). -/
def PortSettings.clockHz (s : PortSettings) : Nat :=
  1000000 * 2 ^ s.clockCode

/-- A transfer of `n` bytes lasts this many port clock periods (R13). -/
def transferPeriods (n : Nat) : Nat :=
  8 * n + 2

/-- The lines in one bit period, after its first clock edge and after its second. With capture edge FIRST the outgoing line holds
the bit until the second edge and then changes to the next; with SECOND it changes to the bit on the first edge (R13). -/
def PortSettings.bitLines (s : PortSettings) (bit next : Bool) : List PortLines :=
  [⟨false, !s.idleHigh, bit⟩, ⟨false, s.idleHigh, if s.captureSecond then bit else next⟩]

/-- The lines over the bit periods of the bits given; after the last one the line rests low (R13, log 45). -/
def PortSettings.bitsLines (s : PortSettings) : List Bool → List PortLines
  | [] => []
  | b :: bs => s.bitLines b (bs.headD false) ++ s.bitsLines bs

/-- The outgoing data line in the clock period between the fall of the select line and the first bit period: the first bit with
capture edge FIRST, whose first clock edge the sensor samples too, and low with SECOND (R13, log 45). -/
def PortSettings.leadData (s : PortSettings) (out : List Byte) : Bool :=
  !s.captureSecond && (serialBits out).headD false

/-- The outgoing data line in the clock period before the select line rises (R13, log 45). -/
def PortSettings.trailData (s : PortSettings) (out : List Byte) : Bool :=
  s.captureSecond && (serialBits out).getLastD false

/-- The lines over a whole transfer of the bytes `out`, two entries for each port clock period: the period after the fall of the
select line, the bit periods, and the period before its rise (R13). -/
def PortSettings.transferLines (s : PortSettings) (out : List Byte) : List PortLines :=
  List.replicate 2 ⟨false, s.idleHigh, s.leadData out⟩
    ++ (s.bitsLines (serialBits out) ++ List.replicate 2 ⟨false, s.idleHigh, s.trailData out⟩)

/-- The `n` bytes that a transfer takes from the levels of the incoming data line at the two clock edges of each bit period, by the
capture edge in force (R13). -/
def PortSettings.taken (s : PortSettings) (levels : List (Bool × Bool)) (n : Nat) : List Byte :=
  takenBytes s.captureSecond levels n

/-- A transfer begins: the select line falls, the settings in force are its own, and the outgoing data line leaves its rest for the
first of `PortSettings.transferLines` (R13, R14). -/
def MotionPort.beginTransfer (p : MotionPort) (activity : PortActivity) (out : List Byte) : MotionPort :=
  { p with
    activity := activity
    selectHigh := false
    dataHigh := p.profile.elim false fun q => q.port.leadData out
    inFlight := p.profile.map MotionProfile.port
    outBytes := out }

/-- A transfer ends: the select line rises, the clock line rests at the idle level in force and the outgoing data line low (R13,
R14). -/
def MotionPort.endTransfer (p : MotionPort) : MotionPort :=
  { p with
    activity := .idle
    selectHigh := true
    clockHigh := p.idleLevel
    dataHigh := false
    inFlight := none
    outBytes := [] }

/-! ### Profile and states (R16 to R18) -/

/-- A checked profile is taken (R16). -/
def MotionPort.load (p : MotionPort) (q : MotionProfile) : MotionPort :=
  { p with
    state := .ready
    profile := some q
    bias := q.initialBias
    stillRun := 0
    clockHigh := if p.activity = .idle then q.port.idleHigh else p.clockHigh }

/-- The learning state that the window asks for (R17, R29, R32). -/
def MotionPort.freshLearning (p : MotionPort) : Learning :=
  if p.windowOpen then .suspended else .settling

/-- Intake starts (R17). -/
def MotionPort.start (p : MotionPort) : MotionPort :=
  { p with
    state := .running
    missed := 0
    lostTotal := 0
    stampFaults := 0
    prevStamp := none
    seedWaiting := true
    stillRun := 0
    learning := p.freshLearning }

/-- Intake has stopped (R18). -/
def MotionPort.stopped (p : MotionPort) : MotionPort :=
  { p with
    state := .ready
    stopWaiting := false
    missed := 0
    prevStamp := none
    seedWaiting := false
    stillRun := 0
    stopSlots := [] }

/-- The nominal period in µs (section 2.3). -/
def MotionPort.nominalPeriod (p : MotionPort) : Nat :=
  match p.profile with
  | none => 0
  | some q => 1000000 / q.nominalRate

/-! ### Bursts (R21 to R23) -/

/-- The 13 bytes of a burst (R22). -/
def burstBytes (address : Nat) : List Byte :=
  BitVec.ofNat 8 (address + 128) :: List.replicate 12 0

/-- A sample was not delivered (R23, R25). -/
def MotionPort.lose (p : MotionPort) : MotionPort :=
  { p with missed := bump 255 p.missed, lostTotal := bump 4294967295 p.lostTotal }

/-- A rising edge of the data-ready line (R21). -/
def MotionPort.dataReady (p : MotionPort) (now : Stamp) : MotionPort :=
  match p.state, p.stopWaiting, p.activity with
  | .running, false, .idle =>
    { p.beginTransfer .burst (burstBytes (p.profile.elim 0 MotionProfile.dataAddress)) with burstStamp := now }
  | .running, false, .burst => p.lose
  | _, _, _ => p

/-! ### The sample record (R24, R25) -/

def AxisSource.gyro (a : AxisSource) (bs : List Byte) : Int :=
  if a.negative then -sensorGyro bs a.source else sensorGyro bs a.source

def AxisSource.accel (a : AxisSource) (bs : List Byte) : Int :=
  if a.negative then -sensorAccel bs a.source else sensorAccel bs a.source

/-- The gyro value of the source axis is a full-scale reading (R24). -/
def AxisSource.saturated (a : AxisSource) (bs : List Byte) : Bool :=
  decide (sensorGyro bs a.source = 32767 ∨ sensorGyro bs a.source = -32768)

/-- The record that a burst forms (R24). -/
def MotionPort.sample (p : MotionPort) (map : Axes AxisSource) (bs : List Byte) : Sample where
  stamp := p.burstStamp
  gyro := map.map fun a => a.gyro bs
  accel := map.map fun a => a.accel bs
  missedBefore := p.missed
  sat := map.map fun a => a.saturated bs
  seed := p.seedWaiting
  bias := p.bias

/-- The record's stamp moves forward (R25). -/
def MotionPort.accepts (p : MotionPort) (s : Sample) : Bool :=
  match p.prevStamp with
  | none => true
  | some t => stampLater s.stamp t

/-- A stamp fault (R25). -/
def MotionPort.stampFault (p : MotionPort) : MotionPort :=
  { p.lose with stampFaults := bump 65535 p.stampFaults }

/-- The record is handed on (R25, R26). -/
def MotionPort.handOn (p : MotionPort) (s : Sample) : MotionPort :=
  { p with prevStamp := some s.stamp, missed := 0, seedWaiting := false }

/-! ### Still detection and bias learning (R27 to R29) -/

/-- The calibrated rate in 1/16 counts (R27, R39). -/
def calibrated (raw bias : Int) : Int :=
  raw * 16 - bias

def still (threshold : Nat) (raw bias : Int) : Bool :=
  decide ((calibrated raw bias).natAbs ≤ threshold)

/-- The bias of one axis after a still sample in LEARNING (R28). -/
def learnBias (raw bias : Int) : Int :=
  clampInt (-65536) 65536 (bias + truncDiv (calibrated raw bias) 256)

/-- The still test of an accepted sample (R27, R28). -/
def MotionPort.stillTest (p : MotionPort) (q : MotionProfile) (s : Sample) : MotionPort :=
  let isStill := (s.gyro.map₂ (still q.stillThreshold) p.bias).all
  match p.learning with
  | .suspended => p
  | .settling =>
    if isStill then
      { p with
        stillRun := bump 65535 p.stillRun
        learning := if q.stillRun ≤ p.stillRun + 1 then .learning else .settling }
    else { p with stillRun := 0 }
  | .learning =>
    if isStill then { p with stillRun := bump 65535 p.stillRun, bias := s.gyro.map₂ learnBias p.bias }
    else { p with stillRun := 0, learning := .settling }

/-- The Incident Monitor reports the window (R29). -/
def MotionPort.window (p : MotionPort) (isOpen : Bool) : MotionPort :=
  { p with windowOpen := isOpen, stillRun := 0, learning := if isOpen then .suspended else .settling }

/-! ### The WARM reset (R32) -/

/-- R32, but for the reports that intake has stopped. -/
def MotionPort.warm (p : MotionPort) : MotionPort :=
  { p with
    state := if p.state = .off then .off else .ready
    stopWaiting := false
    stillRun := 0
    missed := 0
    prevStamp := none
    seedWaiting := false
    learning := p.freshLearning
    transferSlot := none
    stopSlots := [] }

end Sys2Proof.Machine
end

