-- ==== Sys2Proof/Machine/IntegratorUnit.lean ====
section
/-! DEFINITION. The Orientation Integrator's operations (R34 to R46): one sample's integration, the history, lookups. -/

namespace Sys2Proof.Machine

/-- Intake has started (R34). -/
def Integrator.start (_ : Integrator) : Integrator :=
  { Integrator.reset with state := .seeding }

/-- Intake has stopped (R35). -/
def Integrator.stop (g : Integrator) : Integrator :=
  { g with state := .idle }

/-! ### Integrating one sample (R36 to R40) -/

/-- The divisor of R39: 32,768 × 16. -/
def angleUnit : Int :=
  524288

/-- The numerator of one axis (R39 step 2). -/
def stepNumerator (fullScale : Nat) (dt : Int) (raw bias carry : Int) : Int :=
  calibrated raw bias * fullScale * dt + carry

/-- θ and carry of one axis after a step (R39 steps 3 to 5). -/
def stepAxis (n theta : Int) : Int × Int :=
  (angleSum theta (truncDiv n angleUnit), n - truncDiv n angleUnit * angleUnit)

/-- The time step is longer than 4 nominal periods (R37). -/
def gapStep (dt : Int) (period : Nat) : Bool :=
  decide ((4 * period : Nat) < dt)

/-- An entry joins the history, which holds at most 128 (R40). -/
def Integrator.append (g : Integrator) (e : HistoryEntry) : Integrator :=
  { g with
    history := appendBounded 128 g.history e
    satTotal := if e.sat then bump 65535 g.satTotal else g.satTotal
    lastStamp := some e.stamp }

def Sample.entry (s : Sample) (theta : Axes Int) (gap : Bool) : HistoryEntry :=
  ⟨s.stamp, theta, gap, s.sat.any, decide (0 < s.missedBefore)⟩

/-- The seed (R36). -/
def Integrator.seed (g : Integrator) (s : Sample) : Integrator :=
  { g with state := .integrating }.append (s.entry g.theta false)

/-- One integrated sample (R37 to R40). -/
def Integrator.integrate (g : Integrator) (fullScale period : Nat) (last : Stamp) (s : Sample) : Integrator :=
  let dt := stampDiff s.stamp last
  let gap := gapStep dt period
  let used : Int := if gap then period else dt
  let n : Axes Int :=
    ⟨stepNumerator fullScale used s.gyro.yaw s.bias.yaw g.carry.yaw,
     stepNumerator fullScale used s.gyro.pitch s.bias.pitch g.carry.pitch,
     stepNumerator fullScale used s.gyro.roll s.bias.roll g.carry.roll⟩
  let r := n.map₂ stepAxis g.theta
  { g with
    theta := r.map Prod.fst
    carry := r.map Prod.snd
    gapTotal := if gap then bump 65535 g.gapTotal else g.gapTotal }.append (s.entry (r.map Prod.fst) gap)

/-- A sample record is taken (R36, R37). None arrives in IDLE (R35). -/
def Integrator.take (g : Integrator) (q : MotionProfile) (period : Nat) (s : Sample) : Integrator :=
  match g.state, g.lastStamp with
  | .idle, _ => g
  | .seeding, _ => g.seed s
  | .integrating, none => g.seed s
  | .integrating, some last => g.integrate q.fullScale period last s

/-! ### Lookups (R42, R43) -/

/-- An entry's own orientation and flags. -/
def HistoryEntry.answer (e : HistoryEntry) (short held : Bool) : LookupAnswer :=
  ⟨e.theta, short, held, e.gap, e.sat, e.missed⟩

/-- The share of the step from `a` to `b` at time `t`, on one axis (R42). -/
def interpolate (a b : HistoryEntry) (t : Stamp) (x y : Int) : Int :=
  angleSum x (truncDiv (angleDiff y x * stampDiff t a.stamp) (stampDiff b.stamp a.stamp))

/-- A time at or after `a`, against the entries that follow `a` (R42, R43). -/
def lookupFrom (t : Stamp) : HistoryEntry → List HistoryEntry → LookupAnswer
  | a, [] => a.answer false true
  | a, b :: rest =>
    if stampLater b.stamp t then
      { b.answer false false with theta := a.theta.map₂ (interpolate a b t) b.theta }
    else lookupFrom t b rest

/-- One time of a lookup request (R41 to R43). -/
def lookup (history : List HistoryEntry) (t : Stamp) : LookupAnswer :=
  match history with
  | [] => ⟨.const 0, true, true, false, false, false⟩
  | a :: rest => if stampLater a.stamp t then a.answer true false else lookupFrom t a rest

end Sys2Proof.Machine
end

