-- ==== Sys2Proof/Machine/SteadyUnit.lean ====
section
/-! DEFINITION. The Steadying Engine's operations (R47 to R69): frames, sheets, the computation of a frame, motion records. -/

namespace Sys2Proof.Machine

/-- What the engine sees of the integrator and the motion profile: the history and the nominal period. -/
structure Orientation where
  history : List HistoryEntry
  period : Nat
deriving DecidableEq, Repr

def Media.modSteady (m : Media) (f : Steady → Steady) : Media :=
  { m with steady := f m.steady }

/-! ### Starting and stopping (R48) -/

def Steady.start (s : Steady) (first : Word32) : Steady :=
  { s with
    state := .active
    frameCounter := first - 1
    frames := []
    headStage := .none
    head := none
    seeded := false
    path := .const 0
    heldSheet := .initial
    skippedTotal := 0
    heldTotal := 0
    lastComputed := none }

def Steady.stop (s : Steady) : Steady :=
  { s with state := .idle, frames := [], headStage := .none, head := none }

/-- Intake has stopped: the frames go, and a sheet read in flight is for nobody (R48). -/
def Media.steadyStop (m : Media) : Media :=
  (m.modSteady Steady.stop).modExch fun e => e.mapPurposes Purpose.withoutSheet

/-! ### Frame times (R52) -/

def bandTime (v : Stamp) (sheet : SheetValues) (j : Nat) : Stamp :=
  stampAdd v (sheet.readout * (2 * j + 1) / (2 * sheet.bands) - sheet.exposure / 2 : Int)

def centreTime (v : Stamp) (sheet : SheetValues) : Stamp :=
  stampAdd v (sheet.readout / 2 - sheet.exposure / 2 : Int)

def HeadFigures.of (v : Stamp) (sheet : SheetValues) (held clamped : Bool) : HeadFigures where
  sheet := sheet
  bandTimes := (List.range sheet.bands).map (bandTime v sheet)
  centre := centreTime v sheet
  paramsHeld := held
  sheetClamped := clamped

/-- The last band time, from which the time-out is set (R53). -/
def HeadFigures.last (h : HeadFigures) : Stamp :=
  h.bandTimes.getLast?.getD h.centre

/-- The head frame's figures are settled; the stage becomes WAITING (R50 to R53). -/
def Steady.settleSheet (s : Steady) (v : Stamp) (sheet : SheetValues) (held clamped : Bool) : Steady :=
  { s with
    headStage := .waiting
    head := some (.of v sheet held clamped)
    heldSheet := sheet
    heldTotal := if held then bump 65535 s.heldTotal else s.heldTotal }

/-- A sheet that completes its read (R51). -/
def Steady.takeSheet (s : Steady) (f : Frame) (bs : List Byte) : Steady :=
  if sheetGood bs f.number then s.settleSheet f.start (sheetValues bs) false (sheetChanged bs)
  else s.settleSheet f.start s.heldSheet true false

/-- The wait of the head frame (R53). -/
def HeadFigures.wait (h : HeadFigures) (period : Nat) : Wait :=
  ⟨h.last, 4 * period⟩

/-- A history stamp later than the last band time starts the computation (R53). -/
def HeadFigures.covered (h : HeadFigures) (o : Orientation) : Bool :=
  match o.history.getLast? with
  | none => false
  | some e => stampLater e.stamp h.last

/-- On entering WAITING the frame is computed at once (R53). -/
def HeadFigures.ready (h : HeadFigures) (o : Orientation) (now : Stamp) : Bool :=
  h.covered o || (h.wait o.period).due now

/-! ### Computing one frame (R56 to R61) -/

/-- The margin angles (R57). -/
def SteadyProfile.margins (p : SteadyProfile) : Axes Int :=
  ⟨(p.marginX * 57295780 / p.focal : Nat), (p.marginY * 57295780 / p.focal : Nat), (p.rollLimit * 1000 : Nat)⟩

/-- The follow of R58 step 2. -/
def followPath (k : Nat) (p theta : Int) : Int :=
  angleSum p (truncDiv (angleDiff theta p * k) 256)

/-- The catch of R58 step 3, with whether it moved the path. -/
def catchPath (m p theta : Int) : Int × Bool :=
  let s := angleDiff theta p
  if m < s then (angleSum theta (-m), true)
  else if m < -s then (angleSum theta m, true)
  else (p, false)

/-- One axis's path step (R58). -/
def stepPath (enabled seeded : Bool) (k : Nat) (m p theta : Int) : Int × Bool :=
  if enabled && seeded then catchPath m (followPath k p theta) theta else (theta, false)

/-- One axis's band angle, with whether it was clamped (R59). -/
def bandAngle (enabled : Bool) (m p theta : Int) : Int × Bool :=
  if enabled then
    let a := angleDiff p theta
    (clampInt (-m) m a, decide (m < a ∨ a < -m))
  else (0, false)

/-- A band angle as an offset in 1/16 px, with whether the clamp changed it (R60). -/
def offset (focal margin : Nat) (a : Int) : Int × Bool :=
  let x := roundDiv (a * focal * 16) 57295780
  let y := clampInt (-(margin * 16 : Nat)) (margin * 16 : Nat) x
  (y, decide (y ≠ x))

/-- A band angle as a roll in mdeg (R60). -/
def rollOf (limit : Nat) (a : Int) : Int × Bool :=
  let x := roundDiv a 1000
  let y := clampInt (-(limit : Int)) limit x
  (y, decide (y ≠ x))

/-- One band's correction (R59, R60, R61). -/
def bandOf (p : SteadyProfile) (path : Axes Int) (l : LookupAnswer) : Band :=
  let m := p.margins
  let yaw := bandAngle p.enable.yaw m.yaw path.yaw l.theta.yaw
  let pitch := bandAngle p.enable.pitch m.pitch path.pitch l.theta.pitch
  let roll := bandAngle p.enable.roll m.roll path.roll l.theta.roll
  let x := offset p.focal p.marginX yaw.1
  let y := offset p.focal p.marginY pitch.1
  let r := rollOf p.rollLimit roll.1
  { x := x.1, y := y.1, r := r.1
    clamp := yaw.2 || pitch.2 || roll.2 || x.2 || y.2 || r.2
    short := l.short, held := l.held }

/-- A frame as computed: the record it gives (R54, section 4.8). -/
def Steady.computeFrame (s : Steady) (f : Frame) (h : HeadFigures) (history : List HistoryEntry) : MotionRecord :=
  let bands := h.bandTimes.map (lookup history)
  let centre := lookup history h.centre
  let all := centre :: bands
  let m := s.profile.margins
  let yaw := stepPath s.profile.enable.yaw s.seeded s.profile.follow m.yaw s.path.yaw centre.theta.yaw
  let pitch := stepPath s.profile.enable.pitch s.seeded s.profile.follow m.pitch s.path.pitch centre.theta.pitch
  let roll := stepPath s.profile.enable.roll s.seeded s.profile.follow m.roll s.path.roll centre.theta.roll
  let path : Axes Int := ⟨yaw.1, pitch.1, roll.1⟩
  { frame := f.number
    flags :=
      { skipped := false
        paramsHeld := h.paramsHeld
        sheetClamped := h.sheetClamped
        pathSeeded := !s.seeded && s.profile.enable.any
        marginHit := ⟨yaw.2, pitch.2, roll.2⟩
        short := all.any LookupAnswer.short
        held := all.any LookupAnswer.held
        gap := all.any LookupAnswer.gap
        sat := all.any LookupAnswer.sat
        missed := all.any LookupAnswer.missed }
    centre := h.centre
    theta := centre.theta
    path := path
    bands := bands.map (bandOf s.profile path) }

/-! ### Motion records (R63) -/

/-- The buffer that a record goes into, if it is not to be dropped (R63). -/
def Steady.recordBuffer (s : Steady) : Option BufferId :=
  match s.filling with
  | some id => some id
  | none =>
    match s.bufA.state, s.bufB.state with
    | .free, .free => some (if s.lastUsed = some .a then .b else .a)
    | .free, _ => some .a
    | _, .free => some .b
    | _, _ => none

/-- A motion record is kept or dropped (R63). -/
def Media.keepRecord (m : Media) (r : MotionRecord) : Media :=
  if m.steady.profile.track && decide (m.writer.state = .recording) then
    match m.steady.recordBuffer with
    | some id =>
      let b : MotionBuffer := ⟨.filling, (m.steady.buffer id).records ++ [r]⟩
      let m := (m.setBuffer id b).modSteady fun s => { s with lastUsed := some id }
      if 32 ≤ b.records.length then m.handOver id else m
    | none =>
      (m.modSteady fun s => { s with dropTotal := bump 65535 s.dropTotal }).modWriter fun w => w.addMotionDrops 1
  else m

/-! ### The head frame (R50 to R55) -/

/-- The head frame is computed and leaves the list (R54, R55, R62, R63). -/
def Media.computeHead (m : Media) (env : Env) (o : Orientation) (f : Frame) (h : HeadFigures) : Media :=
  let r := m.steady.computeFrame f h o.history
  let m := m.modSteady fun s =>
    { s with
      path := r.path
      seeded := true
      lastComputed := some f.number
      frames := s.frames.tail
      headStage := .none
      head := none }
  (m.modExch fun e => e.writeRecord env.now (correctionRecord f.number r.flags r.centre r.bands)).keepRecord r

/-- Where a sheet stands in the exchange area. -/
def sheetOffset (n : Word32) : Nat :=
  0x600 + 32 * (n.toNat % 8)

/-- The engine goes on as far as it can: the oldest frame's sheet read begins, its times are fixed, or it is computed
(R50, R53, R55). -/
def Media.advanceHead (env : Env) (o : Orientation) : Nat → Media → Media
  | 0, m => m
  | n + 1, m =>
    match m.steady.frames, m.steady.headStage, m.steady.head with
    | f :: _, .none, _ =>
      if m.exch.running then
        (m.modSteady fun s => { s with headStage := .reading }).modExch fun e =>
          e.readArea env.now (.sheet true) (sheetOffset f.number) 32
      else Media.advanceHead env o n (m.modSteady fun s => s.settleSheet f.start s.heldSheet true false)
    | f :: _, .waiting, some h =>
      if h.ready o env.now then Media.advanceHead env o n (m.computeHead env o f h) else m
    | _, _, _ => m

/-- At most four frames wait, each going through two stages. -/
def Media.runHead (m : Media) (env : Env) (o : Orientation) : Media :=
  Media.advanceHead env o 16 m

/-- A sheet read has ended: completed (R51), or failed (R50). -/
def Media.sheetEnd (m : Media) (env : Env) (o : Orientation) (sheet : Option (List Byte)) : Media :=
  match m.steady.headStage, m.steady.frames with
  | .reading, f :: _ =>
    (m.modSteady fun s => match sheet with
      | some bs => s.takeSheet f bs
      | none => s.settleSheet f.start s.heldSheet true false).runHead env o
  | _, _ => m

/-- A history notice (R53). -/
def Media.historyNotice (m : Media) (env : Env) (o : Orientation) (stamp : Stamp) : Media :=
  match m.steady.headStage, m.steady.frames, m.steady.head with
  | .waiting, f :: _, some h =>
    if stampLater stamp h.last then (m.computeHead env o f h).runHead env o else m
  | _, _, _ => m

/-- The head frame's wait expires (R53). -/
def Media.headTimeout (m : Media) (env : Env) (o : Orientation) : Media :=
  match m.steady.headStage, m.steady.frames, m.steady.head with
  | .waiting, f :: _, some h =>
    if (h.wait o.period).due env.now then (m.computeHead env o f h).runHead env o else m
  | _, _, _ => m

/-- The entry of a skipped frame (R49). -/
def skippedRecord (f : Frame) (sheet : SheetValues) : Record :=
  correctionRecord f.number .skippedOnly (centreTime f.start sheet)
    (List.replicate sheet.bands ⟨0, 0, 0, false, false, false⟩)

/-- A rising edge of the frame-start line at the engine (R49). -/
def Media.frameStart (m : Media) (env : Env) (o : Orientation) : Media :=
  if m.steady.state = .active then
    let n := m.steady.frameCounter + 1
    let f : Frame := ⟨n, env.now⟩
    let m := m.modSteady fun s => { s with frameCounter := n }
    if m.steady.frames.length < 4 then
      let joined := m.modSteady fun s => { s with frames := s.frames ++ [f] }
      if m.steady.frames.isEmpty then joined.runHead env o else joined
    else
      (m.modSteady fun s => { s with skippedTotal := bump 65535 s.skippedTotal }).modExch fun e =>
        e.writeRecord env.now (skippedRecord f m.steady.heldSheet)
  else m

/-- A checked steady profile is taken; a FILLING buffer with records is handed over when the track goes OFF (R47). -/
def Media.loadSteady (m : Media) (p : SteadyProfile) : Media :=
  let m := m.modSteady fun s => { s with profile := p }
  if p.track then m else m.flush

end Sys2Proof.Machine
end

