-- ==== Sys2Proof/Machine/Whole.lean ====
section
/-! DEFINITION. What reaches more than one block: the rail and the power states (R179 to R185), the reports between blocks
(R107, R151, R152, R174), the end of intake (R18), a sample (R26), the exchange becoming FAULTED (R193), the resets. -/

namespace Sys2Proof.Machine

/-! ### Views and updates -/

def State.now (s : State) : Stamp :=
  s.clock.count

def State.env (s : State) : Env :=
  ⟨s.clock.count, s.gauge.warning⟩

def State.orientation (s : State) : Orientation :=
  ⟨s.integ.history, s.motion.nominalPeriod⟩

/-- The system rail is ON in RUN and SHUTTING (section 11.2). -/
def PowerState.rail : PowerState → Bool
  | .run => true
  | .shutting => true
  | .standby => false
  | .dormant => false
  | .waking => false

def State.railOn (s : State) : Bool :=
  s.power.state.rail

/-- The attention line (R192). -/
def State.attentionLine (s : State) : Bool :=
  s.railOn && s.media.exch.wantsAttention

def State.modMedia (s : State) (f : Media → Media) : State :=
  { s with media := f s.media }

def State.modExch (s : State) (f : Exchange → Exchange) : State :=
  s.modMedia fun m => m.modExch f

def State.modPower (s : State) (f : Power → Power) : State :=
  { s with power := f s.power }

def State.modGauge (s : State) (f : Gauge → Gauge) : State :=
  { s with gauge := f s.gauge }

def State.modCharge (s : State) (f : Charge → Charge) : State :=
  { s with charge := f s.charge }

def State.modMotion (s : State) (f : MotionPort → MotionPort) : State :=
  { s with motion := f s.motion }

def State.modIncident (s : State) (f : Incident → Incident) : State :=
  { s with incident := f s.incident }

/-- A request is answered through the Exchange Unit (R197). -/
def State.answer (s : State) (slot : Nat) (a : Answer) : State :=
  s.modMedia fun m => m.answer s.env slot a

def State.answerAll (s : State) (slots : List Nat) (a : Answer) : State :=
  s.modMedia fun m => m.answerAll s.env slots a

/-! ### Reserve (R126, R174, R185) -/

/-- RESERVE is issued when its test holds and it is not asserted yet (R174). -/
def State.reserveTest (s : State) : State :=
  if s.gauge.reserveTest s.options s.power.state && !s.gauge.reserve then
    (({ s with
      gauge := { s.gauge with reserve := true }
      power := { s.power with reserveHeld := true } } : State).modMedia fun m =>
        (m.modWriter fun w => { w with reserveHeld := true }).closeBegin s.env .reserve).raise .gauge
  else s

/-- The reserve is cleared (R174). -/
def State.reserveClear (s : State) : State :=
  if s.gauge.reserve then
    (({ s with
      gauge := { s.gauge with reserve := false }
      power := { s.power with reserveHeld := false } } : State).modMedia fun m =>
        m.modWriter fun w => { w with reserveHeld := false }).raise .gauge
  else s

/-! ### The end of intake (R18, R35, R48, R71) -/

/-- The Motion Port's report that intake has stopped. -/
def State.intakeReport (s : State) : State :=
  { s with integ := s.integ.stop, media := s.media.steadyStop, incident := s.incident.intakeStopped }

/-- Intake stops: the requests that waited for it are answered DONE in the order in which they came (R18, log 75). -/
def State.stopIntake (s : State) : State :=
  (({ s with motion := s.motion.stopped } : State).intakeReport).answerAll s.motion.stopSlots .done

/-! ### The rail (R31, R137, R146, R179, R191) -/

/-- The Motion Port when the rail goes off (R31). A burst or transfer in flight runs to its end with the select line low, which is high
from there on (log 69). -/
def State.railOffMotion (s : State) : State :=
  if s.motion.state = .running then
    if s.motion.activity = .burst then s.modMotion fun p => { p with stopWaiting := true } else s.stopIntake
  else s

/-- The card when its supply goes: a removal, unless the slot is empty already (R146). -/
def Media.railOffCard (m : Media) (env : Env) : Media :=
  let gone := if m.card.state = .absent then m else (m.cardNews m.card.remove).cardGone env
  gone.modCard fun c => { c with detect := false, debounce := none }

/-- The rail goes off: the link is down first, then the card is gone (log 11). -/
def State.railOff (s : State) : State :=
  (s.railOffMotion.modExch Exchange.shut).modMedia fun m => m.railOffCard s.env

def State.railUp (s : State) : State :=
  s.modMedia fun m => m.modCard fun c => c.railOn s.now

/-! ### Power states (R179 to R181) -/

/-- The POWER key at a change of power state (R181). -/
def powerKeyAt (before after : PowerState) (k : Key) : Key :=
  match after with
  | .dormant => k.interrupt
  | .shutting => k.interrupt
  | .run => k.interrupt
  | .standby => if before.rail then k.interrupt else k
  | .waking => k

/-- The MARK key at a change of power state (R77). -/
def markKeyAt (before after : PowerState) (k : Key) : Key :=
  if before.rail && after.rail then k else k.release

/-- The oscillator at a change of power state (R5, R6, R179). -/
def Clock.powerChange (c : Clock) (after : PowerState) : Clock :=
  let c := c.require after.path
  match after with
  | .waking => { c with mainOsc := true }
  | .dormant => { c with mainOsc := c.mainOsc && decide (c.path = .fast) }
  | .run => c
  | .shutting => c
  | .standby => c

/-- The Power State Controller's own part of a change (R179, R181, R184). -/
def Power.change (p : Power) (after : PowerState) (fastSettle : Bool) : Power :=
  { p with
    state := after
    settleCount := if after = .waking then 0 else p.settleCount
    settleFast := if after = .waking then fastSettle else p.settleFast
    key := powerKeyAt p.state after p.key
    cause := if after = .shutting then p.cause else .none
    closeTarget := if after = .shutting then p.closeTarget else none }

/-- A change of power state with its reports (R179). -/
def State.setPower (s : State) (after : PowerState) : State :=
  let before := s.power.state
  let s := { s with
    power := s.power.change after s.options.fastSettle
    clock := s.clock.powerChange after
    gauge := s.gauge.cadence before after s.now
    incident := { s.incident with key := markKeyAt before after s.incident.key } }
  let s := if before.rail && !after.rail then s.railOff else if !before.rail && after.rail then s.railUp else s
  s.reserveTest

/-- The power-down condition (R180). -/
def State.idleOutside (s : State) : Bool :=
  decide (s.charge.usb.state = .absent ∧ s.charge.aux.state = .absent ∧ s.power.key.state = .up)

/-- The power-down condition is tested (R180). -/
def State.powerDownTest (s : State) : State :=
  match s.power.state with
  | .waking | .standby => if s.idleOutside then s.setPower .dormant else s
  | .run | .shutting | .dormant => s

/-- The rail is cut: DORMANT when the power-down condition holds, STANDBY otherwise (R184, R185). -/
def State.cutRail (s : State) : State :=
  s.setPower (if s.idleOutside then .dormant else .standby)

/-- A turn-on (R183). -/
def State.turnOn (s : State) : State :=
  if s.gauge.warning then s else s.setPower .run

/-- The close limit of R184, in µs. -/
def closeLimit (reserveHeld : Bool) (cause : ShutdownCause) : Nat :=
  if reserveHeld then 1000000
  else
    match cause with
    | .request => 5000000
    | .key => 2000000
    | .cutoff => 1000000
    | .none => 1000000
    | .supply => 1000000

/-- The Power State Controller asks the Clip Writer to close (R127). -/
def Media.shutdownClose (m : Media) (env : Env) : Media :=
  (m.closeBegin env .shutdown).modWriter fun w =>
    { w with idleReport := w.idleReport || decide (w.state = .idle ∨ w.state = .unmounted) }

/-- SHUTTING is entered (R184). -/
def State.enterShutting (s : State) (cause : ShutdownCause) : State :=
  let target := stampAdd s.now (closeLimit s.power.reserveHeld cause)
  let s := s.modPower fun p =>
    { p with cause := cause, closeTarget := some target, record := { p.record with lastShutdown := cause } }
  (s.setPower .shutting).modMedia fun m => m.shutdownClose s.env

/-! ### What follows within a step (log 31) -/

/-- The four blocks settle, and the Charge Controller hears of the writer's recording (R107, R161). -/
def State.settleMedia (s : State) : State :=
  let s := s.modMedia fun m => m.settle s.env
  s.modCharge fun c => c.hear s.options s.media.writer.recordingReport s.media.writer.recordingOrClosing

/-- The writer's reports have been taken. -/
def State.clearReport (s : State) : State :=
  s.modMedia fun m => m.modWriter fun w => { w with idleReport := false, recordingReport := false }

/-- The writer's report ends a SHUTTING (R184). -/
def State.takeReport (s : State) : State :=
  if s.media.writer.idleReport ∧ s.power.state = .shutting then s.cutRail.settleMedia else s

/-- Everything that follows within a step. -/
def State.settle (s : State) : State :=
  s.settleMedia.takeReport.clearReport

/-! ### Inputs and sources (R150 to R152, R174, R175, R180, R183) -/

/-- The gauge and the Power State Controller hear of a change of source (R152, R174, R175, R185). -/
def State.sourceReport (s : State) : State :=
  let selected := decide (s.charge.source ≠ .none)
  let s := s.modGauge fun g => { g with sourceSelected := selected, cutoffRun := if selected then 0 else g.cutoffRun }
  let s := if selected then s.reserveClear.modPower fun p => { p with cutoffLock := false } else s
  s.reserveTest

/-- The Charge Controller has a new state of its inputs: selection, reports and the power-down test follow. -/
def State.inputChange (s : State) (c : Charge) : State :=
  let before := s.charge
  let s := { s with charge := c.select s.options }
  let s := if before.news s.charge then s.raise .charge else s
  let s := if before.source = s.charge.source then s else s.sourceReport
  s.powerDownTest

/-- An input's loss debounce has expired (R151). -/
def State.loseInput (s : State) (i : Input) : State :=
  s.inputChange (s.charge.setInput i (s.charge.input i).toAbsent)

def State.loseIfDue (s : State) (i : Input) : State :=
  if s.charge.lossDue i s.now then s.loseInput i else s

/-- The Incident Monitor reports its window (R29, R151, R72, R74). When it closes with both inputs' debounces past their target, USB is
lost first (log 63). -/
def State.windowReport (s : State) (isOpen : Bool) : State :=
  let s := (s.modMotion fun p => p.window isOpen).modCharge fun c => { c with windowOpen := isOpen }
  if isOpen then s else (s.loseIfDue .usb).loseIfDue .aux

/-! ### A sample record (R26, R40, R53, R71) -/

/-- The integrator takes the record and gives its notice (R36 to R40, R53). -/
def State.integrateSample (s : State) (q : MotionProfile) (r : Sample) : State :=
  let s := { s with integ := s.integ.take q s.motion.nominalPeriod r }
  s.modMedia fun m => m.historyNotice s.env s.orientation r.stamp

/-- The Incident Monitor takes the record (R71 to R73). -/
def State.incidentSample (s : State) (r : Sample) : State :=
  let i := s.incident.sample (accelSum r.accel) r.stamp
  let s := { s with incident := i.1 }
  if i.2 then s.windowReport true else s

/-- An accepted record is handed on (R26); `incidentFirst` says whether the window's opening comes before the record's own
still test (R29, log 6). -/
def State.handOn (s : State) (q : MotionProfile) (r : Sample) (incidentFirst : Bool) : State :=
  let s := (s.modMotion fun p => p.handOn r).integrateSample q r
  if incidentFirst then (s.incidentSample r).modMotion fun p => p.stillTest q r
  else (s.modMotion fun p => p.stillTest q r).incidentSample r

/-- A burst that is not discarded has ended (R24, R25). -/
def State.burstSample (s : State) (inBytes : List Byte) (incidentFirst : Bool) : State :=
  match s.motion.profile with
  | none => s
  | some q =>
    let r := s.motion.sample q.axisMap inBytes
    if s.motion.accepts r then s.handOn q r incidentFirst else s.modMotion MotionPort.stampFault

/-! ### The exchange becoming FAULTED (R50, R130, R193) -/

/-- A sheet read is in flight for a frame that still waits. -/
def Exchange.sheetPending (e : Exchange) : Bool :=
  e.transfers.any fun t => decide (t.purpose = .sheet true)

/-- The exchange becomes FAULTED, and the owners of the transfers in flight take their failure (R193). -/
def State.exchangeFault (s : State) : State :=
  let sheet := s.media.exch.sheetPending
  let s := s.modMedia fun m => (m.modExch Exchange.fault).writerFault s.env
  if sheet then s.modMedia fun m => m.sheetEnd s.env s.orientation none else s

/-! ### Energy events (R176, R185) -/

/-- CUTOFF reaches the Power State Controller (R185). -/
def State.cutoff (s : State) : State :=
  let s := s.modPower fun p => { p with cutoffLock := true }
  match s.power.state with
  | .run => s.enterShutting .cutoff
  | .shutting =>
    s.modPower fun p => { p with closeTarget := p.closeTarget.map fun t => stampMin t (stampAdd s.now 1000000) }
  | .standby | .waking | .dormant => s

/-- The supply warning reaches the Power State Controller (R185). -/
def State.supplyCut (s : State) : State :=
  match s.power.state with
  | .run => (s.modPower fun p => { p with record := { p.record with lastShutdown := .supply } }).cutRail
  | .shutting => s.cutRail
  | .standby | .waking | .dormant => s

/-- The supply warning is asserted: the Clip Writer, the Card Port and the Power State Controller take it, in that order
(R129, R147, R176, R185, log 6). GAUGE is raised before the rail is cut, which clears it (log 58). -/
def State.warn (s : State) : State :=
  let s := (s.modGauge fun g => { g with warning := true }).raise .gauge
  let s := s.modMedia fun m => m.halt s.env
  let s := s.modMedia fun m => m.setCard (m.card.supplyWarning s.now)
  s.supplyCut

/-! ### Slow ticks (R3, R5, R6, R12, R179) -/

/-- The main oscillator's settle is being counted: in WAKING, or after a reset that left the part awake. -/
def State.settling (s : State) : Bool :=
  match s.power.state with
  | .waking => true
  | .run | .shutting | .standby => decide (s.clock.handover = .toFast)
  | .dormant => false

def Power.settleLimit (p : Power) : Nat :=
  if p.settleFast then 32 else 4096

/-- The next slow tick completes the settle. -/
def State.completes (s : State) : Bool :=
  s.settling && decide (s.power.settleLimit ≤ s.power.settleCount + 1)

/-- A slow tick (R3, R5, R6, R179). -/
def State.slowTick (s : State) : State :=
  let done := s.completes
  let ticked := ({ s with clock := s.clock.tick done } : State).modPower fun p =>
    { p with settleCount := if s.settling then p.settleCount + 1 else p.settleCount }
  if done ∧ s.power.state = .waking then ticked.setPower .standby else ticked

/-! ### Resets (R12, R33, R46, R69, R83, R106, R131, R132, R149, R167, R178, R188, R191) -/

/-- The reset record after a COLD or SUPPLY reset (R188). -/
def ResetRecord.after (r : ResetRecord) (kind : ResetKind) : ResetRecord :=
  match kind with
  | .cold => ⟨.cold, 0, 0, .none⟩
  | .supply => ⟨.supply, r.warmCount, bump 255 r.supplyCount, .supply⟩
  | .warm => ⟨.warm, bump 255 r.warmCount, r.supplyCount, r.lastShutdown⟩

/-- An input at the release of a reset (R167). -/
def InputUnit.released (inWindow : Bool) : InputUnit :=
  if inWindow then InputUnit.reset.enter 0 else .reset

/-- The Power State Controller after a COLD or SUPPLY reset (R186 to R188, log 18). -/
def Power.released (p : Power) (kind : ResetKind) (awake : Bool) : Power :=
  let torn := p.blockTorn || p.storing.isSome
  let found := readStore p.block torn
  { Power.reset with
    state := if awake then .standby else .dormant
    settleFast := found.2.fastSettle
    blockStatus := found.1
    origin := if found.1 = .valid then .stored else .defaults
    record := p.record.after kind
    block := p.block
    blockTorn := torn }

/-- The clock after a COLD or SUPPLY reset (R12). -/
def Clock.released (awake : Bool) : Clock :=
  { Clock.reset with handover := if awake then .toFast else .none, mainOsc := awake }

/-- A COLD or SUPPLY reset, with the comparators' levels at its release. The detect line, a pin, keeps its level. -/
def State.hardReset (s : State) (kind : ResetKind) (usb aux low : Bool) : State :=
  let awake := usb || aux
  let power := s.power.released kind awake
  let r : State :=
    { State.reset with
      clock := .released awake
      power := power
      options := (readStore power.block power.blockTorn).2
      charge := { Charge.reset with usb := .released usb, aux := .released aux }
      gauge := { Gauge.reset with slowCadence := !awake, reserveLevel := (readStore power.block power.blockTorn).2.reserve }
      media := { Media.reset with card := { Card.reset with detectLine := s.media.card.detectLine } }
      pending := s.pending }
  let r := if awake then r.raise .charge else r
  if low then r.warn else r

/-- The exchange after a WARM reset: no request is being worked (R191, R193, R199). -/
def Exchange.warm (e : Exchange) : Exchange :=
  { e.shut with working := List.replicate 8 none, handed := [], torn := 0, reportEdition := 0 }

/-- A card in FAULT is identified once more after a WARM reset (R138, R149). -/
def Card.warm (c : Card) (now : Stamp) : Card :=
  if c.state = .fault then c.identify now true else c

/-- The Incident Monitor at a WARM reset, with its reports (R76, R83). -/
def State.warmIncident (s : State) : State :=
  let wasOpen := decide (s.incident.window = .incident)
  let dropped := !s.incident.requests.isEmpty
  let s := s.modIncident Incident.warm
  let s := if dropped then s.raise .incident else s
  if wasOpen then s.windowReport false else s

/-- A WARM reset (R188); ignored while the rail is OFF (R179). ATTN becomes 0 before a dropped protection request raises INCIDENT
(log 50) and before an input lost as the window closes raises CHARGE (log 71), so that the flags stand. -/
def State.warmReset (s : State) : State :=
  let s := s.modExch Exchange.warm
  let s := s.warmIncident
  let s := if s.motion.state = .running then s.intakeReport else s
  let s := { s with motion := s.motion.warm, integ := .reset }
  let s := s.modMedia fun m => (m.steadyStop.warmWriter s.env).modCard fun c => c.warm s.now
  s.modPower fun p =>
    { p with
      record := p.record.after .warm
      storing := p.storing.map fun st => { st with slot := none } }

end Sys2Proof.Machine
end

