-- ==== Sys2Proof/Machine/CardCommands.lean ====
section
/-! DEFINITION. The Card Port's commands (R136 to R146): the detect line, what the card sends, the waits on it. -/

namespace Sys2Proof.Machine

/-- The Card Port acts, and raises CARD where R138 says so. -/
def State.cardActs (s : State) (f : Card → Card) : State :=
  s.modMedia fun m => m.cardNews (f m.card)

/-! ### The detect line (R137) -/

/-- An edge of the detect line: the pin takes the level, and a debounce begins or is abandoned while the rail is on. -/
def Card.lineEdge (c : Card) (railOn : Bool) (now : Stamp) (present : Bool) : Card :=
  let c := { c with detectLine := present }
  if railOn then c.detectEdge now present else c

def execDetectEdge (present : Bool) (s : State) : Host.Outcome State Fault Refusal :=
  .next (s.modMedia fun m => m.modCard fun c => c.lineEdge s.railOn s.now present)

/-- The length of a detect debounce, 50 ms, in µs (R137). -/
def detectMicros : Nat :=
  50000

/-- The level that a detect debounce has accepted, if its 50 ms are over. -/
def Card.accepted (c : Card) (now : Stamp) : Option Bool :=
  c.debounce.bind fun d => if reached now d.2 detectMicros then some d.1 else none

/-- A card has been inserted (R137, R138). -/
def Card.insert (c : Card) (now : Stamp) : Card :=
  let c := { c with detect := true, debounce := none }
  if c.state = .absent then c.identify now false else c

/-- A card has been taken out: a removal, unless the state is ABSENT already (R146). -/
def Media.takeOut (m : Media) (env : Env) : Media :=
  let m := m.modCard fun c => { c with detect := false, debounce := none }
  if m.card.state = .absent then m else (m.cardNews m.card.remove).cardGone env

/-- A detect debounce completes (R137). -/
def State.detectDebounce (s : State) : State :=
  match s.media.card.accepted s.now with
  | none => s
  | some true => s.cardActs fun c => c.insert s.now
  | some false => s.modMedia fun m => m.takeOut s.env

def execDetectDebounceExpiry (s : State) : Host.Outcome State Fault Refusal :=
  .next s.detectDebounce.settle

/-! ### Identification and runs (R136, R139, R142, R143) -/

/-- The 1,000 ms of an identification expire (R139). -/
def Card.identExpiry (c : Card) (now : Stamp) : Card :=
  if c.ident.isSome ∧ waitDue c.identWait now = true then c.identFail now true else c

def execIdentificationTimeout (s : State) : Host.Outcome State Fault Refusal :=
  .next (s.cardActs fun c => c.identExpiry s.now).settle

def execCardCommandResponse (response status : Byte) (s : State) : Host.Outcome State Fault Refusal :=
  .next (s.cardActs fun c => c.response s.now response status).settle

def execCardResponseMissing (s : State) : Host.Outcome State Fault Refusal :=
  .next (s.cardActs fun c => c.noResponse s.now).settle

def execReadBlockReceived (mark : Byte) (data : List Byte) (check : BitVec 16) (s : State) :
    Host.Outcome State Fault Refusal :=
  .next (s.cardActs fun c => c.blockReceived s.now mark data check).settle

def execReadSectorTimeout (s : State) : Host.Outcome State Fault Refusal :=
  .next (s.cardActs fun c => c.sectorExpiry s.now).settle

def execWriteBlockAnswer (answer : Byte) (s : State) : Host.Outcome State Fault Refusal :=
  .next (s.cardActs fun c => c.blockAnswer s.now answer).settle

def execCardBusyEnd (s : State) : Host.Outcome State Fault Refusal :=
  .next (s.cardActs fun c => c.busyEnd s.now).settle

def execCardBusyTimeout (s : State) : Host.Outcome State Fault Refusal :=
  .next (s.cardActs fun c => c.busyExpiry s.now).settle

end Sys2Proof.Machine
end

