-- ==== Sys2Proof/Machine/Requests.lean ====
section
/-! DEFINITION. How an owner takes its requests (R197, log 5): the oldest request handed to an owner is the one it takes. -/

namespace Sys2Proof.Machine

/-- The oldest request handed to an owner and not yet taken. -/
def Exchange.nextRequest (e : Exchange) (o : Owner) : Option Handed :=
  e.handed.find? fun h => decide (h.request.owner = o)

/-- The owner has taken its oldest request. -/
def Exchange.requestTakenBy (e : Exchange) (o : Owner) : Exchange :=
  { e with handed := e.handed.eraseP fun h => decide (h.request.owner = o) }

/-- The owner's oldest request, when it is of the kind wanted, acts on the state it leaves behind; any other leaves the state
as it is (log 3). -/
def State.onRequest {α : Type} (s : State) (o : Owner) (want : Request → Option α) (act : State → Handed → α → State) :
    State :=
  match s.media.exch.nextRequest o with
  | none => s
  | some h =>
    match want h.request with
    | none => s
    | some a => act (s.modExch fun e => e.requestTakenBy o) h a

end Sys2Proof.Machine
end

