-- ==== Sys2Proof/Machine/ChargeCommands.lean ====
section
/-! DEFINITION. The charging and gauge commands (R150, R151, R160, R163, R165, R169 to R176). -/

namespace Sys2Proof.Machine

/-! ### The inputs' windows (R150, R151, R180, R183) -/

/-- An input's entry into its window is reported to the Power State Controller, which leaves DORMANT (R150, R180). -/
def State.wakeFor (s : State) : State :=
  if s.power.state = .dormant then s.setPower .waking else s

/-- An input enters its window (R150). A QUALIFYING input is inside already. -/
def State.inputEnters (s : State) (i : Input) : State :=
  match (s.charge.input i).state with
  | .qualifying => s
  | .absent | .present => (s.inputChange (s.charge.setInput i ((s.charge.input i).enter s.now))).wakeFor

def execInputEntersWindow (i : Input) (s : State) : Host.Outcome State Fault Refusal :=
  .next (s.inputEnters i).settle

/-- An input leaves its window (R150, R151). -/
def State.inputLeaves (s : State) (i : Input) : State :=
  s.inputChange (s.charge.setInput i ((s.charge.input i).leave s.now))

def execInputLeavesWindow (i : Input) (s : State) : Host.Outcome State Fault Refusal :=
  .next (s.inputLeaves i).settle

/-- An input's arrival at PRESENT turns the camera on from STANDBY when auto-on is set (R183). -/
def State.autoOn (s : State) : State :=
  if s.options.autoOn ∧ s.power.state = .standby then s.turnOn else s

/-- A qualify wait expires; the selection is made before the turn-on (R150, R183, log 31). -/
def State.qualified (s : State) (i : Input) : State :=
  if (s.charge.input i).qualifyDue s.now then
    (s.inputChange (s.charge.setInput i (s.charge.input i).toPresent)).autoOn
  else s

def execQualifyWaitExpiry (i : Input) (s : State) : Host.Outcome State Fault Refusal :=
  .next (s.qualified i).settle

/-- A loss debounce expires (R151). -/
def execLossDebounceExpiry (i : Input) (s : State) : Host.Outcome State Fault Refusal :=
  .next (s.loseIfDue i).settle

/-! ### GAUGE_MEASUREMENT (R163, R169 to R175, R180) -/

/-- The measurement raises GAUGE: it estimates, or it anchors at empty (R172, R173). -/
def Gauge.news (g : Gauge) (o : ChargeOptions) (r : Readings) : Bool :=
  g.estimates r || emptyTest o r

/-- The report of FULL, if there is one (R172). -/
def Gauge.fullIf (g : Gauge) (o : ChargeOptions) (full : Bool) : Gauge :=
  if full then g.full o else g

/-- The gauge's account of a measurement and the report of FULL, in the order given, with whether GAUGE is raised (R172). -/
def Gauge.work (g : Gauge) (o : ChargeOptions) (r : Readings) (stamp : Stamp) (full gaugeFirst : Bool) : Gauge × Bool :=
  if gaugeFirst then ((g.account o r stamp).fullIf o full, full || g.news o r)
  else ((g.fullIf o full).account o r stamp, full || (g.fullIf o full).news o r)

/-- A reading of the battery current beyond either end is clamped (R169). -/
def clampReadings (r : Readings) : Readings :=
  { r with current := batteryCurrent r }

def State.raiseIf (s : State) (news : Bool) (f : AttnFlag) : State :=
  if news then s.raise f else s

/-- The two blocks take the measurement (R163, R169 to R173). -/
def State.measured (s : State) (r : Readings) (gaugeFirst : Bool) : State :=
  let c := s.charge.measure s.options r s.now
  let full := decide (c.state = .full ∧ s.charge.state ≠ .full)
  let g : Gauge := { s.gauge.takeReserve s.options with next := some (s.gauge.nextTarget s.now), last := some ⟨r, s.now⟩ }
  let worked := g.work s.options r s.now full gaugeFirst
  (({ s with charge := c, gauge := worked.1 } : State).raiseIf (s.charge.news c) .charge).raiseIf worked.2 .gauge

/-- The reserve at a measurement (R174). -/
def State.reserveStep (s : State) : State :=
  (if s.gauge.reserveClears s.options then s.reserveClear else s).reserveTest

/-- The cut-off run at a measurement, and CUTOFF (R175, R185). -/
def State.cutoffStep (s : State) (r : Readings) : State :=
  let sent := s.gauge.cutoffSent s.options r
  let s := s.modGauge fun g => g.cutoffStep s.options r
  if sent then (s.raise .gauge).cutoff else s

/-- A measurement that finds the battery empty and no source sends STANDBY to DORMANT (R180). -/
def State.emptyStep (s : State) : State :=
  if s.power.state = .standby ∧ s.charge.source = .none ∧ s.gauge.state ≠ .unset ∧ s.gauge.stateOfCharge s.options = 0 then
    s.setPower .dormant
  else s

/-- GAUGE_MEASUREMENT at a due cadence; RESERVE is tested before the cut-off (R174, R175, log 57). -/
def State.measurement (s : State) (r : Readings) (gaugeFirst : Bool) : State :=
  if s.gauge.due s.now then
    (((s.measured (clampReadings r) gaugeFirst).reserveStep).cutoffStep (clampReadings r)).emptyStep
  else s

def execGaugeMeasurement (r : Readings) (gaugeFirst : Bool) (s : State) : Host.Outcome State Fault Refusal :=
  .next (s.measurement r gaugeFirst).settle

/-! ### SET_INPUT_LIMIT (R165) -/

def Request.asInputLimit : Request → Option Nat
  | .setInputLimit milliamps => some milliamps
  | _ => none

def State.takeInputLimit (s : State) (h : Handed) (milliamps : Nat) : State :=
  (s.modCharge fun c => { c with usbLimit := inputLimitValue milliamps }).answer h.slot
    (.doneClamped (inputLimitValue milliamps != milliamps))

def execSetInputLimit (s : State) : Host.Outcome State Fault Refusal :=
  .next (s.onRequest .charge Request.asInputLimit State.takeInputLimit)

/-! ### CLEAR_CHARGE_FAULT (R160) -/

def Request.asClearFault : Request → Option Unit
  | .clearChargeFault => some ()
  | _ => none

def State.takeClearFault (s : State) (h : Handed) (_ : Unit) : State :=
  let c := s.charge.clearFault s.options
  (({ s with charge := c } : State).raiseIf (s.charge.news c) .charge).answer h.slot .done

def execClearChargeFault (s : State) : Host.Outcome State Fault Refusal :=
  .next (s.onRequest .charge Request.asClearFault State.takeClearFault)

/-! ### The supply warning (R176) -/

def State.warningOn (s : State) : State :=
  if s.gauge.warning then s else s.warn

def execSupplyWarningAssert (s : State) : Host.Outcome State Fault Refusal :=
  .next s.warningOn.settle

def State.warningOff (s : State) : State :=
  if s.gauge.warning then (s.modGauge fun g => { g with warning := false }).raise .gauge else s

def execSupplyWarningRemove (s : State) : Host.Outcome State Fault Refusal :=
  .next s.warningOff.settle

end Sys2Proof.Machine
end

