-- ==== Sys2Proof/Machine/ClipCommands.lean ====
section
/-! DEFINITION. The recording commands (R117, R121, R123, R125). -/

namespace Sys2Proof.Machine

/-! ### START_CLIP (R121) -/

def Request.asStartClip : Request → Option Nat
  | .startClip first => some first
  | _ => none

def State.takeStartClip (s : State) (h : Handed) (first : Nat) : State :=
  s.modMedia fun m => m.startClip s.env h.slot first h.stamp

def execStartClip (s : State) : Host.Outcome State Fault Refusal :=
  .next (s.onRequest .writer Request.asStartClip State.takeStartClip).settle

/-! ### STOP_CLIP (R123) -/

def Request.asStopClip : Request → Option (Option Nat)
  | .stopClip last => some last
  | _ => none

def State.takeStopClip (s : State) (h : Handed) (last : Option Nat) : State :=
  s.modMedia fun m => m.stopClip s.env h.slot last

def execStopClip (s : State) : Host.Outcome State Fault Refusal :=
  .next (s.onRequest .writer Request.asStopClip State.takeStopClip).settle

/-! ### Payloads and starvation (R117, R125) -/

/-- A payload fetch completes (R117). -/
def State.payloadFetched (s : State) (transfer : Nat) (bytes : List Byte) : State :=
  match (s.media.exch.transferAt transfer).map Transfer.purpose with
  | some (.payload live) =>
    let s := s.modExch fun e => e.dropTransfer transfer
    if live then s.modMedia fun m => m.payloadRead s.env bytes else s
  | _ => s

def execPayloadFetchComplete (transfer : Nat) (bytes : List Byte) (s : State) : Host.Outcome State Fault Refusal :=
  .next (s.payloadFetched transfer bytes).settle

/-- The clip's starvation wait expires in RECORDING (R125). -/
def State.starvation (s : State) : State :=
  if s.media.writer.state = .recording ∧ waitDue s.media.writer.starvation s.now = true then
    s.modMedia fun m => m.closeBegin s.env .starved
  else s

def execStarvationExpiry (s : State) : Host.Outcome State Fault Refusal :=
  .next s.starvation.settle

end Sys2Proof.Machine
end

