-- ==== Sys2Proof/Machine/ClockCommands.lean ====
section
/-! DEFINITION. The clock and reset commands (R2, R3, R5, R6, R179, R188). Every command answers a next state. -/

namespace Sys2Proof.Machine

/-- FAST_PULSE (R2). -/
def execFastPulse (s : State) : Host.Outcome State Fault Refusal :=
  .next { s with clock := s.clock.pulse }

/-- SLOW_TICK (R3, R5, R6). -/
def execSlowTick (s : State) : Host.Outcome State Fault Refusal :=
  .next s.slowTick

/-- SETTLE_COMPLETE (R12, R179): the slow tick that completes the settle. -/
def execSettleComplete (s : State) : Host.Outcome State Fault Refusal :=
  .next (if s.completes then s.slowTick else s)

/-- COLD_RESET (R188). -/
def execColdReset (usb aux low : Bool) (s : State) : Host.Outcome State Fault Refusal :=
  .next (s.hardReset .cold usb aux low)

/-- SUPPLY_RESET (R188). -/
def execSupplyReset (usb aux low : Bool) (s : State) : Host.Outcome State Fault Refusal :=
  .next (s.hardReset .supply usb aux low)

/-- WARM_RESET (R179, R188): ignored while the rail is OFF. -/
def execWarmReset (s : State) : Host.Outcome State Fault Refusal :=
  .next (if s.railOn then s.warmReset.settle else s)

end Sys2Proof.Machine
end

