-- ==== Sys2Proof/Machine/ExchangeCommands.lean ====
section
/-! DEFINITION. The exchange's own commands (R190 to R199): the registers, pickups, records, and transfers that fail. The link is
up only while the system rail is ON (section 12.1), so a host write with the rail OFF reaches no register. -/

namespace Sys2Proof.Machine

/-- A register write by the host (section 12.1). -/
def State.hostWrite (s : State) (f : State → State) : State :=
  if s.railOn then f s else s

/-! ### CONTROL, ATTN and BASE (R191 to R193) -/

/-- The mirror's full write as the exchange enters RUNNING (R193). -/
def Media.mirrorMounted (m : Media) (env : Env) : Media :=
  if m.writer.mounted then m.mirrorAll env else m

/-- RUN written 1: the start, or FAULTED when BASE is 0 (R193). -/
def State.runStart (s : State) : State :=
  match s.media.exch.state with
  | .stopped =>
    if s.media.exch.base = 0 then (s.modExch fun e => { e with run := true }).exchangeFault
    else s.modMedia fun m => (m.modExch fun e => e.start s.now).mirrorMounted s.env
  | .running | .faulted => s

def execRunStart (s : State) : Host.Outcome State Fault Refusal :=
  .next (s.hostWrite State.runStart).settle

/-- RUN_STOP (R193). -/
def execRunStop (s : State) : Host.Outcome State Fault Refusal :=
  .next (s.hostWrite fun s => s.modExch Exchange.stop)

/-- PICKUP_PERIOD_SET (R191). -/
def execPickupPeriodSet (code : BitVec 5) (s : State) : Host.Outcome State Fault Refusal :=
  .next (s.hostWrite fun s => s.modExch fun e => { e with period := takenPeriod code })

/-- ATTENTION_ENABLE_SET (R191, R192). -/
def execAttentionEnableSet (enables : BitVec 11) (s : State) : Host.Outcome State Fault Refusal :=
  .next (s.hostWrite fun s => s.modExch fun e => { e with enables := enables })

/-- ATTN_CLEAR (R192). -/
def execAttnClear (bits : Word32) (s : State) : Host.Outcome State Fault Refusal :=
  .next (s.hostWrite fun s => s.modExch fun e => e.clearFlags bits)

/-- BASE_WRITE (R191). -/
def execBaseWrite (register : BaseRegister) (value : Word32) (s : State) : Host.Outcome State Fault Refusal :=
  .next (s.hostWrite fun s => s.modExch fun e => e.writeBase register value)

/-- REGISTER_WRITE_OTHER (R190): the write is ignored. -/
def execRegisterWriteOther (_offset _width : Nat) (_value : Word32) (s : State) : Host.Outcome State Fault Refusal :=
  .next s

/-! ### Pickups (R194, R195, R199) -/

/-- The period wait expires, and a pickup becomes due: the expiry still owed, which a frame start at its count was taken before, or
that of the wait now set (R194, log 65). -/
def Exchange.periodExpiry (e : Exchange) (now : Stamp) : Exchange :=
  if e.running then
    if e.periodOwed then ({ e with periodOwed := false } : Exchange).pickupDue now
    else if waitDue e.periodWait now then ({ e with periodWait := none } : Exchange).pickupDue now
    else e
  else e

def execPickupPeriodExpiry (s : State) : Host.Outcome State Fault Refusal :=
  .next (s.modExch fun e => e.periodExpiry s.now)

/-- A torn record is counted (R195). -/
def Exchange.countTorn (e : Exchange) : Exchange :=
  { e with torn := bump 65535 e.torn }

/-- The last-taken edition of a request slot. -/
def Exchange.takenRequest (e : Exchange) (slot : Nat) : Edition :=
  e.requestTaken.getD slot 0

def Exchange.takenChunk (e : Exchange) (slot : Nat) : Edition :=
  e.chunkTaken.getD slot 0

def Exchange.markRequest (e : Exchange) (slot : Nat) (edition : Edition) : Exchange :=
  { e with requestTaken := e.requestTaken.set slot edition }

def Exchange.markChunk (e : Exchange) (slot : Nat) (edition : Edition) : Exchange :=
  { e with chunkTaken := e.chunkTaken.set slot edition }

/-- A new request is taken and handed to its owner, or answered at once for a choice that names neither value (R195, R197). -/
def State.acceptRequest (s : State) (stamp : Stamp) (slot : Nat) (bs : List Byte) : State :=
  let s := s.modExch fun e =>
    { e.markRequest slot (editionAt bs 0) with
      working := e.working.set slot (some ⟨editionAt bs 0, (byteAt bs 2).toNat⟩) }
  match parseRequest bs with
  | .badChoice => s.answer slot .refusedParam
  | .request r => s.modExch fun e => { e with handed := e.handed ++ [⟨slot, r, stamp⟩] }

/-- One request slot of the board (R195 item 1). -/
def State.offerRequest (stamp : Stamp) (bytes : List Byte) (s : State) (slot : Nat) : State :=
  let bs := slice bytes (64 * slot) 64
  let e := s.media.exch
  if torn bs 62 then s.modExch Exchange.countTorn
  else if slotNew bs 62 (e.takenRequest slot) then
    match e.workingAt slot with
    | none => s.acceptRequest stamp slot bs
    | some w => if w.edition = editionAt bs 0 then s.modExch fun e => e.markRequest slot w.edition else s
  else s

/-- One chunk slot of the board (R195 item 2, R108). -/
def State.offerChunk (stamp : Stamp) (bytes : List Byte) (s : State) (slot : Nat) : State :=
  let bs := slice bytes (32 * slot) 32
  if torn bs 30 then s.modExch Exchange.countTorn
  else if slotNew bs 30 (s.media.exch.takenChunk slot) then
    match s.media.heldEdition slot with
    | none =>
      (s.modExch fun e => e.markChunk slot (editionAt bs 0)).modMedia fun m => m.takeChunk s.env stamp slot (parseChunk bs)
    | some held => if held = editionAt bs 0 then s.modExch fun e => e.markChunk slot held else s
  else s

/-- The Clip Writer is told that the pickup is complete (R111, R195). -/
def State.noticePickup (s : State) (stamp : Stamp) : State :=
  s.modMedia fun m => m.pickupComplete s.env stamp

def State.endPickup (s : State) : State :=
  s.modExch fun e => e.endPickup s.now

/-- The pickup goes on to a stage. -/
def Exchange.stage (e : Exchange) (p : Pickup) (stage : PickupStage) : Exchange :=
  { e with pickup := some { p with stage := stage } }

/-- The chunk board is read (R195 item 2), or a pickup that was stopped ends with its notice (R193). -/
def State.afterRequests (s : State) (p : Pickup) : State :=
  if p.ending then (s.noticePickup p.stamp).endPickup
  else s.modExch fun e => (e.stage p .chunks).readArea s.now .chunkBoard 0xF00 768

/-- The request board's read completes (R195 item 1, log 9). -/
def State.requestsRead (s : State) (transfer : Nat) (bytes : List Byte) : State :=
  match (s.media.exch.transferAt transfer).map Transfer.purpose, s.media.exch.pickup with
  | some .requestBoard, some p =>
    ((List.range 8).foldl (State.offerRequest p.stamp bytes) (s.modExch fun e => e.dropTransfer transfer)).afterRequests p
  | _, _ => s

def execRequestBoardReadComplete (transfer : Nat) (bytes : List Byte) (s : State) : Host.Outcome State Fault Refusal :=
  .next (s.requestsRead transfer bytes).settle

/-- The report page is written, with its items as they stand when the head edition is issued (R196, R199, log 67). -/
def State.writeReport (s : State) (p : Pickup) : State :=
  s.modExch fun e =>
    { (e.stage p .report).issuePart s.now (s.reportRecord p.stamp) .head with reportEdition := s.pageEdition }

/-- The report page follows the boards (R195 item 3), but not in a pickup that was stopped (R193). -/
def State.afterChunks (s : State) (p : Pickup) : State :=
  let s := s.noticePickup p.stamp
  if p.ending then s.endPickup else s.writeReport p

/-- The chunk board's read completes (R195 item 2). -/
def State.chunksRead (s : State) (transfer : Nat) (bytes : List Byte) : State :=
  match (s.media.exch.transferAt transfer).map Transfer.purpose, s.media.exch.pickup with
  | some .chunkBoard, some p =>
    ((List.range 24).foldl (State.offerChunk p.stamp bytes) (s.modExch fun e => e.dropTransfer transfer)).afterChunks p
  | _, _ => s

def execChunkBoardReadComplete (transfer : Nat) (bytes : List Byte) (s : State) : Host.Outcome State Fault Refusal :=
  .next (s.chunksRead transfer bytes).settle

/-! ### UNKNOWN_KIND (R197) -/

def Request.asUnknown : Request → Option Nat
  | .unknown code => some code
  | _ => none

def State.takeUnknown (s : State) (h : Handed) (_ : Nat) : State :=
  s.answer h.slot .unknownKind

def execUnknownKind (s : State) : Host.Outcome State Fault Refusal :=
  .next (s.onRequest .exchange Request.asUnknown State.takeUnknown)

/-! ### Records (R192, R196) -/

/-- A mirror entry that follows the write of directory sector `z` is still being written (R93). -/
def Exchange.mirrors (e : Exchange) (z : Nat) : Bool :=
  e.transfers.any fun t => match t.purpose with
    | .record ⟨.mirror index true, _, _, _, _⟩ _ => dirSector index == z
    | _ => false

/-- A record has been written whole, and the flag tied to it is raised (R192, R196); CLIP follows the last of the mirror entries of
one directory sector (R93). -/
def State.recordWritten (s : State) (k : RecordKind) : State :=
  match k with
  | .answer slot => (s.modExch fun e => e.freeSlot slot).raise .answer
  | .receipt _ => s.raise .receipt
  | .correction _ => s.raise .correction
  | .mirror index follows => if follows && !s.media.exch.mirrors (dirSector index) then s.raise .clip else s
  | .report => s.endPickup

/-- The rest of a record is skipped: its owner goes on as if it had been written, without a flag (R193, R196). -/
def State.recordSkipped (s : State) (k : RecordKind) : State :=
  match k with
  | .answer slot => s.modExch fun e => e.freeSlot slot
  | .receipt _ => s
  | .correction _ => s
  | .mirror _ _ => s
  | .report => s.endPickup

/-- The next part of a record may be written: the exchange is RUNNING as the part before it ends, and a report page's pickup was not
stopped (R193, R196). So a record goes on after a stop and a new start in between (DESIGN CHOICE, log 77), and one whose part ends with
the exchange not RUNNING does not (log 40). -/
def Exchange.continues (e : Exchange) (k : RecordKind) : Bool :=
  e.running && !(decide (k = .report) && e.pickup.any Pickup.ending)

/-- A part of a record has been written (R196). -/
def State.partWritten (s : State) (r : Record) (part : RecordPart) : State :=
  match part with
  | .tail => s.recordWritten r.kind
  | .head => if s.media.exch.continues r.kind then s.modExch fun e => e.issuePart s.now r .body else s.recordSkipped r.kind
  | .body => if s.media.exch.continues r.kind then s.modExch fun e => e.issuePart s.now r .tail else s.recordSkipped r.kind

def State.recordEnd (s : State) (transfer : Nat) : State :=
  match (s.media.exch.transferAt transfer).map Transfer.purpose with
  | some (.record r part) => (s.modExch fun e => e.dropTransfer transfer).partWritten r part
  | _ => s

def execRecordWriteComplete (transfer : Nat) (s : State) : Host.Outcome State Fault Refusal :=
  .next (s.recordEnd transfer)

/-! ### Transfers that fail (R190) -/

/-- A transfer of the exchange area, as against a payload fetch or a read-back write (R190). -/
def Purpose.inArea : Purpose → Bool
  | .requestBoard => true
  | .chunkBoard => true
  | .sheet _ => true
  | .profileSection _ _ => true
  | .record _ _ => true
  | .payload _ => false
  | .readBackWrite _ => false

/-- A pickup whose board read failed after the exchange was stopped ends, with its notice (R193). -/
def State.pickupLost (s : State) : State :=
  match s.media.exch.pickup with
  | none => s
  | some p => (s.noticePickup p.stamp).endPickup

/-- The owner of a failed transfer takes its failure (R50, R117, R134, R193, R198). -/
def State.transferFailed (s : State) (p : Purpose) : State :=
  match p with
  | .requestBoard => s.pickupLost
  | .chunkBoard => s.pickupLost
  | .sheet live => if live then s.modMedia fun m => m.sheetEnd s.env s.orientation none else s
  | .profileSection slot _ => s.modExch fun e => e.freeSlot slot
  | .record r _ => s.recordSkipped r.kind
  | .payload live => if live then s.modMedia fun m => m.fetchFailed s.env else s
  | .readBackWrite live => if live then s.modMedia fun m => m.pieceLost s.env else s

/-- A transfer is reported failed: one of the exchange area makes a RUNNING exchange FAULTED; in every other case the owner takes the
failure, and an exchange that is not RUNNING keeps its state (R190, R193, log 59). -/
def State.linkFailed (s : State) (transfer : Nat) : State :=
  match (s.media.exch.transferAt transfer).map Transfer.purpose with
  | none => s
  | some p =>
    if s.media.exch.running && p.inArea then s.exchangeFault
    else (s.modExch fun e => e.dropTransfer transfer).transferFailed p

def execLinkTransferFailed (transfer : Nat) (s : State) : Host.Outcome State Fault Refusal :=
  .next (s.linkFailed transfer).settle

/-- A transfer's 50 ms are over (R190). -/
def Transfer.overdue (t : Transfer) (now : Stamp) : Bool :=
  reached now t.issued 50000

/-- A transfer is unanswered: a RUNNING exchange becomes FAULTED whatever the transfer was for; one that is not RUNNING keeps its
state, and the owner takes the failure (R190, R193, log 59). -/
def State.linkUnanswered (s : State) (transfer : Nat) : State :=
  match s.media.exch.transferAt transfer with
  | none => s
  | some t =>
    if t.overdue s.now then
      if s.media.exch.running then s.exchangeFault
      else (s.modExch fun e => e.dropTransfer transfer).transferFailed t.purpose
    else s

def execLinkTransferUnanswered (transfer : Nat) (s : State) : Host.Outcome State Fault Refusal :=
  .next (s.linkUnanswered transfer).settle

end Sys2Proof.Machine
end

