-- ==== Sys2Proof/Machine/FrameCommands.lean ====
section
/-! DEFINITION. The frame commands (R49 to R55): frame starts, sheets, the time-out of the head frame. -/

namespace Sys2Proof.Machine

/-- A rising edge of the frame-start line: the engine takes the frame, and a pickup becomes due (R49, R194). -/
def State.frameStart (s : State) : State :=
  (s.modMedia fun m => m.frameStart s.env s.orientation).modExch fun e => e.pickupDue s.now

def execFrameStart (s : State) : Host.Outcome State Fault Refusal :=
  .next s.frameStart.settle

/-- The read of a frame sheet completes (R50, R51). A read whose frame was dropped is for nobody (R48). -/
def State.sheetRead (s : State) (transfer : Nat) (bytes : List Byte) : State :=
  match (s.media.exch.transferAt transfer).map Transfer.purpose with
  | some (.sheet live) =>
    let s := s.modExch fun e => e.dropTransfer transfer
    if live then s.modMedia fun m => m.sheetEnd s.env s.orientation (some bytes) else s
  | _ => s

def execSheetReadComplete (transfer : Nat) (bytes : List Byte) (s : State) : Host.Outcome State Fault Refusal :=
  .next (s.sheetRead transfer bytes).settle

/-- HEAD_FRAME_TIMEOUT (R53). -/
def execHeadFrameTimeout (s : State) : Host.Outcome State Fault Refusal :=
  .next (s.modMedia fun m => m.headTimeout s.env s.orientation).settle

end Sys2Proof.Machine
end

