-- ==== Sys2Proof/Machine/IncidentCommands.lean ====
section
/-! DEFINITION. The incident and MARK key commands (R74 to R81). What the monitor sends the Clip Writer waits in lists of the
monitor until the writer takes it, and the answers wait there until the monitor takes them. -/

namespace Sys2Proof.Machine

/-! ### The window (R74) -/

def State.windowExpiry (s : State) : State :=
  if s.incident.windowDue s.now then (s.modIncident Incident.closeWindow).windowReport false else s

def execWindowExpiry (s : State) : Host.Outcome State Fault Refusal :=
  .next s.windowExpiry.settle

/-! ### Protection requests and answers (R75, R76) -/

/-- The Clip Writer takes the oldest protection request (R75). -/
def State.protectionRequest (s : State) : State :=
  match s.incident.requests with
  | [] => s
  | r :: rest =>
    let taken := s.media.writer.takeProtection r
    (s.modMedia fun m => m.modWriter fun _ => taken.1).modIncident fun i =>
      { i with requests := rest, answers := i.answers ++ [taken.2] }

def execProtectionRequest (s : State) : Host.Outcome State Fault Refusal :=
  .next s.protectionRequest.settle

/-- The oldest answer reaches the incident list (R76). -/
def State.protectionAnswer (s : State) : State :=
  match s.incident.answers with
  | [] => s
  | a :: rest => (s.modIncident fun i => { i.takeAnswer a with answers := rest }).raise .incident

def execProtectionAnswer (s : State) : Host.Outcome State Fault Refusal :=
  .next s.protectionAnswer

/-! ### The MARK key (R77 to R80) -/

/-- A press that has become LONG (R80). -/
def State.markLong (s : State) : State :=
  (s.modIncident Incident.longPress).raise .mark

/-- An edge of the MARK key; back in DOWN with the hold expired, the press is LONG at once (R77, R79). -/
def State.markEdge (s : State) (down : Bool) : State :=
  if s.railOn then
    let s := s.modIncident fun i => { i with key := i.key.onEdge s.now down }
    if s.incident.key.heldOut then s.markLong else s
  else s

def execMarkKeyEdge (down : Bool) (s : State) : Host.Outcome State Fault Refusal :=
  .next (s.markEdge down)

/-- A debounce of the MARK key completes (R77 to R79). -/
def State.markDebounce (s : State) : State :=
  if s.incident.key.debounceDue s.now then
    let before := s.incident.key.state
    let s := s.modIncident fun i => { i with key := i.key.debounced }
    match before with
    | .pressing => (s.modIncident Incident.press).raise .mark
    | .releasing => (s.modIncident Incident.shortPress).raise .mark
    | .up | .down | .long => s
  else s

def execMarkDebounceExpiry (s : State) : Host.Outcome State Fault Refusal :=
  .next s.markDebounce

/-- The 2,000 ms of the MARK key expire (R79, R80). -/
def State.markHold (s : State) : State :=
  if s.incident.key.holdDue s.now then
    match s.incident.key.state with
    | .down => s.markLong
    | .releasing => s.modIncident fun i => { i with key := i.key.holdExpired }
    | .up | .pressing | .long => s
  else s

def execMarkHoldExpiry (s : State) : Host.Outcome State Fault Refusal :=
  .next s.markHold

/-! ### Markers at the Clip Writer (R80, R81) -/

/-- The Clip Writer takes the oldest marker (R81). -/
def State.marker (s : State) : State :=
  match s.incident.markers with
  | [] => s
  | k :: rest =>
    (s.modMedia fun m => m.modWriter fun w => w.takeMarker k).modIncident fun i => { i with markers := rest }

def execMarker (s : State) : Host.Outcome State Fault Refusal :=
  .next s.marker.settle

/-- The MARK cause joins the open clip's causes, if a clip is OPEN (R80). -/
def Writer.markOpen (w : Writer) : Writer :=
  match w.openIndex with
  | none => w
  | some i => w.protect i fun c => { c with mark := true }

/-- The Clip Writer takes the oldest request for the MARK cause (R80). -/
def State.markProtection (s : State) : State :=
  if s.incident.markProtections = 0 then s
  else
    (s.modMedia fun m => m.modWriter Writer.markOpen).modIncident fun i =>
      { i with markProtections := i.markProtections - 1 }

def execMarkProtection (s : State) : Host.Outcome State Fault Refusal :=
  .next s.markProtection.settle

end Sys2Proof.Machine
end

