-- ==== Sys2Proof/Machine/MotionCommands.lean ====
section
/-! DEFINITION. The motion commands (R17 to R26): intake, IMU transfers, data-ready edges, bursts. -/

namespace Sys2Proof.Machine

/-! ### START_MOTION (R17) -/

def Request.asStartMotion : Request → Option Word32
  | .startMotion first => some first
  | _ => none

/-- READY with nothing in flight (R17, R20). -/
def MotionPort.free (p : MotionPort) : Bool :=
  decide (p.state = .ready ∧ p.activity = .idle)

/-- The port may begin a transfer or intake: it is free, and the rail is ON. While the rail is OFF the select line stays high and
the motion state is not RUNNING (R31); a request handed on before the rail went off and taken after it is refused (log 46). -/
def State.motionFree (s : State) : Bool :=
  s.railOn && s.motion.free

/-- Intake starts, and the integrator and the engine are told (R17, R34, R48). -/
def State.startIntake (s : State) (first : Word32) : State :=
  { s with motion := s.motion.start, integ := s.integ.start, media := s.media.modSteady fun e => e.start first }

def State.takeStartMotion (s : State) (h : Handed) (first : Word32) : State :=
  if s.motionFree then (s.startIntake first).answer h.slot .done else s.answer h.slot .refusedState

def execStartMotion (s : State) : Host.Outcome State Fault Refusal :=
  .next (s.onRequest .motion Request.asStartMotion State.takeStartMotion)

/-! ### STOP_MOTION (R18) -/

def Request.asStopMotion : Request → Option Unit
  | .stopMotion => some ()
  | _ => none

/-- The request waits for the end of the burst in flight (R18). -/
def MotionPort.waitToStop (p : MotionPort) (slot : Nat) : MotionPort :=
  { p with stopWaiting := true, stopSlots := p.stopSlots ++ [slot] }

def State.takeStopMotion (s : State) (h : Handed) (_ : Unit) : State :=
  if s.motion.state = .running then
    if s.motion.activity = .burst then s.modMotion fun p => p.waitToStop h.slot
    else (s.stopIntake).answer h.slot .done
  else s.answer h.slot .done

def execStopMotion (s : State) : Host.Outcome State Fault Refusal :=
  .next (s.onRequest .motion Request.asStopMotion State.takeStopMotion)

/-! ### IMU_TRANSFER and its end (R19, R20) -/

def Request.asTransfer : Request → Option (Nat × List Byte)
  | .imuTransfer count out => some (count, out)
  | _ => none

/-- The transfer begins, and its request waits for its end. -/
def MotionPort.transfer (p : MotionPort) (slot : Nat) (out : List Byte) : MotionPort :=
  { p.beginTransfer .transfer out with transferSlot := some slot }

/-- The state is judged before the length (log 33). -/
def State.takeTransfer (s : State) (h : Handed) (r : Nat × List Byte) : State :=
  if s.motionFree then
    if 1 ≤ r.1 ∧ r.1 ≤ 16 then s.modMotion fun p => p.transfer h.slot r.2 else s.answer h.slot .refusedParam
  else s.answer h.slot .refusedState

def execImuTransfer (s : State) : Host.Outcome State Fault Refusal :=
  .next (s.onRequest .motion Request.asTransfer State.takeTransfer)

/-- The select line rises: the answer carries the in bytes, as many as were sent (R19). -/
def State.transferEnd (s : State) (inBytes : List Byte) : State :=
  if s.motion.activity = .transfer then
    let p := s.motion
    (s.modMotion fun p => { p.endTransfer with transferSlot := none }).answerAll p.transferSlot.toList
      (Answer.done.withData (slice inBytes 0 p.outBytes.length))
  else s

def execTransferEnd (inBytes : List Byte) (s : State) : Host.Outcome State Fault Refusal :=
  .next (s.transferEnd inBytes)

/-! ### Data-ready edges and bursts (R21 to R26) -/

/-- DATA_READY_EDGE (R21); while the rail is OFF it is ignored (R31). -/
def execDataReadyEdge (s : State) : Host.Outcome State Fault Refusal :=
  .next (if s.railOn then { s with motion := s.motion.dataReady s.now } else s)

/-- A burst's bytes go to a sample record, or are discarded (R18, R24, R32). -/
def State.burstEnd (s : State) (inBytes : List Byte) (incidentFirst : Bool) : State :=
  if s.motion.activity = .burst then
    let ended := s.modMotion MotionPort.endTransfer
    if s.motion.state = .running then
      if s.motion.stopWaiting then ended.stopIntake else ended.burstSample inBytes incidentFirst
    else ended
  else s

def execBurstEnd (inBytes : List Byte) (incidentFirst : Bool) (s : State) : Host.Outcome State Fault Refusal :=
  .next (s.burstEnd inBytes incidentFirst).settle

end Sys2Proof.Machine
end

