-- ==== Sys2Proof/Machine/PowerCommands.lean ====
section
/-! DEFINITION. The Power State Controller's commands (R180 to R187). -/

namespace Sys2Proof.Machine

def State.modPowerKey (s : State) (f : Key → Key) : State :=
  s.modPower fun p => { p with key := f p.key }

/-! ### The POWER key (R180 to R183) -/

/-- A key turn-on is refused by the cut-off lock too (R183). -/
def State.keyTurnOn (s : State) : State :=
  if s.power.cutoffLock then s else s.turnOn

/-- The hold wait has expired with the key DOWN (R182). -/
def State.powerHeld (s : State) : State :=
  match s.power.key.hold.map Hold.kind, s.power.state with
  | some .turnOff, .run => (s.modPowerKey Key.makeLong).enterShutting .key
  | some .turnOn, .standby => (s.modPowerKey Key.makeLong).keyTurnOn
  | _, _ => s

/-- The power-down condition is tested when the key state has changed (R180). -/
def State.afterKey (s : State) (before : KeyState) : State :=
  if s.power.key.state = before then s else s.powerDownTest

/-- An edge of the POWER key; a down edge in DORMANT begins WAKING (R180, R181). Back in DOWN with the hold expired, the press is
treated as held (R182). -/
def State.powerEdge (s : State) (down : Bool) : State :=
  let before := s.power.key.state
  let s := s.modPowerKey fun k => k.onEdge s.now down
  let s := if down ∧ s.power.state = .dormant then s.setPower .waking else s
  let s := if s.power.key.heldOut then s.powerHeld else s
  s.afterKey before

def execPowerKeyEdge (down : Bool) (s : State) : Host.Outcome State Fault Refusal :=
  .next (s.powerEdge down).settle

/-- The hold wait that an accepted press sets (R181). -/
def pressHold : PowerState → Option HoldKind
  | .run => some .turnOff
  | .waking => some .turnOn
  | .standby => some .turnOn
  | .shutting => none
  | .dormant => none

/-- A press of the POWER key is accepted (R181). -/
def State.powerPress (s : State) : State :=
  match pressHold s.power.state with
  | some h => s.modPowerKey fun k => k.setHold h
  | none => s

/-- A release is accepted: in RUN a short press (R182). -/
def State.powerRelease (s : State) : State :=
  if s.power.state = .run then (s.modPower fun p => { p with pressCount := p.pressCount + 1 }).raise .key else s

/-- A debounce of the POWER key completes (R180 to R182). -/
def State.powerDebounce (s : State) : State :=
  if s.power.key.debounceDue s.now then
    let before := s.power.key.state
    let done := s.modPowerKey Key.debounced
    let acted := match before with
      | .pressing => done.powerPress
      | .releasing => done.powerRelease
      | .up | .down | .long => done
    acted.afterKey before
  else s

def execPowerDebounceExpiry (s : State) : Host.Outcome State Fault Refusal :=
  .next s.powerDebounce.settle

/-- A hold wait of the POWER key expires (R182). -/
def State.powerHold (s : State) : State :=
  if s.power.key.holdDue s.now then
    match s.power.key.state with
    | .down => s.powerHeld
    | .releasing => s.modPowerKey Key.holdExpired
    | .up | .pressing | .long => s
  else s

def execPowerHoldExpiry (s : State) : Host.Outcome State Fault Refusal :=
  .next s.powerHold.settle

/-! ### Shutting down (R184) -/

def Request.asShutdown : Request → Option Unit
  | .shutdown => some ()
  | _ => none

/-- SHUTDOWN: answered DONE, and in RUN SHUTTING is entered (R184, log 5). -/
def State.takeShutdown (s : State) (h : Handed) (_ : Unit) : State :=
  let s := s.answer h.slot .done
  if s.power.state = .run then s.enterShutting .request else s

def execShutdown (s : State) : Host.Outcome State Fault Refusal :=
  .next (s.onRequest .power Request.asShutdown State.takeShutdown).settle

/-- The close limit of SHUTTING has been reached (R184). -/
def State.closeLimitDue (s : State) : Bool :=
  decide (s.power.state = .shutting) && waitDue (s.power.closeTarget.map fun t => ⟨t, 0⟩) s.now

def execCloseLimitExpiry (s : State) : Host.Outcome State Fault Refusal :=
  .next (if s.closeLimitDue then s.cutRail.settle else s)

/-! ### The stored block (R187) -/

def Request.asStore : Request → Option Unit
  | .storeChargeOptions => some ()
  | _ => none

/-- STORE_CHARGE_OPTIONS captures the values in force (R187). -/
def State.takeStore (s : State) (h : Handed) (_ : Unit) : State :=
  if s.power.storing.isSome ∨ s.gauge.warning = true then s.answer h.slot .refusedState
  else s.modPower fun p => { p with storing := some ⟨storedBlock s.options, some h.slot⟩ }

def execStoreChargeOptions (s : State) : Host.Outcome State Fault Refusal :=
  .next (s.onRequest .power Request.asStore State.takeStore)

/-- The block after a write and its compare (R187, log 18). -/
def Power.stored (p : Power) (st : Storing) (matched : Bool) : Power :=
  { p with
    storing := none
    blockStatus := if matched then .valid else .failing
    block := if matched then st.bytes else p.block
    blockTorn := !matched }

/-- The write and compare end (R187). -/
def State.storeEnd (s : State) (matched : Bool) : State :=
  match s.power.storing with
  | none => s
  | some st =>
    (s.modPower fun p => p.stored st matched).answerAll st.slot.toList (if matched then .done else .failed .store)

def execStoreWriteComplete (matched : Bool) (s : State) : Host.Outcome State Fault Refusal :=
  .next (s.storeEnd matched)

end Sys2Proof.Machine
end

