-- ==== Sys2Proof/Machine/ProfileCommands.lean ====
section
/-! DEFINITION. LOAD_PROFILE and the end of its section's read (R16, R47, R70, R84, R153, R168, R171, R186, R198). -/

namespace Sys2Proof.Machine

/-! ### LOAD_PROFILE (R198) -/

def Request.asLoadProfile : Request → Option Nat
  | .loadProfile section_ => some section_
  | _ => none

/-- Where a section stands in the exchange area. -/
def sectionOffset (code : Nat) : Nat :=
  0x1400 + 64 * code

/-- The section's read is begun, whether or not the exchange is RUNNING (R198, log 66). -/
def State.takeLoadProfile (s : State) (h : Handed) (code : Nat) : State :=
  if 3 < code then s.answer h.slot .refusedParam
  else s.modExch fun e => e.readArea s.now (.profileSection h.slot code) (sectionOffset code) 64

def execLoadProfile (s : State) : Host.Outcome State Fault Refusal :=
  .next (s.onRequest .exchange Request.asLoadProfile State.takeLoadProfile)

/-! ### The section is judged (R198) -/

/-- What the owners of a section make of it together: a refusal, or the state with the fields taken and the CLAMPED note. -/
inductive Judgement where
  | refusedState
  | refusedParam
  | taken (s : State) (clamped : Bool)
deriving DecidableEq, Repr

/-- The Motion Port's section (R15, R16). -/
def State.judgeMotion (s : State) (bs : List Byte) : Judgement :=
  if s.motion.state = .running then .refusedState
  else if motionStructureOk bs then
    .taken (s.modMotion fun p => p.load (parseMotion bs).value) (parseMotion bs).clamped
  else .refusedParam

/-- The Steadying Engine's section (R47). -/
def State.judgeSteady (s : State) (bs : List Byte) : Judgement :=
  if steadyStructureOk bs then
    .taken (s.modMedia fun m => m.loadSteady (parseSteady bs).value) (parseSteady bs).clamped
  else .refusedParam

/-- The writer states that take LOAD_PROFILE(volume) (R84). -/
def WriterState.takesProfile : WriterState → Bool
  | .unmounted => true
  | .idle => true
  | .cardLost => true
  | .cardFault => true
  | .halted => true
  | .mounting => false
  | .formatting => false
  | .recording => false
  | .closing => false

/-- The section of the Clip Writer and the Incident Monitor (R70, R84). -/
def State.judgeVolume (s : State) (bs : List Byte) : Judgement :=
  if s.media.writer.state.takesProfile then
    if volumeAddressable (parseVolume bs).value then
      .taken
        ((s.modMedia fun m => m.modWriter fun w => { w with profile := (parseVolume bs).value }).modIncident fun i =>
          i.load (parseIncident bs).value)
        ((parseVolume bs).clamped || (parseIncident bs).clamped)
    else .refusedParam
  else .refusedState

/-- The charge options are taken by their three owners (R153, R162, R171, R186). -/
def State.takeOptions (s : State) (o : ChargeOptions) : State :=
  { s with
    options := o
    charge := s.charge.recap o
    gauge := s.gauge.newCapacity s.options o
    power := { s.power with origin := .loaded } }

/-- The charge section (R153, R168). -/
def State.judgeCharge (s : State) (bs : List Byte) : Judgement :=
  if chargeAcceptable (parseCharge bs).value then .taken (s.takeOptions (parseCharge bs).value) (parseCharge bs).clamped
  else .refusedParam

def State.judge (s : State) (code : Nat) (bs : List Byte) : Judgement :=
  match code with
  | 0 => s.judgeMotion bs
  | 1 => s.judgeSteady bs
  | 2 => s.judgeVolume bs
  | _ => s.judgeCharge bs

/-- A section read whole: torn, of edition 0, or judged (R198). -/
def State.sectionRead (s : State) (slot code : Nat) (bs : List Byte) : State :=
  if torn bs 62 then
    (s.modExch fun e => { e with torn := bump 65535 e.torn }).answer slot (.failed .torn)
  else if editionAt bs 0 = 0 then s.answer slot .refusedParam
  else
    match s.judge code bs with
    | .refusedState => s.answer slot .refusedState
    | .refusedParam => s.answer slot .refusedParam
    | .taken s' clamped => s'.answer slot (.doneClamped clamped)

def State.sectionEnd (s : State) (transfer : Nat) (bytes : List Byte) : State :=
  match (s.media.exch.transferAt transfer).map Transfer.purpose with
  | some (.profileSection slot code) => (s.modExch fun e => e.dropTransfer transfer).sectionRead slot code bytes
  | _ => s

def execSectionReadComplete (transfer : Nat) (bytes : List Byte) (s : State) : Host.Outcome State Fault Refusal :=
  .next (s.sectionEnd transfer bytes).settle

end Sys2Proof.Machine
end

