-- ==== Sys2Proof/Machine/VolumeCommands.lean ====
section
/-! DEFINITION. The volume's requests (R94 to R103, R133) as the Clip Writer takes them. -/

namespace Sys2Proof.Machine

/-! ### MOUNT_VOLUME (R96) -/

def Request.asMount : Request → Option Unit
  | .mountVolume => some ()
  | _ => none

def State.takeMount (s : State) (h : Handed) (_ : Unit) : State :=
  s.modMedia fun m => m.mount s.env h.slot

def execMountVolume (s : State) : Host.Outcome State Fault Refusal :=
  .next (s.onRequest .writer Request.asMount State.takeMount).settle

/-! ### UNMOUNT_VOLUME (R101) -/

def Request.asUnmount : Request → Option Unit
  | .unmountVolume => some ()
  | _ => none

def State.takeUnmount (s : State) (h : Handed) (_ : Unit) : State :=
  s.modMedia fun m => m.unmount s.env h.slot

def execUnmountVolume (s : State) : Host.Outcome State Fault Refusal :=
  .next (s.onRequest .writer Request.asUnmount State.takeUnmount).settle

/-! ### FORMAT_VOLUME (R94) -/

def Request.asFormat : Request → Option Unit
  | .formatVolume => some ()
  | _ => none

def State.takeFormat (s : State) (h : Handed) (_ : Unit) : State :=
  s.modMedia fun m => m.format s.env h.slot

def execFormatVolume (s : State) : Host.Outcome State Fault Refusal :=
  .next (s.onRequest .writer Request.asFormat State.takeFormat).settle

/-! ### SET_PROTECTION (R102) -/

def Request.asSetProtection : Request → Option (Nat × Bool)
  | .setProtection clip on => some (clip, on)
  | _ => none

def State.takeSetProtection (s : State) (h : Handed) (r : Nat × Bool) : State :=
  s.modMedia fun m => m.setProtection s.env h.slot r.1 r.2

def execSetProtection (s : State) : Host.Outcome State Fault Refusal :=
  .next (s.onRequest .writer Request.asSetProtection State.takeSetProtection).settle

/-! ### DELETE_CLIP (R103) -/

def Request.asDeleteClip : Request → Option (Nat × Bool)
  | .deleteClip clip force => some (clip, force)
  | _ => none

def State.takeDeleteClip (s : State) (h : Handed) (r : Nat × Bool) : State :=
  s.modMedia fun m => m.deleteClip s.env h.slot r.1 r.2

def execDeleteClip (s : State) : Host.Outcome State Fault Refusal :=
  .next (s.onRequest .writer Request.asDeleteClip State.takeDeleteClip).settle

/-! ### READ_BACK (R133, R134) -/

def Request.asReadBack : Request → Option (Nat × Nat × Nat × Nat)
  | .readBack clip offset length address => some (clip, offset, length, address)
  | _ => none

def State.takeReadBack (s : State) (h : Handed) (r : Nat × Nat × Nat × Nat) : State :=
  s.modMedia fun m => m.startReadBack s.env h.slot r.1 r.2.1 r.2.2.1 r.2.2.2

def execReadBack (s : State) : Host.Outcome State Fault Refusal :=
  .next (s.onRequest .writer Request.asReadBack State.takeReadBack).settle

/-- A piece's write into the host buffer completes (R134). -/
def State.readBackWritten (s : State) (transfer : Nat) : State :=
  match (s.media.exch.transferAt transfer).map Transfer.purpose with
  | some (.readBackWrite live) =>
    let s := s.modExch fun e => e.dropTransfer transfer
    if live then s.modMedia fun m => m.pieceCopied s.env else s
  | _ => s

def execReadBackWriteComplete (transfer : Nat) (s : State) : Host.Outcome State Fault Refusal :=
  .next (s.readBackWritten transfer).settle

end Sys2Proof.Machine
end

