-- ==== Sys2Proof/Machine/Dispatch.lean ====
section
/-! DEFINITION. The meaning of each command: one arm per row of spec/opcode_table.json. -/

namespace Sys2Proof.Machine

def exec (i : Instr) (s : State) : Host.Outcome State Fault Refusal :=
  match i with
  | .fastPulse => Sys2Proof.Machine.execFastPulse s
  | .slowTick => Sys2Proof.Machine.execSlowTick s
  | .settleComplete => Sys2Proof.Machine.execSettleComplete s
  | .coldReset usbInWindow auxInWindow supplyLow => Sys2Proof.Machine.execColdReset usbInWindow auxInWindow supplyLow s
  | .supplyReset usbInWindow auxInWindow supplyLow => Sys2Proof.Machine.execSupplyReset usbInWindow auxInWindow supplyLow s
  | .warmReset => Sys2Proof.Machine.execWarmReset s
  | .loadProfile => Sys2Proof.Machine.execLoadProfile s
  | .sectionReadComplete transfer bytes => Sys2Proof.Machine.execSectionReadComplete transfer bytes s
  | .startMotion => Sys2Proof.Machine.execStartMotion s
  | .stopMotion => Sys2Proof.Machine.execStopMotion s
  | .imuTransfer => Sys2Proof.Machine.execImuTransfer s
  | .transferEnd inBytes => Sys2Proof.Machine.execTransferEnd inBytes s
  | .dataReadyEdge => Sys2Proof.Machine.execDataReadyEdge s
  | .burstEnd inBytes incidentFirst => Sys2Proof.Machine.execBurstEnd inBytes incidentFirst s
  | .frameStart => Sys2Proof.Machine.execFrameStart s
  | .sheetReadComplete transfer bytes => Sys2Proof.Machine.execSheetReadComplete transfer bytes s
  | .headFrameTimeout => Sys2Proof.Machine.execHeadFrameTimeout s
  | .windowExpiry => Sys2Proof.Machine.execWindowExpiry s
  | .protectionRequest => Sys2Proof.Machine.execProtectionRequest s
  | .protectionAnswer => Sys2Proof.Machine.execProtectionAnswer s
  | .markKeyEdge down => Sys2Proof.Machine.execMarkKeyEdge down s
  | .markDebounceExpiry => Sys2Proof.Machine.execMarkDebounceExpiry s
  | .markHoldExpiry => Sys2Proof.Machine.execMarkHoldExpiry s
  | .marker => Sys2Proof.Machine.execMarker s
  | .markProtection => Sys2Proof.Machine.execMarkProtection s
  | .mountVolume => Sys2Proof.Machine.execMountVolume s
  | .unmountVolume => Sys2Proof.Machine.execUnmountVolume s
  | .formatVolume => Sys2Proof.Machine.execFormatVolume s
  | .setProtection => Sys2Proof.Machine.execSetProtection s
  | .deleteClip => Sys2Proof.Machine.execDeleteClip s
  | .payloadFetchComplete transfer bytes => Sys2Proof.Machine.execPayloadFetchComplete transfer bytes s
  | .startClip => Sys2Proof.Machine.execStartClip s
  | .stopClip => Sys2Proof.Machine.execStopClip s
  | .starvationExpiry => Sys2Proof.Machine.execStarvationExpiry s
  | .readBack => Sys2Proof.Machine.execReadBack s
  | .readBackWriteComplete transfer => Sys2Proof.Machine.execReadBackWriteComplete transfer s
  | .detectEdge present => Sys2Proof.Machine.execDetectEdge present s
  | .detectDebounceExpiry => Sys2Proof.Machine.execDetectDebounceExpiry s
  | .identificationTimeout => Sys2Proof.Machine.execIdentificationTimeout s
  | .cardCommandResponse response status => Sys2Proof.Machine.execCardCommandResponse response status s
  | .cardResponseMissing => Sys2Proof.Machine.execCardResponseMissing s
  | .readBlockReceived mark data check => Sys2Proof.Machine.execReadBlockReceived mark data check s
  | .readSectorTimeout => Sys2Proof.Machine.execReadSectorTimeout s
  | .writeBlockAnswer answer => Sys2Proof.Machine.execWriteBlockAnswer answer s
  | .cardBusyEnd => Sys2Proof.Machine.execCardBusyEnd s
  | .cardBusyTimeout => Sys2Proof.Machine.execCardBusyTimeout s
  | .inputEntersWindow input => Sys2Proof.Machine.execInputEntersWindow input s
  | .inputLeavesWindow input => Sys2Proof.Machine.execInputLeavesWindow input s
  | .qualifyWaitExpiry input => Sys2Proof.Machine.execQualifyWaitExpiry input s
  | .lossDebounceExpiry input => Sys2Proof.Machine.execLossDebounceExpiry input s
  | .gaugeMeasurement readings gaugeFirst => Sys2Proof.Machine.execGaugeMeasurement readings gaugeFirst s
  | .setInputLimit => Sys2Proof.Machine.execSetInputLimit s
  | .clearChargeFault => Sys2Proof.Machine.execClearChargeFault s
  | .supplyWarningAssert => Sys2Proof.Machine.execSupplyWarningAssert s
  | .supplyWarningRemove => Sys2Proof.Machine.execSupplyWarningRemove s
  | .powerKeyEdge down => Sys2Proof.Machine.execPowerKeyEdge down s
  | .powerDebounceExpiry => Sys2Proof.Machine.execPowerDebounceExpiry s
  | .powerHoldExpiry => Sys2Proof.Machine.execPowerHoldExpiry s
  | .shutdown => Sys2Proof.Machine.execShutdown s
  | .closeLimitExpiry => Sys2Proof.Machine.execCloseLimitExpiry s
  | .storeChargeOptions => Sys2Proof.Machine.execStoreChargeOptions s
  | .storeWriteComplete matched => Sys2Proof.Machine.execStoreWriteComplete matched s
  | .runStart => Sys2Proof.Machine.execRunStart s
  | .runStop => Sys2Proof.Machine.execRunStop s
  | .pickupPeriodSet code => Sys2Proof.Machine.execPickupPeriodSet code s
  | .attentionEnableSet enables => Sys2Proof.Machine.execAttentionEnableSet enables s
  | .attnClear bits => Sys2Proof.Machine.execAttnClear bits s
  | .baseWrite register value => Sys2Proof.Machine.execBaseWrite register value s
  | .registerWriteOther offset width value => Sys2Proof.Machine.execRegisterWriteOther offset width value s
  | .pickupPeriodExpiry => Sys2Proof.Machine.execPickupPeriodExpiry s
  | .requestBoardReadComplete transfer bytes => Sys2Proof.Machine.execRequestBoardReadComplete transfer bytes s
  | .unknownKind => Sys2Proof.Machine.execUnknownKind s
  | .chunkBoardReadComplete transfer bytes => Sys2Proof.Machine.execChunkBoardReadComplete transfer bytes s
  | .recordWriteComplete transfer => Sys2Proof.Machine.execRecordWriteComplete transfer s
  | .linkTransferFailed transfer => Sys2Proof.Machine.execLinkTransferFailed transfer s
  | .linkTransferUnanswered transfer => Sys2Proof.Machine.execLinkTransferUnanswered transfer s

end Sys2Proof.Machine
end

