-- ==== Sys2Proof/Safety.lean ====
section
/-! DEFINITION. What counts as a safe run of the G41: it never stops. And the ranges that its blocks keep, which the statements
about every step are made of: the clock (R2, R3), the charge current (R161, R162, R164), the gauge (R170, R175), the sample
intake and the orientation (R23, R25, R28, R39, R40), the exchange and the detect line while the rail is OFF (R137, R191). -/

namespace Sys2Proof.Safety

open Sys2Proof.Machine

/-! ### Runs that do not stop -/

/-- The outcome is a next state: neither a fault nor a refusal. -/
def Goes (o : Host.Outcome State Fault Refusal) : Prop :=
  ∃ t, o = .next t

/-- A run of `n` steps that does not stop. -/
def Runs (n : Nat) (s : State) : Prop :=
  Goes (core.run n s)

/-! ### Ranges -/

/-- The position of the next pulse lies in 0 to 127, the fraction in 0 to 511 (R2, R3). -/
def ClockInRange (s : State) : Prop :=
  s.clock.group < 128 ∧ s.clock.fraction < 512

/-- The commanded charge current is within the current cap, the cap is within the cap of the charge state and, while a clip is
recorded, within the recording cap, and the source in force is the one that the inputs select (R152, R161, R164). -/
def ChargeWithinCaps (s : State) : Prop :=
  s.charge.ic ≤ s.charge.cap ∧ s.charge.cap ≤ stateCap s.options s.charge.state ∧
    (s.charge.recording = true → s.charge.cap ≤ s.options.recordingCap) ∧ s.charge.choice = s.charge.source

/-- Q lies within the battery's capacity, its carry below one µAh, the time remainder below one ms, the cut-off run at 2 at the
most (R170, R175). -/
def GaugeInRange (s : State) : Prop :=
  0 ≤ s.gauge.q ∧ s.gauge.q ≤ (s.options.capacity * 1000 : Nat) ∧ -3600 < s.gauge.carry ∧ s.gauge.carry < 3600 ∧
    s.gauge.remainder < 1000 ∧ s.gauge.cutoffRun ≤ 2

/-- An angle in the range of θ, −180,000,000 to +179,999,999 µdeg (spec/03 section 3.1). -/
def AngleInRange (x : Int) : Prop :=
  -180000000 ≤ x ∧ x < 180000000

/-- A property of each axis. -/
def OnAxes (p : Int → Prop) (a : Axes Int) : Prop :=
  p a.yaw ∧ p a.pitch ∧ p a.roll

/-- A bias, in 1/16 counts (R15, R28). -/
def BiasInRange (x : Int) : Prop :=
  -65536 ≤ x ∧ x ≤ 65536

/-- The values of a motion profile that the integration uses (R15, R16). -/
def ProfileInRange (q : MotionProfile) : Prop :=
  q.fullScale ≤ 2000 ∧ (q.nominalRate = 500 ∨ q.nominalRate = 1000 ∨ q.nominalRate = 2000) ∧ OnAxes BiasInRange q.initialBias

/-- The orientation and every entry of the history lie in the range of θ and the carry below 524,288; what this rests on: the
profile and the bias in force are in range, no sample is integrated with intake stopped, and while samples are integrated the
integrator and the Motion Port agree on the stamp of the last one (R16, R25, R28, R35 to R40). -/
def OrientationInRange (s : State) : Prop :=
  OnAxes AngleInRange s.integ.theta ∧ (∀ e ∈ s.integ.history, OnAxes AngleInRange e.theta) ∧ s.integ.history.length ≤ 128 ∧
    OnAxes (fun c => -524288 < c ∧ c < 524288) s.integ.carry ∧ OnAxes BiasInRange s.motion.bias ∧
    (∀ q, s.motion.profile = some q → ProfileInRange q) ∧
    (s.motion.state ≠ .running → s.integ.state = .idle) ∧
    (s.integ.state = .integrating → s.integ.lastStamp.isSome = true ∧ s.motion.prevStamp = s.integ.lastStamp)

/-- While the system rail is OFF the exchange is STOPPED with CONTROL and BASE at 0 and no pickup, and the detect level is EMPTY
with no debounce (R137, R191). -/
def LinkDownWithRail (s : State) : Prop :=
  s.railOn = false →
    s.media.exch.state = .stopped ∧ s.media.exch.run = false ∧ s.media.exch.period = 0 ∧ s.media.exch.enables = 0 ∧
      s.media.exch.baseLo = 0 ∧ s.media.exch.baseHi = 0 ∧ s.media.exch.pickup = none ∧ s.media.card.detect = false ∧
        s.media.card.debounce = none

/-! ### What can be written down and read back -/

/-- Charge options within the ranges of the charge section, the temperature limits and the open-circuit table strictly rising
(R153, R168, spec/12 section 12.10). -/
def OptionsInRange (o : ChargeOptions) : Prop :=
  (4000 ≤ o.vreg ∧ o.vreg ≤ 4400) ∧ (100 ≤ o.icc ∧ o.icc ≤ 3000) ∧
    (50 ≤ o.prechargeCurrent ∧ o.prechargeCurrent ≤ 500) ∧ (20 ≤ o.terminationCurrent ∧ o.terminationCurrent ≤ 500) ∧
    (5 ≤ o.prechargeMinutes ∧ o.prechargeMinutes ≤ 120) ∧ (60 ≤ o.totalMinutes ∧ o.totalMinutes ≤ 720) ∧
    (-20 ≤ o.t1 ∧ o.t1 < o.t2 ∧ o.t2 < o.t3 ∧ o.t3 < o.t4 ∧ o.t4 ≤ 80) ∧
    (100 ≤ o.recordingCap ∧ o.recordingCap ≤ 3000) ∧ (100 ≤ o.auxLimit ∧ o.auxLimit ≤ 3000 ∧ o.auxLimit % 50 = 0) ∧
    (6000 ≤ o.auxSag ∧ o.auxSag ≤ 20000) ∧ (200 ≤ o.capacity ∧ o.capacity ≤ 5000) ∧
    (3000 ≤ o.emptyVoltage ∧ o.emptyVoltage ≤ 3600) ∧ (2900 ≤ o.cutoffVoltage ∧ o.cutoffVoltage ≤ o.emptyVoltage) ∧
    o.reserve ≤ 300 ∧ o.openCircuit.length = 11 ∧ (∀ v ∈ o.openCircuit, v < 65536) ∧ strictlyRising o.openCircuit = true

/-- A clip whose fields fit their places in a directory entry (R87, spec/12 section 12.10). An OPEN clip has no end stamp. -/
def Writable (c : Clip) : Prop :=
  (0 < c.number ∧ c.number < 4294967296) ∧ (c.state = .openClip ↔ c.endStamp = none) ∧
    (∀ s, c.first = some s → s < 65535) ∧ (∀ s, c.last = some s → s < 65535) ∧ c.segments < 65536 ∧
    c.hostCount < 4294967296 ∧ c.motionCount < 4294967296 ∧ c.bytes < 18446744073709551616 ∧ c.drops < 4294967296 ∧
    c.motionDrops < 4294967296 ∧ c.markers.length ≤ 16

end Sys2Proof.Safety
end

