-- ==== Sys2Proof/Certificates/Slice0/Obligations.lean ====
section
/-! DEFINITION. The statements about the G41. A next state is written as the state before with the fields that change; where the
blocks of the card may go on of themselves within the same step, the next state is `settle` of it, of which
`SettleLeavesRest` says what it leaves. -/

open Sys2Proof Sys2Proof.Machine

/-! ### Steps and commands -/

/-- A step runs the command at the front of the queue on the state with the rest of the queue; with no command waiting the block
idles. The queue and the idling are the model's choice (log 1). -/
def Obligations.StepTakesFront : Prop :=
  (∀ (c : Instr) (rest : List Instr) (s : State), s.pending = c :: rest → step s = exec c { s with pending := rest }) ∧
  (∀ s : State, s.pending = [] → step s = .next s)

/-- Every command, in every state, answers a next state with the same queue: spec/ names no event that stops the part, and the
queue is the model's (log 1). -/
def Obligations.CommandsGoOn : Prop :=
  ∀ (c : Instr) (s : State), ∃ t, exec c s = .next t ∧ t.pending = s.pending

/-- Outside SHUTTING, what follows within a step changes the media blocks and the Charge Controller's recording, cap and
current, and nothing else (log 31). Of the media blocks it leaves the registers, the boards' editions and the pickup of the
exchange, the engine's frames, path and totals, and the Card Port's detect level, capacity and totals. -/
def Obligations.SettleLeavesRest : Prop :=
  ∀ s : State, s.power.state ≠ .shutting →
    (∃ (m : Media) (recording : Bool) (cap ic : Nat),
      s.settle = { s with
        media := m
        charge := { s.charge with recording := recording, cap := cap, ic := ic } } ∧ ic ≤ s.charge.ic) ∧
    (let e := s.settle.media.exch
     let d := s.media.exch
     e.state = d.state ∧ e.run = d.run ∧ e.period = d.period ∧ e.enables = d.enables ∧ e.attn = d.attn ∧
       e.baseLo = d.baseLo ∧ e.baseHi = d.baseHi ∧ e.requestTaken = d.requestTaken ∧ e.chunkTaken = d.chunkTaken ∧
       e.handed = d.handed ∧ e.pickup = d.pickup ∧ e.pickupHeld = d.pickupHeld ∧ e.periodWait = d.periodWait ∧
       e.periodOwed = d.periodOwed ∧ e.reportEdition = d.reportEdition ∧ e.torn = d.torn) ∧
    (let y := s.settle.media.steady
     let x := s.media.steady
     y.state = x.state ∧ y.frameCounter = x.frameCounter ∧ y.frames = x.frames ∧ y.headStage = x.headStage ∧
       y.head = x.head ∧ y.heldSheet = x.heldSheet ∧ y.path = x.path ∧ y.seeded = x.seeded ∧ y.profile = x.profile ∧
       y.skippedTotal = x.skippedTotal ∧ y.heldTotal = x.heldTotal ∧ y.dropTotal = x.dropTotal) ∧
    (let c := s.settle.media.card
     let b := s.media.card
     c.detect = b.detect ∧ c.detectLine = b.detectLine ∧ c.debounce = b.debounce ∧ c.capacity = b.capacity ∧
       c.fast = b.fast ∧ c.ident = b.ident ∧ c.readErrors = b.readErrors ∧ c.writeErrors = b.writeErrors ∧
       c.timeouts = b.timeouts ∧ c.removals = b.removals)

/-! ### The Ride Clock (spec/01) -/

/-- FAST_PULSE and SLOW_TICK: a fast pulse is passed, or removed at positions 42, 85 and 127 (R2); a slow tick adds 265/512 to the
fraction and 30 or 31 µs to the count, and in WAKING, and on the slow path after a reset, before the settle completes, one to the settle
count; on the fast path it does nothing (R3, R4, R12, R179). -/
def Obligations.ClockTicks : Prop :=
  (∀ s : State, s.clock.group < 128 →
     (s.clock.path = .fast →
       exec .fastPulse s = .next { s with clock := { s.clock with
         count := if s.clock.group = 42 ∨ s.clock.group = 85 ∨ s.clock.group = 127 then s.clock.count else s.clock.count + 1
         group := if s.clock.group = 127 then 0 else s.clock.group + 1 } }) ∧
     (s.clock.path = .slow → exec .fastPulse s = .next s)) ∧
  (∀ s : State, s.clock.path = .slow →
     (let clock : Clock := if s.clock.fraction + 265 ≤ 511
         then { s.clock with count := s.clock.count + 30, fraction := s.clock.fraction + 265 }
         else { s.clock with count := s.clock.count + 31, fraction := s.clock.fraction + 265 - 512 }
      (s.power.state = .dormant → s.clock.handover = .none → exec .slowTick s = .next { s with clock := clock }) ∧
      (s.power.state = .waking ∨ s.power.state = .standby ∨ s.power.state = .run ∨ s.power.state = .shutting →
         s.clock.handover = .toFast → s.power.settleCount + 1 < (if s.power.settleFast then 32 else 4096) →
         exec .slowTick s = .next { s with
           clock := clock
           power := { s.power with settleCount := s.power.settleCount + 1 } }))) ∧
  (∀ s : State, s.clock.path = .fast → s.clock.handover = .none → s.power.state ≠ .waking → exec .slowTick s = .next s)

/-- The count keeps time. Within a group of 128 pulses of 1000/1024 µs it is never behind real time and leads it by less than 2 µs, and
the group passes 125 pulses (R2); 512 ticks on the slow path add 15,625 µs and leave the fraction as it was (R3). -/
def Obligations.ClockKeepsTime : Prop :=
  (∀ c : Clock, c.path = .fast → c.group = 0 →
     (∀ k ≤ 128, ∃ p : Nat, (Clock.pulse^[k] c).count = c.count + BitVec.ofNat 48 p ∧ k * 1000 ≤ p * 1024 ∧
       p * 1024 < k * 1000 + 2048) ∧
     Clock.pulse^[128] c = { c with count := c.count + 125 }) ∧
  (∀ c : Clock, c.path = .slow → c.handover = .none → c.fraction < 512 →
     (fun d : Clock => d.tick false)^[512] c = { c with count := c.count + 15625 })

/-- The slow tick that finds TO_SLOW pending discards the partial group, and stops the oscillator, so that no later pulse counts
(R5); SETTLE_COMPLETE in WAKING starts the fast path with a fresh group, the power state STANDBY and the MARK key UP, and after a
COLD or SUPPLY reset that left the part awake it starts the fast path alone, in STANDBY, RUN or SHUTTING; with no settle to complete
it finds nothing to do (R6, R12, R77, R179); neither changes the count or the fraction. -/
def Obligations.Handovers : Prop :=
  (∀ s : State, s.power.state = .dormant → s.clock.handover = .toSlow →
     (let t : State := { s with clock := { s.clock with path := .slow, group := 0, handover := .none, mainOsc := false } }
      exec .slowTick s = .next t ∧ exec .fastPulse t = .next t)) ∧
  (∀ s : State, s.power.state = .waking → s.clock.path = .slow → s.clock.handover = .toFast →
     (if s.power.settleFast then 32 else 4096) ≤ s.power.settleCount + 1 →
     exec .settleComplete s = .next { s with
       clock := { s.clock with path := .fast, group := 0, handover := .none }
       power := { s.power with
         state := .standby, settleCount := s.power.settleCount + 1, cause := .none, closeTarget := none }
       gauge := { s.gauge with slowCadence := false }
       incident := { s.incident with key := { s.incident.key with state := .up, debouncing := false, hold := none } } }) ∧
  (∀ s : State,
    let done := (if s.power.settleFast then 32 else 4096) ≤ s.power.settleCount + 1
    let awake := s.power.state = .standby ∨ s.power.state = .run ∨ s.power.state = .shutting
    (awake → s.clock.path = .slow → s.clock.handover = .toFast → done → exec .settleComplete s = .next { s with
      clock := { s.clock with path := .fast, group := 0, handover := .none }
      power := { s.power with settleCount := s.power.settleCount + 1 } }) ∧
    (s.power.state = .dormant ∨ (awake ∧ s.clock.handover ≠ .toFast) ∨ ¬done → exec .settleComplete s = .next s))

/-! ### Resets (spec/01 to spec/12, their sections on resets) -/

/-- What a COLD or SUPPLY reset with no supply warning leaves in each block but the Power State Controller (R12, R33, R46, R69, R83,
R106, R132, R149, R167, R178, R191); one that finds the supply warning leaves the writer HALTED and raises GAUGE (R129, R176). -/
def Obligations.HardReset : Prop :=
  (∀ (s : State) (usb aux : Bool) (c : Instr), c = .coldReset usb aux false ∨ c = .supplyReset usb aux false →
     ∃ t, exec c s = .next t ∧
       t.clock = ⟨0, .slow, 0, 0, if usb || aux then .toFast else .none, usb || aux⟩ ∧
       t.motion.state = .off ∧ t.motion.profile = none ∧ t.motion.bias = ⟨0, 0, 0⟩ ∧ t.motion.learning = .settling ∧
       t.integ.state = .idle ∧ t.integ.theta = ⟨0, 0, 0⟩ ∧ t.integ.carry = ⟨0, 0, 0⟩ ∧ t.integ.history = [] ∧
       t.media.steady.state = .idle ∧ t.media.steady.frames = [] ∧ t.media.steady.profile.focal = 1000 ∧
       t.incident.window = .quiet ∧ t.incident.number = 0 ∧ t.incident.list = [] ∧ t.incident.key.state = .up ∧
       t.media.writer.state = .unmounted ∧ t.media.writer.mounted = false ∧ t.media.writer.held = [] ∧
       t.media.card.state = .absent ∧ t.media.card.detect = false ∧ t.media.card.capacity = 0 ∧
       t.charge.usb.state = (if usb then .qualifying else .absent) ∧
       t.charge.aux.state = (if aux then .qualifying else .absent) ∧ t.charge.source = .none ∧ t.charge.state = .idle ∧
       t.charge.ic = 0 ∧ t.charge.usbLimit = 500 ∧
       t.gauge.q = 0 ∧ t.gauge.state = .unset ∧ t.gauge.lastStamp = none ∧
       t.media.exch.state = .stopped ∧ t.media.exch.control = 0 ∧ t.media.exch.baseLo = 0 ∧ t.media.exch.baseHi = 0 ∧
       t.pending = s.pending) ∧
  (∀ (s : State) (usb aux : Bool) (c : Instr), c = .coldReset usb aux true ∨ c = .supplyReset usb aux true →
     ∃ t, exec c s = .next t ∧ t.gauge.warning = true ∧ t.media.writer.state = .halted ∧ t.media.exch.flagSet .gauge = true)

/-- COLD_RESET and SUPPLY_RESET at the Power State Controller: the reset record and the power state; and from every content of the store
the options, the block status and the origin: erased is BLANK, a bad check or limits or a table that do not rise are FAILING, both with
the defaults, and anything else is VALID (R186, R188). That the limits are judged after the clamps, and that a store that a reset cut
cannot be read, are the model's (logs 64 and 18). -/
def Obligations.HardResetRecord : Prop :=
  (∀ (s : State) (usb aux low : Bool) (c : Instr), c = .coldReset usb aux low ∨ c = .supplyReset usb aux low →
    ∃ t, exec c s = .next t ∧
      let found := readStore s.power.block (s.power.blockTorn || s.power.storing.isSome)
      t.options = found.2 ∧ t.power.blockStatus = found.1 ∧ t.power.block = s.power.block ∧
        t.power.origin = (if found.1 = .valid then .stored else .defaults) ∧ t.power.settleFast = found.2.fastSettle) ∧
  (∀ block : List Byte,
    let o := (parseCharge block).value
    let check := leNat block 62 2 = (crc16Stored (slice block 0 62)).toNat
    let rises := (o.t1 < o.t2 ∧ o.t2 < o.t3 ∧ o.t3 < o.t4) ∧ strictlyRising o.openCircuit = true
    let erased := ∀ b ∈ block, b = 0xFF#8
    readStore block true = (.failing, .default) ∧ (erased → readStore block false = (.blank, .default)) ∧
      (¬erased → ¬(check ∧ rises) → readStore block false = (.failing, .default)) ∧
      (¬erased → check → rises → readStore block false = (.valid, o))) ∧
  ∀ (s : State) (usb aux : Bool),
    (∃ t, exec (.coldReset usb aux false) s = .next t ∧ t.power.record = ⟨.cold, 0, 0, .none⟩ ∧
      t.power.state = (if usb || aux then .standby else .dormant) ∧ t.power.key.state = .up ∧ t.power.pressCount = 0 ∧
      t.power.cutoffLock = false ∧ t.power.storing = none ∧
      (s.power.block = List.replicate 64 0xFF#8 → s.power.blockTorn = false → s.power.storing = none →
        t.options = .default ∧ t.power.blockStatus = .blank ∧ t.power.origin = .defaults)) ∧
    (∃ t, exec (.supplyReset usb aux false) s = .next t ∧
      t.power.record = ⟨.supply, s.power.record.warmCount, min 255 (s.power.record.supplyCount + 1), .supply⟩ ∧
      t.power.state = (if usb || aux then .standby else .dormant) ∧
      (s.power.storing.isSome = true →
        t.options = .default ∧ t.power.blockStatus = .failing ∧ t.power.origin = .defaults))

/-- WARM_RESET with the rail ON: the clock goes on, intake is over with the profile and bias kept, the integrator is cleared, the
exchange is STOPPED with its registers 0, but for the flags of a dropped protection request and of an input then lost (logs 50 and
71), and the reset record counts it. The Clip Writer drops its chunks, its requests and its read-back, the volume update in flight
goes on with no request's change, and it closes with HOST_RESET, empties its list or drops its tables by its state; the card is
kept, or identified once more from FAULT. Charging and the gauge are kept, but that an open incident window closes, which shortens a
loss debounce. With the rail OFF nothing happens (R12, R32, R46, R69, R83, R92, R131, R149, R151, R167, R178, R179, R188, R191,
R199). That the writer's counts become 0 in UNMOUNTED too is the model's reading (log 68). -/
def Obligations.WarmReset : Prop :=
  ∀ s : State,
    (s.power.state = .run ∨ s.power.state = .shutting →
      ∃ x : State, exec .warmReset s = .next x.settle ∧ x.clock = s.clock ∧ x.integ = .reset ∧
        x.motion.state = (if s.motion.state = .off then .off else .ready) ∧ x.motion.profile = s.motion.profile ∧
        x.motion.bias = s.motion.bias ∧ x.motion.missed = 0 ∧ x.motion.prevStamp = none ∧
        x.media.steady.state = .idle ∧ x.media.steady.frames = [] ∧
        x.media.exch.state = .stopped ∧ x.media.exch.control = 0 ∧ x.media.exch.base = 0 ∧ x.media.exch.torn = 0 ∧
        x.media.exch.handed = [] ∧
        x.incident.window = .quiet ∧ x.incident.requests = [] ∧ x.incident.number = s.incident.number ∧
        x.power.state = s.power.state ∧ x.power.key = s.power.key ∧
        x.power.record = ⟨.warm, min 255 (s.power.record.warmCount + 1), s.power.record.supplyCount,
          s.power.record.lastShutdown⟩ ∧
        x.options = s.options ∧ x.pending = s.pending ∧
        (let w := s.media.writer
         let v := x.media.writer
         v.parked = [] ∧ v.queue = [] ∧ v.held = [] ∧ v.waiting = [] ∧ v.stopSlots = [] ∧ v.readBack = none ∧
           v.stopPending = none ∧ v.starvation = none ∧ v.lastCompletion = w.lastCompletion ∧
           (∀ p, v.wip = some p → p.stage = .writing) ∧
           (w.state = .recording ∨ w.state = .closing ∨ w.state = .idle →
             v.flight = w.flight.map fun f => { f with carried := [] }) ∧
           (w.state = .recording ∨ w.state = .closing →
             v.state = .closing ∧ v.closeCause = some .hostReset ∧ v.hostReset = true) ∧
           (w.state = .idle → v.state = .idle ∧ v.hostReset = true) ∧
           (w.state = .cardLost ∨ w.state = .cardFault ∨ w.state = .mounting ∨ w.state = .formatting →
             v.state = .unmounted ∧ v.mounted = false ∧ v.tables = none ∧ v.expected = 0 ∧ v.keyWait = false) ∧
           (w.state = .halted → v.state = (if s.gauge.warning then .halted else .unmounted) ∧ v.mounted = false ∧
             v.tables = none ∧ v.expected = 0 ∧ v.keyWait = false) ∧
           (w.state = .unmounted → v.state = .unmounted ∧ v.expected = 0 ∧ v.keyWait = false)) ∧
        (let c := s.media.card
         let d := x.media.card
         d.detect = c.detect ∧ d.capacity = c.capacity ∧ d.readErrors = c.readErrors ∧ d.writeErrors = c.writeErrors ∧
           d.timeouts = c.timeouts ∧ d.removals = c.removals ∧ d.readBack = none ∧
           (c.state ≠ .fault → d.state = c.state ∧ d.ident = c.ident ∧ d.fast = c.fast) ∧
           (c.state = .fault → d.state = .identifying ∧ d.ident = some .reset ∧ d.recovery = true ∧ d.fast = false ∧
             d.identWait = some ⟨s.clock.count, 1000000⟩)) ∧
        (let due := fun i : Input => s.incident.window = .incident ∧ ∃ start : Stamp, (s.charge.input i).state = .present ∧
           (s.charge.input i).loss = some start ∧ 20000 ≤ (s.clock.count - start).toInt
         let flag := fun f : AttnFlag => x.media.exch.flagSet f
         ((∀ i : Input, ¬due i) → x.media.exch.attn = if s.incident.requests = [] then 0 else 0x40#11) ∧
           (∀ i : Input, due i → flag .charge = true ∧ (flag .incident = true ↔ s.incident.requests ≠ []) ∧
             ∀ f, f ≠ .charge → f ≠ .incident → f ≠ .gauge → flag f = false)) ∧
        (s.incident.window = .quiet → x.charge = s.charge ∧ x.gauge = s.gauge) ∧
        (s.incident.window = .incident →
          (let due := fun i : Input => ∃ start : Stamp, (s.charge.input i).state = .present ∧
             (s.charge.input i).loss = some start ∧ 20000 ≤ (s.clock.count - start).toInt
           x.charge.windowOpen = false ∧ (∀ i : Input, due i → (x.charge.input i).state = .absent) ∧
             (∀ i : Input, ¬due i → x.charge.input i = s.charge.input i) ∧
             ((∀ i : Input, ¬due i) → x.charge = { s.charge with windowOpen := false } ∧ x.gauge = s.gauge)))) ∧
    (s.power.state = .standby ∨ s.power.state = .dormant ∨ s.power.state = .waking → exec .warmReset s = .next s)

/-! ### LOAD_PROFILE (R198) -/

/-- LOAD_PROFILE of section 0 to 3 reads the section's 64 bytes; of a section above 3 it is refused. SECTION_READ_COMPLETE: a torn
section, one of edition 0, and each of the four sections refused or taken. That the read is issued in every exchange state, also
while not RUNNING, is the model's (log 66) (R15, R16, R47, R70, R84, R153, R168, R171, R186, R198). -/
def Obligations.ProfileSections : Prop :=
  (∀ (s : State) (slot code : Nat) (stamp : Stamp),
     s.media.exch.nextRequest .exchange = some ⟨slot, .loadProfile code, stamp⟩ →
     let t := s.modExch fun e => e.requestTakenBy .exchange
     (code ≤ 3 → exec .loadProfile s = .next (t.modExch fun e => { e with
       transfers := e.transfers ++
         [⟨.profileSection slot code, e.base + (0x1400 + 64 * code), none, 64, s.clock.count⟩] })) ∧
     (3 < code → exec .loadProfile s = .next (t.answer slot .refusedParam))) ∧
  (∀ (s : State) (n slot code : Nat) (bs : List Byte),
     (s.media.exch.transferAt n).map Transfer.purpose = some (.profileSection slot code) →
     let t := s.modExch fun e => e.dropTransfer n
     let taken := fun (x : State) (clamped : Bool) => (x.answer slot { Answer.done with clamped := clamped }).settle
     (editionAt bs 0 ≠ editionAt bs 62 →
       exec (.sectionReadComplete n bs) s =
         .next ((t.modExch fun e => { e with torn := min 65535 (e.torn + 1) }).answer slot (.failed .torn)).settle) ∧
     (editionAt bs 0 = editionAt bs 62 → editionAt bs 0 = 0 →
       exec (.sectionReadComplete n bs) s = .next (t.answer slot .refusedParam).settle) ∧
     (editionAt bs 0 = editionAt bs 62 → editionAt bs 0 ≠ 0 →
       (code = 0 →
         (s.motion.state = .running →
           exec (.sectionReadComplete n bs) s = .next (t.answer slot .refusedState).settle) ∧
         (s.motion.state ≠ .running → motionStructureOk bs = false →
           exec (.sectionReadComplete n bs) s = .next (t.answer slot .refusedParam).settle) ∧
         (s.motion.state ≠ .running → motionStructureOk bs = true →
           let q := (parseMotion bs).value
           exec (.sectionReadComplete n bs) s = .next (taken { t with motion := { s.motion with
             state := .ready, profile := some q, bias := q.initialBias, stillRun := 0
             clockHigh := if s.motion.activity = .idle then q.port.idleHigh else s.motion.clockHigh } }
             (parseMotion bs).clamped))) ∧
       (code = 1 →
         (steadyStructureOk bs = false →
           exec (.sectionReadComplete n bs) s = .next (t.answer slot .refusedParam).settle) ∧
         (steadyStructureOk bs = true →
           let m : Media := { t.media with steady := { t.media.steady with profile := (parseSteady bs).value } }
           exec (.sectionReadComplete n bs) s = .next (taken
             { t with media := if (parseSteady bs).value.track then m else m.flush } (parseSteady bs).clamped))) ∧
       (code = 2 →
         (s.media.writer.state.takesProfile = false →
           exec (.sectionReadComplete n bs) s = .next (t.answer slot .refusedState).settle) ∧
         (s.media.writer.state.takesProfile = true →
           4294967296 < areaEnd (parseVolume bs).value.firstSector (parseVolume bs).value.segmentSize
               (parseVolume bs).value.segmentCount →
           exec (.sectionReadComplete n bs) s = .next (t.answer slot .refusedParam).settle) ∧
         (s.media.writer.state.takesProfile = true →
           areaEnd (parseVolume bs).value.firstSector (parseVolume bs).value.segmentSize
               (parseVolume bs).value.segmentCount ≤ 4294967296 →
           exec (.sectionReadComplete n bs) s = .next (taken
             { t with
               media := { t.media with writer := { t.media.writer with profile := (parseVolume bs).value } }
               incident := { s.incident with settings := (parseIncident bs).value, shockRun := 0, runPeak := 0 } }
             ((parseVolume bs).clamped || (parseIncident bs).clamped)))) ∧
       (code = 3 →
         let o := (parseCharge bs).value
         ((limitsOrdered o && strictlyRising o.openCircuit) = false →
           exec (.sectionReadComplete n bs) s = .next (t.answer slot .refusedParam).settle) ∧
         ((limitsOrdered o && strictlyRising o.openCircuit) = true →
           exec (.sectionReadComplete n bs) s = .next (taken
             { t with
               options := o
               charge := { s.charge with cap := s.charge.formCap o, ic := min s.charge.ic (s.charge.formCap o) }
               gauge := s.gauge.newCapacity s.options o
               power := { s.power with origin := .loaded } }
             (parseCharge bs).clamped)))))

/-- Whatever a section's 64 bytes hold, the values taken lie in the ranges of their tables: a numeric field outside its range takes
the nearest end, a stepped field the largest allowed value not above it. A section is taken without CLAMPED exactly when each of its
numeric and stepped fields holds the value written; the codes, the first sector, the open-circuit table and the two option flags are
taken as written. The structure of the motion and the steady section, the order of the temperature limits and the rise of the table
are those of the rules (R15, R16, R47, R70, R84, R153, R168). -/
def Obligations.LoadedValuesInRange : Prop :=
  ∀ bs : List Byte,
    (let q := (parseMotion bs).value
     q.port.clockCode ≤ 3 ∧ q.dataAddress ≤ 127 ∧ (q.nominalRate = 500 ∨ q.nominalRate = 1000 ∨ q.nominalRate = 2000) ∧
       (q.fullScale = 500 ∨ q.fullScale = 1000 ∨ q.fullScale = 2000) ∧
       (q.accelScale = 4 ∨ q.accelScale = 8 ∨ q.accelScale = 16) ∧
       q.initialBias.yaw.natAbs ≤ 65536 ∧ q.initialBias.pitch.natAbs ≤ 65536 ∧ q.initialBias.roll.natAbs ≤ 65536 ∧
       q.stillThreshold ≤ 65535 ∧ 1 ≤ q.stillRun ∧ q.stillRun ≤ 65535) ∧
    (let p := (parseSteady bs).value
     200 ≤ p.focal ∧ p.focal ≤ 8000 ∧ p.marginX ≤ 1024 ∧ p.marginY ≤ 1024 ∧ p.rollLimit ≤ 15000 ∧ 1 ≤ p.follow ∧
       p.follow ≤ 256) ∧
    (let v := (parseVolume bs).value
     (v.segmentSize = 2048 ∨ v.segmentSize = 4096 ∨ v.segmentSize = 8192 ∨ v.segmentSize = 16384) ∧ 16 ≤ v.segmentCount ∧
       v.segmentCount ≤ 1024 ∧ 10 ≤ v.clipSeconds ∧ v.clipSeconds ≤ 3600 ∧ 1 ≤ v.gapWait ∧ v.gapWait ≤ 16 ∧
       1 ≤ v.starvationSeconds ∧ v.starvationSeconds ≤ 30) ∧
    (let i := (parseIncident bs).value
     1 ≤ i.threshold ∧ i.threshold ≤ 98304 ∧ 1 ≤ i.runLength ∧ i.runLength ≤ 8 ∧ 1 ≤ i.windowSeconds ∧
       i.windowSeconds ≤ 60 ∧ i.lookbackSeconds ≤ 120) ∧
    (let o := (parseCharge bs).value
     4000 ≤ o.vreg ∧ o.vreg ≤ 4400 ∧ 100 ≤ o.icc ∧ o.icc ≤ 3000 ∧ 50 ≤ o.prechargeCurrent ∧ o.prechargeCurrent ≤ 500 ∧
       20 ≤ o.terminationCurrent ∧ o.terminationCurrent ≤ 500 ∧ 5 ≤ o.prechargeMinutes ∧ o.prechargeMinutes ≤ 120 ∧
       60 ≤ o.totalMinutes ∧ o.totalMinutes ≤ 720 ∧ (∀ t ∈ [o.t1, o.t2, o.t3, o.t4], -20 ≤ t ∧ t ≤ 80) ∧
       100 ≤ o.recordingCap ∧ o.recordingCap ≤ 3000 ∧ 100 ≤ o.auxLimit ∧ o.auxLimit ≤ 3000 ∧
       o.auxLimit % 50 = 0 ∧ 6000 ≤ o.auxSag ∧ o.auxSag ≤ 20000 ∧ 200 ≤ o.capacity ∧ o.capacity ≤ 5000 ∧
       3000 ≤ o.emptyVoltage ∧ o.emptyVoltage ≤ 3600 ∧ o.cutoffVoltage ≤ o.emptyVoltage ∧
       2900 ≤ o.cutoffVoltage ∧ o.reserve ≤ 300 ∧ o.openCircuit.length = 11 ∧ ∀ v ∈ o.openCircuit, v < 65536) ∧
    ((parseSteady bs).clamped = false ↔
      let p := (parseSteady bs).value
      p.focal = leNat bs 4 2 ∧ p.marginX = leNat bs 6 2 ∧ p.marginY = leNat bs 8 2 ∧ p.rollLimit = leNat bs 10 2 ∧
        p.follow = leNat bs 12 2) ∧
    ((parseIncident bs).clamped = false ↔
      let i := (parseIncident bs).value
      i.threshold = leNat bs 28 4 ∧ i.runLength = (byteAt bs 24).toNat ∧ i.windowSeconds = (byteAt bs 22).toNat ∧
        i.lookbackSeconds = (byteAt bs 23).toNat) ∧
    ((parseMotion bs).clamped = false ↔
      let q := (parseMotion bs).value
      q.port.clockCode = (byteAt bs 4).toNat ∧ q.dataAddress = (byteAt bs 7).toNat ∧ q.nominalRate = leNat bs 8 2 ∧
        q.fullScale = leNat bs 10 2 ∧ q.accelScale = (byteAt bs 12).toNat ∧
        q.initialBias = ⟨leInt bs 20 4, leInt bs 24 4, leInt bs 28 4⟩ ∧ q.stillThreshold = leNat bs 32 4 ∧
        q.stillRun = leNat bs 36 4) ∧
    ((parseVolume bs).clamped = false ↔
      let v := (parseVolume bs).value
      v.segmentSize = leNat bs 8 4 ∧ v.segmentCount = leNat bs 12 4 ∧ (v.clipSeconds : Int) = leInt bs 16 4 ∧
        v.gapWait = (byteAt bs 20).toNat ∧ v.starvationSeconds = (byteAt bs 21).toNat) ∧
    ((parseCharge bs).clamped = false ↔
      let o := (parseCharge bs).value
      o.vreg = leNat bs 4 2 ∧ o.icc = leNat bs 6 2 ∧ o.prechargeCurrent = leNat bs 8 2 ∧ o.terminationCurrent = leNat bs 10 2 ∧
        o.prechargeMinutes = leNat bs 12 2 ∧ o.totalMinutes = leNat bs 14 2 ∧ o.t1 = leInt bs 16 1 ∧ o.t2 = leInt bs 17 1 ∧
        o.t3 = leInt bs 18 1 ∧ o.t4 = leInt bs 19 1 ∧ o.recordingCap = leNat bs 20 2 ∧ o.auxLimit = leNat bs 22 2 ∧
        o.auxSag = leNat bs 24 2 ∧ o.capacity = leNat bs 26 2 ∧ o.emptyVoltage = leNat bs 28 2 ∧
        o.cutoffVoltage = leNat bs 30 2 ∧ o.reserve = leNat bs 32 2) ∧
    (parseVolume bs).value.firstSector = leNat bs 4 4 ∧
    (parseCharge bs).value.openCircuit = [leNat bs 34 2, leNat bs 36 2, leNat bs 38 2, leNat bs 40 2, leNat bs 42 2, leNat bs 44 2,
      leNat bs 46 2, leNat bs 48 2, leNat bs 50 2, leNat bs 52 2, leNat bs 54 2] ∧
    (motionStructureOk bs = true →
      let q := (parseMotion bs).value
      q.port.idleHigh = (byteAt bs 5).getLsbD 0 ∧ q.port.captureSecond = (byteAt bs 6).getLsbD 0 ∧
        ∀ a ∈ [(q.axisMap.yaw, 13), (q.axisMap.pitch, 15), (q.axisMap.roll, 17)],
          a.1.source = (byteAt bs a.2).toNat ∧ a.1.negative = (byteAt bs (a.2 + 1)).getLsbD 0) ∧
    (steadyStructureOk bs = true →
      let p := (parseSteady bs).value
      p.enable = ⟨(byteAt bs 14).getLsbD 0, (byteAt bs 15).getLsbD 0, (byteAt bs 16).getLsbD 0⟩ ∧
        p.track = (byteAt bs 17).getLsbD 0) ∧
    (parseCharge bs).value.autoOn = (byteAt bs 56).getLsbD 0 ∧ (parseCharge bs).value.fastSettle = (byteAt bs 56).getLsbD 1 ∧
    (let nearest := fun (low high raw v : Int) => v = if raw < low then low else if high < raw then high else raw
     let stepped := fun (allowed : List Nat) (low raw v : Nat) =>
       v ∈ allowed ∧ (raw < low → v = low) ∧ (low ≤ raw → v ≤ raw) ∧ ∀ k ∈ allowed, k ≤ raw → k ≤ v
     (let q := (parseMotion bs).value
      nearest 0 3 (byteAt bs 4).toNat q.port.clockCode ∧ nearest 0 127 (byteAt bs 7).toNat q.dataAddress ∧
        stepped [500, 1000, 2000] 500 (leNat bs 8 2) q.nominalRate ∧ stepped [500, 1000, 2000] 500 (leNat bs 10 2) q.fullScale ∧
        stepped [4, 8, 16] 4 (byteAt bs 12).toNat q.accelScale ∧ nearest (-65536) 65536 (leInt bs 20 4) q.initialBias.yaw ∧
        nearest (-65536) 65536 (leInt bs 24 4) q.initialBias.pitch ∧ nearest (-65536) 65536 (leInt bs 28 4) q.initialBias.roll ∧
        nearest 0 65535 (leNat bs 32 4) q.stillThreshold ∧ nearest 1 65535 (leNat bs 36 4) q.stillRun) ∧
     (let p := (parseSteady bs).value
      nearest 200 8000 (leNat bs 4 2) p.focal ∧ nearest 0 1024 (leNat bs 6 2) p.marginX ∧ nearest 0 1024 (leNat bs 8 2) p.marginY ∧
        nearest 0 15000 (leNat bs 10 2) p.rollLimit ∧ nearest 1 256 (leNat bs 12 2) p.follow) ∧
     (let v := (parseVolume bs).value
      stepped [2048, 4096, 8192, 16384] 2048 (leNat bs 8 4) v.segmentSize ∧ nearest 16 1024 (leNat bs 12 4) v.segmentCount ∧
        nearest 10 3600 (leInt bs 16 4) v.clipSeconds ∧ nearest 1 16 (byteAt bs 20).toNat v.gapWait ∧
        nearest 1 30 (byteAt bs 21).toNat v.starvationSeconds) ∧
     (let i := (parseIncident bs).value
      nearest 1 98304 (leNat bs 28 4) i.threshold ∧ nearest 1 8 (byteAt bs 24).toNat i.runLength ∧
        nearest 1 60 (byteAt bs 22).toNat i.windowSeconds ∧ nearest 0 120 (byteAt bs 23).toNat i.lookbackSeconds) ∧
     (let o := (parseCharge bs).value
      let raw := fun place : Nat => (leNat bs place 2 : Int)
      nearest 4000 4400 (raw 4) o.vreg ∧ nearest 100 3000 (raw 6) o.icc ∧ nearest 50 500 (raw 8) o.prechargeCurrent ∧
        nearest 20 500 (raw 10) o.terminationCurrent ∧ nearest 5 120 (raw 12) o.prechargeMinutes ∧
        nearest 60 720 (raw 14) o.totalMinutes ∧ nearest (-20) 80 (leInt bs 16 1) o.t1 ∧ nearest (-20) 80 (leInt bs 17 1) o.t2 ∧
        nearest (-20) 80 (leInt bs 18 1) o.t3 ∧ nearest (-20) 80 (leInt bs 19 1) o.t4 ∧ nearest 100 3000 (raw 20) o.recordingCap ∧
        (∃ whole : Nat, nearest 100 3000 (raw 22) whole ∧ o.auxLimit = whole - whole % 50) ∧ nearest 6000 20000 (raw 24) o.auxSag ∧
        nearest 200 5000 (raw 26) o.capacity ∧ nearest 3000 3600 (raw 28) o.emptyVoltage ∧
        nearest 2900 o.emptyVoltage (raw 30) o.cutoffVoltage ∧ nearest 0 300 (raw 32) o.reserve ∧
        (limitsOrdered o = true ↔ o.t1 < o.t2 ∧ o.t2 < o.t3 ∧ o.t3 < o.t4) ∧
        (strictlyRising o.openCircuit = true ↔ o.openCircuit.Pairwise (· < ·)))) ∧
    (motionStructureOk bs = true ↔ (∀ place ∈ [5, 6, 14, 16, 18], (byteAt bs place).toNat ≤ 1) ∧
      (∀ place ∈ [13, 15, 17], (byteAt bs place).toNat ≤ 2) ∧ byteAt bs 13 ≠ byteAt bs 15 ∧ byteAt bs 13 ≠ byteAt bs 17 ∧
      byteAt bs 15 ≠ byteAt bs 17) ∧
    (steadyStructureOk bs = true ↔ ∀ place ∈ [14, 15, 16, 17], (byteAt bs place).toNat ≤ 1)

/-! ### The Motion Port (spec/02) -/

/-- START_MOTION: in READY with nothing in flight and the rail ON intake starts, with the integrator SEEDING and the engine ACTIVE; in
any other case it is refused (R17, R20, R31, R34, R48). That a burst left in flight by a WARM reset refuses it too, and that a
request taken after the rail went off is refused, are the model's (logs 26 and 46). -/
def Obligations.StartMotion : Prop :=
  ∀ (s : State) (slot : Nat) (first : Word32) (stamp : Stamp),
    s.media.exch.nextRequest .motion = some ⟨slot, .startMotion first, stamp⟩ →
    let t := s.modExch fun e => e.requestTakenBy .motion
    let on := s.power.state = .run ∨ s.power.state = .shutting
    (s.motion.state = .ready → s.motion.activity = .idle → on →
      exec .startMotion s = .next (({ t with
        motion := { s.motion with
          state := .running, missed := 0, lostTotal := 0, stampFaults := 0, prevStamp := none, seedWaiting := true
          stillRun := 0, learning := if s.motion.windowOpen then .suspended else .settling }
        integ := ⟨.seeding, ⟨0, 0, 0⟩, ⟨0, 0, 0⟩, none, [], 0, 0⟩
        media := { t.media with steady := { s.media.steady with
          state := .active, frameCounter := first - 1, frames := [], headStage := .none, head := none, seeded := false
          path := ⟨0, 0, 0⟩, heldSheet := ⟨1, 0, 1⟩, skippedTotal := 0, heldTotal := 0, lastComputed := none } } } :
        State).answer slot .done)) ∧
    (s.motion.state ≠ .ready ∨ s.motion.activity ≠ .idle ∨ ¬on → exec .startMotion s = .next (t.answer slot .refusedState))

/-- STOP_MOTION: with no burst in flight intake ends at once, with one the request waits for its end, and outside RUNNING it is
answered DONE (R18). -/
def Obligations.StopMotion : Prop :=
  ∀ (s : State) (slot : Nat) (stamp : Stamp),
    s.media.exch.nextRequest .motion = some ⟨slot, .stopMotion, stamp⟩ →
    let t := s.modExch fun e => e.requestTakenBy .motion
    (s.motion.state = .running → s.motion.activity ≠ .burst → s.motion.stopSlots = [] →
      exec .stopMotion s = .next (({ t with
        motion := { s.motion with
          state := .ready, stopWaiting := false, missed := 0, prevStamp := none, seedWaiting := false, stillRun := 0 }
        integ := { s.integ with state := .idle }
        media := { t.media with
          steady := { s.media.steady with state := .idle, frames := [], headStage := .none, head := none }
          exch := t.media.exch.mapPurposes Purpose.withoutSheet }
        incident := { s.incident with shockRun := 0, runPeak := 0 } } : State).answer slot .done)) ∧
    (s.motion.state = .running → s.motion.activity = .burst →
      exec .stopMotion s = .next { t with motion := { s.motion with
        stopWaiting := true, stopSlots := s.motion.stopSlots ++ [slot] } }) ∧
    (s.motion.state ≠ .running → exec .stopMotion s = .next (t.answer slot .done))

/-- IMU_TRANSFER and TRANSFER_END: the transfer begins with the select line low and the settings in force, and ends with an answer
of as many in bytes as out bytes, the lines at rest; a bad length or a wrong state is refused, as is one with the rail OFF. Over a
transfer of n bytes the lines go through 8n + 2 clock periods with the select line low, the clock leaves its idle level and comes
back in each bit period and rests in the first and the last period, each outgoing bit, the most significant of a byte first, stands
before and after its capture edge, and the bytes taken are the levels at the capture edges, whatever the line does at the other
edges (R13, R14, R19, R20, R31). The state is judged before the length (log 33), a burst left by a WARM reset refuses (log 26), the
rail is judged at the taking (log 46), an end with no transfer does nothing (log 3), and the level before the first bit is the
model's (log 45). -/
def Obligations.ImuTransfer : Prop :=
  (∀ (s : State) (slot count : Nat) (out : List Byte) (stamp : Stamp),
    s.media.exch.nextRequest .motion = some ⟨slot, .imuTransfer count out, stamp⟩ →
    let t := s.modExch fun e => e.requestTakenBy .motion
    let free := s.motion.state = .ready ∧ s.motion.activity = .idle ∧ (s.power.state = .run ∨ s.power.state = .shutting)
    (free → 1 ≤ count → count ≤ 16 →
      exec .imuTransfer s = .next { t with motion := { s.motion with
        activity := .transfer, selectHigh := false, inFlight := s.motion.profile.map MotionProfile.port, outBytes := out
        dataHigh := s.motion.profile.elim false fun q => !q.port.captureSecond && (serialBits out).headD false
        transferSlot := some slot } }) ∧
    (free → count = 0 ∨ 16 < count → exec .imuTransfer s = .next (t.answer slot .refusedParam)) ∧
    (¬free → exec .imuTransfer s = .next (t.answer slot .refusedState))) ∧
  (∀ (s : State) (bytes : List Byte),
    (∀ (q : MotionProfile) (slot : Nat), s.motion.activity = .transfer → s.motion.profile = some q →
      s.motion.transferSlot = some slot →
      exec (.transferEnd bytes) s = .next (({ s with motion := { s.motion with
        activity := .idle, selectHigh := true, clockHigh := q.port.idleHigh, dataHigh := false, inFlight := none
        outBytes := [], transferSlot := none } } : State).answer slot
          { Answer.done with data := slice bytes 0 s.motion.outBytes.length })) ∧
    (s.motion.activity ≠ .transfer → exec (.transferEnd bytes) s = .next s)) ∧
  (∀ (p : PortSettings) (out : List Byte) (other : Bool),
    (p.transferLines out).length = 2 * (8 * out.length + 2) ∧ (∀ l ∈ p.transferLines out, l.selectHigh = false) ∧
    (∀ (j : Nat) (l : PortLines), (p.transferLines out)[j]? = some l →
      l.clockHigh = (p.idleHigh ^^ decide (2 ≤ j ∧ j < 2 + 16 * out.length ∧ j % 2 = 0)) ∧
      ∀ k < 8 * out.length, j = 2 + 2 * k ∨ j = (if p.captureSecond then 3 + 2 * k else 1 + 2 * k) →
        l.dataHigh = (byteAt out (k / 8)).getLsbD (7 - k % 8)) ∧
    (p.transferLines out).getLast? = some ⟨false, p.idleHigh, p.captureSecond && (serialBits out).getLastD false⟩ ∧
    p.taken ((serialBits out).map fun b => if p.captureSecond then (other, b) else (b, other)) out.length = out)

/-- DATA_READY_EDGE by the table of R21: ignored, the start of a burst of 13 bytes with its stamp, or a missed sample; with the rail OFF
it is ignored (R21, R31). The level of the data line before the first bit is the model's (log 45). -/
def Obligations.DataReadyEdge : Prop :=
  ∀ s : State,
    let on := s.power.state = .run ∨ s.power.state = .shutting
    (¬on → exec .dataReadyEdge s = .next s) ∧
    (s.motion.state ≠ .running → exec .dataReadyEdge s = .next s) ∧
    (s.motion.state = .running → s.motion.stopWaiting = true → s.motion.activity = .burst →
      exec .dataReadyEdge s = .next s) ∧
    (∀ q : MotionProfile, on → s.motion.profile = some q → s.motion.state = .running → s.motion.stopWaiting = false →
      s.motion.activity = .idle →
      exec .dataReadyEdge s = .next { s with motion := { s.motion with
        activity := .burst, selectHigh := false, inFlight := some q.port
        dataHigh := !q.port.captureSecond && (BitVec.ofNat 8 (q.dataAddress + 0x80)).getLsbD 7
        outBytes := BitVec.ofNat 8 (q.dataAddress + 0x80) :: List.replicate 12 0, burstStamp := s.clock.count } }) ∧
    (on → s.motion.state = .running → s.motion.stopWaiting = false → s.motion.activity = .burst →
      exec .dataReadyEdge s = .next { s with motion := { s.motion with
        missed := min 255 (s.motion.missed + 1), lostTotal := min 4294967295 (s.motion.lostTotal + 1) } })

/-- BURST_END: the record is formed from the 12 bytes after the first, high byte first, by the axis map with its signs, SAT of the
source axis, and the missed count, SEED and bias as they stand; a record whose stamp is later is handed on to the integrator, the
still test and the Incident Monitor; one that opens an incident suspends learning, before its own still test or after it as the
operand says (log 6); one that is not later is a stamp fault; a waiting stop ends intake: the port is READY, the integrator, the
engine and the shock run stop, and the requests that waited are answered in the order in which they came, which is the model's (log
75); out of RUNNING the bytes are discarded (R18, R22, R24 to R26, R29, R32, R71 to R73). -/
def Obligations.BurstEnd : Prop :=
  ∀ (s : State) (bytes : List Byte) (first : Bool), s.motion.activity = .burst →
    let ended : MotionPort := { s.motion with
      activity := .idle, selectHigh := true, clockHigh := s.motion.idleLevel, dataHigh := false, inFlight := none, outBytes := [] }
    (∀ q : MotionProfile, s.motion.state = .running → s.motion.stopWaiting = false → s.motion.profile = some q →
      let r := s.motion.sample q.axisMap bytes
      let l1 := r.accel.yaw.natAbs + r.accel.pitch.natAbs + r.accel.roll.natAbs
      let value := fun at_ : Nat => (BitVec.ofNat 16 (256 * (byteAt bytes at_).toNat + (byteAt bytes (at_ + 1)).toNat)).toInt
      let axis := fun (start : Nat) (a : AxisSource) =>
        if a.negative then -value (start + 2 * a.source) else value (start + 2 * a.source)
      let full := fun a : AxisSource => decide (value (1 + 2 * a.source) = 32767 ∨ value (1 + 2 * a.source) = -32768)
      let m := q.axisMap
      r = ⟨s.motion.burstStamp, ⟨axis 1 m.yaw, axis 1 m.pitch, axis 1 m.roll⟩, ⟨axis 7 m.yaw, axis 7 m.pitch, axis 7 m.roll⟩,
        s.motion.missed, ⟨full m.yaw, full m.pitch, full m.roll⟩, s.motion.seedWaiting, s.motion.bias⟩ ∧
      (s.motion.prevStamp.all (stampLater s.motion.burstStamp) = true → l1 < s.incident.settings.threshold →
        let given : State := { s with
          motion := { ended with prevStamp := some s.motion.burstStamp, missed := 0, seedWaiting := false }
          integ := s.integ.take q (1000000 / q.nominalRate) r }
        exec (.burstEnd bytes first) s = .next ({ given with
          motion := given.motion.stillTest q r
          media := s.media.historyNotice s.env given.orientation s.motion.burstStamp
          incident := { s.incident with shockRun := 0, runPeak := 0 } } : State).settle) ∧
      (s.motion.prevStamp.all (stampLater s.motion.burstStamp) = true → s.incident.settings.threshold ≤ l1 →
        let given : State := { s with
          motion := { ended with prevStamp := some s.motion.burstStamp, missed := 0, seedWaiting := false }
          integ := s.integ.take q (1000000 / q.nominalRate) r }
        let media := s.media.historyNotice s.env given.orientation s.motion.burstStamp
        let opens := s.incident.settings.runLength ≤ s.incident.shockRun + 1 ∧ s.incident.window = .quiet
        (opens → exec (.burstEnd bytes first) s = .next ({ given with
          motion := { given.motion with
            windowOpen := true, stillRun := 0, learning := .suspended
            bias := if first then s.motion.bias else (given.motion.stillTest q r).bias }
          media := media
          incident := (s.incidentSample r).incident
          charge := { s.charge with windowOpen := true } } : State).settle) ∧
        (¬opens → exec (.burstEnd bytes first) s = .next ({ given with
          motion := given.motion.stillTest q r
          media := media
          incident := (s.incidentSample r).incident } : State).settle)) ∧
      (s.motion.prevStamp.all (stampLater s.motion.burstStamp) = false →
        exec (.burstEnd bytes first) s = .next ({ s with motion := { ended with
          missed := min 255 (s.motion.missed + 1), lostTotal := min 4294967295 (s.motion.lostTotal + 1)
          stampFaults := min 65535 (s.motion.stampFaults + 1) } } : State).settle)) ∧
    (s.motion.state = .running → s.motion.stopWaiting = true →
      exec (.burstEnd bytes first) s = .next (s.motion.stopSlots.foldl (fun (x : State) slot => x.answer slot .done) { s with
        motion := { ended with
          state := .ready, stopWaiting := false, missed := 0, prevStamp := none, seedWaiting := false, stillRun := 0
          stopSlots := [] }
        integ := { s.integ with state := .idle }
        media := { s.media with
          steady := { s.media.steady with state := .idle, frames := [], headStage := .none, head := none }
          exch := s.media.exch.mapPurposes Purpose.withoutSheet }
        incident := { s.incident with shockRun := 0, runPeak := 0 } }).settle) ∧
    (s.motion.state ≠ .running →
      exec (.burstEnd bytes first) s = .next ({ s with motion := ended } : State).settle)

/-- The still test by the table of R27, and the bias that a still sample in LEARNING leaves: it stays within ±65,536, never moves
further from the reading, and stays put within 256 sixteenths of it (R27, R28). What the bias cannot do is what follows from R28. -/
def Obligations.BiasLearning : Prop :=
  (∀ (p : MotionPort) (q : MotionProfile) (r : Sample),
    let still := (r.gyro.yaw * 16 - p.bias.yaw).natAbs ≤ q.stillThreshold ∧
      (r.gyro.pitch * 16 - p.bias.pitch).natAbs ≤ q.stillThreshold ∧
      (r.gyro.roll * 16 - p.bias.roll).natAbs ≤ q.stillThreshold
    (p.learning = .suspended → p.stillTest q r = p) ∧
    (p.learning = .settling → still → p.stillTest q r = { p with
      stillRun := min 65535 (p.stillRun + 1)
      learning := if q.stillRun ≤ p.stillRun + 1 then .learning else .settling }) ∧
    (p.learning = .settling → ¬still → p.stillTest q r = { p with stillRun := 0 }) ∧
    (p.learning = .learning → still → p.stillTest q r = { p with
      stillRun := min 65535 (p.stillRun + 1)
      bias := ⟨learnBias r.gyro.yaw p.bias.yaw, learnBias r.gyro.pitch p.bias.pitch, learnBias r.gyro.roll p.bias.roll⟩ }) ∧
    (p.learning = .learning → ¬still → p.stillTest q r = { p with stillRun := 0, learning := .settling })) ∧
  (∀ raw bias : Int, -65536 ≤ bias → bias ≤ 65536 →
    learnBias raw bias = max (-65536) (min 65536 (bias + (raw * 16 - bias).tdiv 256)) ∧
    (learnBias raw bias).natAbs ≤ 65536 ∧ (raw * 16 - learnBias raw bias).natAbs ≤ (raw * 16 - bias).natAbs ∧
    ((raw * 16 - bias).natAbs < 256 → learnBias raw bias = bias))

/-! ### The Orientation Integrator (spec/03) -/

/-- One axis's step is exact: what truncation leaves out of the increment is the carry, of the numerator's sign and below 524,288, and
θ keeps its range; over any run of steps nothing is lost, whole turns apart (R39). A sample taken seeds the integrator, or is
integrated over the time since the last one, or over one nominal period after a GAP, and joins the history with its flags and the
totals (R35 to R38, R40). -/
def Obligations.StepsLoseNothing : Prop :=
  (∀ n theta : Int, n.natAbs ≤ 2 ^ 45 → -180000000 ≤ theta → theta < 180000000 →
    let r := stepAxis n theta
    r.2.natAbs < 524288 ∧ 0 ≤ n * r.2 ∧ -180000000 ≤ r.1 ∧ r.1 < 180000000 ∧
      ∃ turns : Int, r.1 * 524288 + r.2 = theta * 524288 + n + turns * (360000000 * 524288)) ∧
  (∀ (products : List Int) (theta carry : Int),
    let r := products.foldl (fun (a : Int × Int) p => stepAxis (p + a.2) a.1) (theta, carry)
    ∃ turns : Int, r.1 * 524288 + r.2 = theta * 524288 + carry + products.sum + turns * (360000000 * 524288)) ∧
  (∀ (g : Integrator) (q : MotionProfile) (period : Nat) (s : Sample),
    let sat := s.sat.yaw || s.sat.pitch || s.sat.roll
    let total := if sat then min 65535 (g.satTotal + 1) else g.satTotal
    let joined := fun e : HistoryEntry => (g.history ++ [e]).drop (g.history.length + 1 - 128)
    (g.state = .idle → g.take q period s = g) ∧
    (g.state = .seeding ∨ (g.state = .integrating ∧ g.lastStamp = none) → g.take q period s = { g with
      state := .integrating, lastStamp := some s.stamp, satTotal := total
      history := joined ⟨s.stamp, g.theta, false, sat, decide (0 < s.missedBefore)⟩ }) ∧
    (∀ last : Stamp, g.state = .integrating → g.lastStamp = some last →
      let dt := (s.stamp - last).toInt
      let gap := decide ((4 * period : Nat) < dt)
      let used : Int := if gap then period else dt
      let axis := fun raw bias carry theta : Int => stepAxis ((raw * 16 - bias) * q.fullScale * used + carry) theta
      let yaw := axis s.gyro.yaw s.bias.yaw g.carry.yaw g.theta.yaw
      let pitch := axis s.gyro.pitch s.bias.pitch g.carry.pitch g.theta.pitch
      let roll := axis s.gyro.roll s.bias.roll g.carry.roll g.theta.roll
      g.take q period s = { g with
        theta := ⟨yaw.1, pitch.1, roll.1⟩, carry := ⟨yaw.2, pitch.2, roll.2⟩, lastStamp := some s.stamp, satTotal := total
        gapTotal := if gap then min 65535 (g.gapTotal + 1) else g.gapTotal
        history := joined ⟨s.stamp, ⟨yaw.1, pitch.1, roll.1⟩, gap, sat, decide (0 < s.missedBefore)⟩ }))

/-- A lookup answers each time: 0 with SHORT and HELD on an empty history, the oldest entry with SHORT before it, the newest with HELD
at or after it, and between two entries the interpolation with the later entry's flags, which at a stamp is that entry's θ (R42,
R43). -/
def Obligations.Lookup : Prop :=
  ∀ t : Stamp,
    lookup [] t = ⟨⟨0, 0, 0⟩, true, true, false, false, false⟩ ∧
    (∀ (a : HistoryEntry) (rest : List HistoryEntry), 0 < (a.stamp - t).toInt →
      lookup (a :: rest) t = ⟨a.theta, true, false, a.gap, a.sat, a.missed⟩) ∧
    (∀ (older : List HistoryEntry) (a : HistoryEntry), (∀ e ∈ older ++ [a], (e.stamp - t).toInt ≤ 0) →
      lookup (older ++ [a]) t = ⟨a.theta, false, true, a.gap, a.sat, a.missed⟩) ∧
    (∀ (older later : List HistoryEntry) (a b : HistoryEntry), (∀ e ∈ older ++ [a], (e.stamp - t).toInt ≤ 0) →
      0 < (b.stamp - t).toInt →
      let share := fun x y : Int =>
        angleSum x ((angleDiff y x * (t - a.stamp).toInt).tdiv (b.stamp - a.stamp).toInt)
      lookup (older ++ a :: b :: later) t =
        ⟨⟨share a.theta.yaw b.theta.yaw, share a.theta.pitch b.theta.pitch, share a.theta.roll b.theta.roll⟩,
          false, false, b.gap, b.sat, b.missed⟩ ∧
        (t = a.stamp → Safety.OnAxes Safety.AngleInRange a.theta → (lookup (older ++ a :: b :: later) t).theta = a.theta))

/-! ### The Steadying Engine (spec/04) -/

/-- FRAME_START in ACTIVE: the frame joins the list, its sheet's read begins when it is alone and the exchange runs, and where the
exchange does not run it takes the held sheet values at once, and with four frames waiting it is skipped, its entry SKIPPED with
nothing else and the held band count; in IDLE the engine takes no notice. A pickup becomes due in each case: while the exchange runs
it begins with the read of the request board and sets the period wait anew, or is held while one is in progress and begins when that
one ends (R49, R50, R194). An expiry that has fallen by then and has not been taken is owed: that is the model's reading (log 65). -/
def Obligations.FrameStart : Prop :=
  ∀ s : State,
    let n := s.media.steady.frameCounter + 1
    let due := fun m : Media => ({ s with media := { m with exch := m.exch.pickupDue s.clock.count } } : State).settle
    (s.media.steady.state = .active → s.media.steady.frames ≠ [] → s.media.steady.frames.length < 4 →
      exec .frameStart s = .next (due { s.media with steady := { s.media.steady with
        frameCounter := n, frames := s.media.steady.frames ++ [⟨n, s.clock.count⟩] } })) ∧
    (s.media.steady.state = .active → s.media.steady.frames = [] → s.media.steady.headStage = .none →
      s.media.exch.state = .running →
      exec .frameStart s = .next (due { s.media with
        steady := { s.media.steady with frameCounter := n, frames := [⟨n, s.clock.count⟩], headStage := .reading }
        exch := { s.media.exch with transfers := s.media.exch.transfers ++
          [⟨.sheet true, s.media.exch.base + (0x600 + 32 * (n.toNat % 8)), none, 32, s.clock.count⟩] } })) ∧
    (s.media.steady.state = .active → 4 ≤ s.media.steady.frames.length →
      exec .frameStart s = .next (due { s.media with
        steady := { s.media.steady with
          frameCounter := n, skippedTotal := min 65535 (s.media.steady.skippedTotal + 1) }
        exch := s.media.exch.writeRecord s.clock.count (skippedRecord ⟨n, s.clock.count⟩ s.media.steady.heldSheet) })) ∧
    (s.media.steady.state = .active → s.media.steady.frames = [] → s.media.steady.headStage = .none →
      s.media.exch.state ≠ .running →
      let f : Frame := ⟨n, s.clock.count⟩
      let v := s.media.steady.heldSheet
      let h := HeadFigures.of s.clock.count v true false
      let settled : Steady := { s.media.steady with
        frameCounter := n, frames := [f], headStage := .waiting, head := some h
        heldTotal := min 65535 (s.media.steady.heldTotal + 1) }
      let r := settled.computeFrame f h s.integ.history
      (h.ready s.orientation s.clock.count = false →
        exec .frameStart s = .next ({ s with media := { s.media with steady := settled } } : State).settle) ∧
      (h.ready s.orientation s.clock.count = true →
        let left : Media := { s.media with
          steady := { settled with
            path := r.path, seeded := true, lastComputed := some f.number, frames := [], headStage := .none, head := none }
          exch := s.media.exch.writeRecord s.clock.count (correctionRecord f.number r.flags r.centre r.bands) }
        exec .frameStart s = .next ({ s with media := left.keepRecord r } : State).settle)) ∧
    (∀ (f : Frame) (v : SheetValues), skippedRecord f v = correctionRecord f.number
      { skipped := true, paramsHeld := false, sheetClamped := false, pathSeeded := false, marginHit := ⟨false, false, false⟩
        short := false, held := false, gap := false, sat := false, missed := false }
      (f.start + BitVec.ofInt 48 ((v.readout / 2 : Nat) - (v.exposure / 2 : Nat)))
      (List.replicate v.bands ⟨0, 0, 0, false, false, false⟩)) ∧
    (s.media.steady.state = .idle → exec .frameStart s = .next (due s.media)) ∧
    (∀ (d : Exchange) (now : Stamp),
      let begun := { d with
        pickup := some ⟨now, .requests, false⟩, pickupHeld := false
        periodWait := some ⟨now, (if d.period.toNat = 0 then 1 else min 20 d.period.toNat) * 5000⟩
        periodOwed := d.periodOwed || d.periodWait.any fun w => decide ((w.length : Int) ≤ (now - w.start).toInt)
        transfers := d.transfers ++ [⟨.requestBoard, d.base + 0x200, none, 512, now⟩] }
      (d.state ≠ .running → d.pickupDue now = d) ∧ (d.state = .running → d.pickup = none → d.pickupDue now = begun) ∧
      (∀ p : Pickup, d.state = .running → d.pickup = some p → d.pickupDue now = { d with pickupHeld := true }) ∧
      (d.state = .running → d.pickupHeld = true → d.endPickup now = begun) ∧
      (d.state ≠ .running ∨ d.pickupHeld = false → d.endPickup now = { d with pickup := none, pickupHeld := false }))

/-- SHEET_READ_COMPLETE and HEAD_FRAME_TIMEOUT: a good sheet fixes the head frame's times, any other leaves the held values with
their total one higher; at the time-out the head frame is computed, its entry written, and the list goes on with the next frame,
whose sheet read begins, or whose times the held values fix at once where the exchange does not run (R50 to R55). A sheet's figures
are clamped, the band and centre times lie by the formulas of R52, and the trigger is a newest stamp later than the last band time
or the end of a wait of four nominal periods from it. A frame whose trigger has passed is computed as soon as its times are fixed.
With the motion track ON the clip takes a record of it: appended, the first of the free buffer not used last, handed over as the
32nd, or dropped with both buffers queued; a buffer returned is free (R63, R64, R66). Each sample integrated gives a history notice,
and one later than the last band time computes a waiting head frame in the same way; an earlier one changes nothing (R53). A record
dropped is counted in the clip's entry, whose sector goes on the update list (R63, R87). -/
def Obligations.HeadFrame : Prop :=
  (∀ (s : State) (n : Nat) (bs : List Byte) (f : Frame) (rest : List Frame),
    (s.media.exch.transferAt n).map Transfer.purpose = some (.sheet true) → s.media.steady.headStage = .reading →
    s.media.steady.frames = f :: rest →
    let good := editionAt bs 0 = editionAt bs 30 ∧ editionAt bs 0 ≠ 0 ∧ leNat bs 4 4 = f.number.toNat
    let fixed := fun (v : SheetValues) (held clamped : Bool) =>
      exec (.sheetReadComplete n bs) s = .next ({ s with media := { s.media with
        exch := s.media.exch.dropTransfer n
        steady := { s.media.steady with
          headStage := .waiting
          head := some ⟨v, (List.range v.bands).map (bandTime f.start v), centreTime f.start v, held, clamped⟩
          heldSheet := v
          heldTotal := if held then min 65535 (s.media.steady.heldTotal + 1) else s.media.steady.heldTotal } } } :
        State).settle
    (good → (HeadFigures.of f.start (sheetValues bs) false (sheetChanged bs)).ready s.orientation s.clock.count = false →
      fixed (sheetValues bs) false (sheetChanged bs)) ∧
    (¬good → (HeadFigures.of f.start s.media.steady.heldSheet true false).ready s.orientation s.clock.count = false →
      fixed s.media.steady.heldSheet true false) ∧
    (∀ (v : SheetValues) (held clamped : Bool), (good ∧ v = sheetValues bs ∧ held = false ∧ clamped = sheetChanged bs) ∨
        (¬good ∧ v = s.media.steady.heldSheet ∧ held = true ∧ clamped = false) →
      let h := HeadFigures.of f.start v held clamped
      let settled : Steady := { s.media.steady with
        headStage := .waiting, head := some h, heldSheet := v
        heldTotal := if held then min 65535 (s.media.steady.heldTotal + 1) else s.media.steady.heldTotal }
      let r := settled.computeFrame f h s.integ.history
      let left : Steady := { settled with
        path := r.path, seeded := true, lastComputed := some f.number, frames := rest, headStage := .none, head := none }
      let e := (s.media.exch.dropTransfer n).writeRecord s.clock.count (correctionRecord f.number r.flags r.centre r.bands)
      h.ready s.orientation s.clock.count = true →
      (rest = [] → exec (.sheetReadComplete n bs) s =
        .next ({ s with media := ({ s.media with steady := left, exch := e } : Media).keepRecord r } : State).settle) ∧
      (∀ (g : Frame) (others : List Frame), rest = g :: others → s.media.steady.profile.track = false →
        s.media.exch.state = .running → exec (.sheetReadComplete n bs) s = .next ({ s with media := { s.media with
          steady := { left with headStage := .reading }
          exch := { e with transfers := e.transfers ++
            [⟨.sheet true, e.base + (0x600 + 32 * (g.number.toNat % 8)), none, 32, s.clock.count⟩] } } } : State).settle))) ∧
  (∀ bs : List Byte,
    let v := sheetValues bs
    let exposure := leNat bs 8 4
    let readout := leNat bs 12 4
    let bands := (byteAt bs 16).toNat
    v.exposure = (if exposure < 1 then 1 else if 40000 < exposure then 40000 else exposure) ∧
      v.readout = (if 40000 < readout then 40000 else readout) ∧ v.bands ∈ [1, 2, 4, 8, 16] ∧ (bands = 0 → v.bands = 1) ∧
      (0 < bands → v.bands ≤ bands ∧ ∀ k ∈ [1, 2, 4, 8, 16], k ≤ bands → k ≤ v.bands) ∧
      (sheetChanged bs = true ↔ v.exposure ≠ exposure ∨ v.readout ≠ readout ∨ v.bands ≠ bands)) ∧
  (∀ (start : Stamp) (v : SheetValues) (held clamped : Bool) (o : Orientation) (now : Stamp),
    let h := HeadFigures.of start v held clamped
    let moved := fun d : Int => start + BitVec.ofInt 48 (d - (v.exposure / 2 : Nat))
    h = ⟨v, (List.range v.bands).map (bandTime start v), centreTime start v, held, clamped⟩ ∧
      (∀ j : Nat, bandTime start v j = moved (v.readout * (2 * j + 1) / (2 * v.bands) : Nat)) ∧
      centreTime start v = moved (v.readout / 2 : Nat) ∧
      (0 < v.bands →
        let last := bandTime start v (v.bands - 1)
        h.wait o.period = ⟨last, 4 * o.period⟩ ∧
        (h.ready o now = true ↔ (∃ e : HistoryEntry, o.history.getLast? = some e ∧ 0 < (e.stamp - last).toInt) ∨
          ((4 * o.period : Nat) : Int) ≤ (now - last).toInt))) ∧
  (∀ s : State, s.orientation = ⟨s.integ.history, s.motion.nominalPeriod⟩) ∧
  (∀ (s : State) (f : Frame) (h : HeadFigures), s.media.steady.headStage = .waiting → s.media.steady.frames = [f] →
    s.media.steady.head = some h →
    let r := s.media.steady.computeFrame f h s.integ.history
    ((h.wait s.motion.nominalPeriod).due s.clock.count = true → s.media.steady.profile.track = false →
      exec .headFrameTimeout s = .next ({ s with media := { s.media with
        steady := { s.media.steady with
          path := r.path, seeded := true, lastComputed := some f.number, frames := [], headStage := .none, head := none }
        exch := s.media.exch.writeRecord s.clock.count (correctionRecord f.number r.flags r.centre r.bands) } } :
        State).settle) ∧
    ((h.wait s.motion.nominalPeriod).due s.clock.count = false → exec .headFrameTimeout s = .next s.settle)) ∧
  (∀ (s : State) (f : Frame) (h : HeadFigures) (rest : List Frame), s.media.steady.headStage = .waiting →
    s.media.steady.frames = f :: rest → s.media.steady.head = some h →
    let r := s.media.steady.computeFrame f h s.integ.history
    let e := s.media.exch.writeRecord s.clock.count (correctionRecord f.number r.flags r.centre r.bands)
    let left : Steady := { s.media.steady with
      path := r.path, seeded := true, lastComputed := some f.number, frames := rest, headStage := .none, head := none }
    let due := (h.wait s.motion.nominalPeriod).due s.clock.count = true
    (due → rest = [] → exec .headFrameTimeout s =
      .next ({ s with media := ({ s.media with steady := left, exch := e } : Media).keepRecord r } : State).settle) ∧
    (∀ (g : Frame) (others : List Frame), due → rest = g :: others → s.media.steady.profile.track = false →
      (s.media.exch.state = .running → exec .headFrameTimeout s = .next ({ s with media := { s.media with
        steady := { left with headStage := .reading }
        exch := { e with transfers := e.transfers ++
          [⟨.sheet true, e.base + (0x600 + 32 * (g.number.toNat % 8)), none, 32, s.clock.count⟩] } } } : State).settle) ∧
      (s.media.exch.state ≠ .running →
        let v := s.media.steady.heldSheet
        let k := HeadFigures.of g.start v true false
        let settled : Steady := { left with
          headStage := .waiting, head := some k, heldTotal := min 65535 (s.media.steady.heldTotal + 1) }
        (k.ready s.orientation s.clock.count = false → exec .headFrameTimeout s =
          .next ({ s with media := { s.media with steady := settled, exch := e } } : State).settle) ∧
        (k.ready s.orientation s.clock.count = true → others = [] →
          let q := settled.computeFrame g k s.integ.history
          exec .headFrameTimeout s = .next ({ s with media := { s.media with
            steady := { settled with
              path := q.path, lastComputed := some g.number, frames := [], headStage := .none, head := none }
            exch := e.writeRecord s.clock.count (correctionRecord g.number q.flags q.centre q.bands) } } :
            State).settle)))) ∧
  (∀ (m : Media) (r : MotionRecord),
    let put := fun (id : BufferId) (b : MotionBuffer) => ({ m with
      steady := { m.steady.setBuffer id b with lastUsed := some id } } : Media)
    let makes := m.steady.profile.track = true ∧ m.writer.state = .recording
    (¬makes → m.keepRecord r = m) ∧
    (∀ id : BufferId, makes → m.steady.filling = some id →
      let rs := (m.steady.buffer id).records ++ [r]
      (rs.length < 32 → m.keepRecord r = put id ⟨.filling, rs⟩) ∧
      (32 ≤ rs.length → m.keepRecord r = { put id ⟨.queued, rs⟩ with
        writer := { m.writer with queue := m.writer.queue ++ [motionChunk id rs] } })) ∧
    (let a := m.steady.bufA.state
     let b := m.steady.bufB.state
     (∀ id : BufferId, makes → m.steady.filling = none → (m.steady.buffer id).state = .free → (m.steady.buffer id).records = [] →
       (a = .free ∧ b = .free → id = if m.steady.lastUsed = some .a then .b else .a) →
       m.keepRecord r = put id ⟨.filling, [r]⟩) ∧
     (makes → a = .queued → b = .queued →
       let dropped : Media := { m with steady := { m.steady with dropTotal := min 65535 (m.steady.dropTotal + 1) } }
       (m.writer.openIndex = none → m.keepRecord r = dropped) ∧
       (∀ (t : Tables) (i : Nat), m.writer.mounted = true → m.writer.tables = some t → t.openIndex = some i →
         m.keepRecord r = { dropped with writer := { m.writer with
           tables := some { t with dir := t.dir.modify i (Option.map fun c => { c with motionDrops := c.motionDrops + 1 }) }
           updates := addOnce m.writer.updates (1 + i / 2)
           mirrorDirty := addOnce m.writer.mirrorDirty i } }))) ∧
    (∀ id : BufferId, m.returnBuffer id = { m with steady := m.steady.setBuffer id ⟨.free, []⟩ })) ∧
  (∀ (s : State) (q : MotionProfile) (r : Sample),
    let given : State := { s with integ := s.integ.take q s.motion.nominalPeriod r }
    s.integrateSample q r = { given with media := s.media.historyNotice s.env given.orientation r.stamp }) ∧
  (∀ (m : Media) (env : Env) (o : Orientation) (stamp : Stamp),
    (m.steady.headStage ≠ .waiting → m.historyNotice env o stamp = m) ∧
    (∀ (f : Frame) (h : HeadFigures) (rest : List Frame), m.steady.headStage = .waiting → m.steady.frames = f :: rest →
      m.steady.head = some h →
      let later := 0 < (stamp - h.bandTimes.getLast?.getD h.centre).toInt
      let r := m.steady.computeFrame f h o.history
      let e := m.exch.writeRecord env.now (correctionRecord f.number r.flags r.centre r.bands)
      let left : Steady := { m.steady with
        path := r.path, seeded := true, lastComputed := some f.number, frames := rest, headStage := .none, head := none }
      (¬later → m.historyNotice env o stamp = m) ∧
      (later → rest = [] → m.historyNotice env o stamp = ({ m with steady := left, exch := e } : Media).keepRecord r) ∧
      (∀ (g : Frame) (others : List Frame), later → rest = g :: others → m.steady.profile.track = false →
        m.exch.state = .running → m.historyNotice env o stamp = { m with
          steady := { left with headStage := .reading }
          exch := { e with transfers := e.transfers ++
            [⟨.sheet true, e.base + (0x600 + 32 * (g.number.toNat % 8)), none, 32, env.now⟩] } })))

/-- The path and the corrections keep their limits: the path of an enabled axis stays within the margin of the orientation, a band's
offsets and roll within margin and roll limit, a disabled axis gives 0, and SHORT and HELD are the lookup's (R58 to R61). What they
are: the margin angles, the follow by k/256 truncated toward zero, the catch at the margin with its flag, the band angle clamped to
the margin, and its conversion rounded half away from zero and clamped, BAND_CLAMP telling of either clamp (R57 to R60). A frame as
computed: its bands and centre by the lookups at the band times and the centre time, each axis's path by its step, PATH_SEEDED when
an axis is enabled and the path was not seeded, MARGIN_HIT where the catch moved it, and SHORT, HELD, GAP, SAT and MISSED when any
lookup of the frame carried it (R54, R56, R58, R61). -/
def Obligations.CorrectionsWithinLimits : Prop :=
  (∀ (k : Nat) (m p theta : Int), k ≤ 256 → 0 ≤ m → -180000000 ≤ p → p < 180000000 → -180000000 ≤ theta →
    theta < 180000000 →
    (stepPath true true k m p theta).1 ≥ -180000000 ∧ (stepPath true true k m p theta).1 < 180000000 ∧
      (angleDiff theta (stepPath true true k m p theta).1).natAbs ≤ m ∧
      stepPath false true k m p theta = (theta, false) ∧ stepPath true false k m p theta = (theta, false)) ∧
  (∀ (p : SteadyProfile) (path : Axes Int) (l : LookupAnswer),
    let b := bandOf p path l
    b.x.natAbs ≤ p.marginX * 16 ∧ b.y.natAbs ≤ p.marginY * 16 ∧ b.r.natAbs ≤ p.rollLimit ∧
      (p.enable.yaw = false → b.x = 0) ∧ (p.enable.pitch = false → b.y = 0) ∧ (p.enable.roll = false → b.r = 0) ∧
      b.short = l.short ∧ b.held = l.held) ∧
  (∀ p : SteadyProfile, p.margins = ⟨(p.marginX * 57295780 / p.focal : Nat), (p.marginY * 57295780 / p.focal : Nat),
    (p.rollLimit * 1000 : Nat)⟩) ∧
  (∀ x y : Int, Safety.AngleInRange x → Safety.AngleInRange y →
    (∃ n : Int, angleDiff x y = x - y + n * 360000000) ∧ Safety.AngleInRange (angleDiff x y) ∧
      (∃ n : Int, angleSum x y = x + y + n * 360000000) ∧ Safety.AngleInRange (angleSum x y)) ∧
  (∀ (k : Nat) (m p theta : Int), 0 ≤ m →
    let q := angleSum p ((angleDiff theta p * k).tdiv 256)
    let d := angleDiff theta q
    (|d| ≤ m → stepPath true true k m p theta = (q, false)) ∧
      (m < |d| → 0 < d → stepPath true true k m p theta = (angleSum theta (-m), true)) ∧
      (m < |d| → d < 0 → stepPath true true k m p theta = (angleSum theta m, true))) ∧
  (∀ m p theta : Int, 0 ≤ m →
    let a := angleDiff p theta
    bandAngle false m p theta = (0, false) ∧ (|a| ≤ m → bandAngle true m p theta = (a, false)) ∧
      (m < |a| → bandAngle true m p theta = (if 0 < a then m else -m, true))) ∧
  (∀ (a : Int) (focal margin limit : Nat),
    let nearest := fun (x n : Int) (by_ : Nat) => 2 * |x * by_ - n| ≤ by_ ∧ (2 * |x * by_ - n| = by_ → |n| < |x * by_|)
    ∃ x y : Int, nearest x (a * focal * 16) 57295780 ∧ nearest y a 1000 ∧
      offset focal margin a = (max (-(margin * 16) : Int) (min (margin * 16) x), decide ((margin * 16 : Int) < |x|)) ∧
      rollOf limit a = (max (-limit : Int) (min limit y), decide ((limit : Int) < |y|))) ∧
  (∀ (p : SteadyProfile) (path : Axes Int) (l : LookupAnswer),
    let m := p.margins
    let yaw := bandAngle p.enable.yaw m.yaw path.yaw l.theta.yaw
    let pitch := bandAngle p.enable.pitch m.pitch path.pitch l.theta.pitch
    let roll := bandAngle p.enable.roll m.roll path.roll l.theta.roll
    let x := offset p.focal p.marginX yaw.1
    let y := offset p.focal p.marginY pitch.1
    let r := rollOf p.rollLimit roll.1
    bandOf p path l = ⟨x.1, y.1, r.1, yaw.2 || pitch.2 || roll.2 || x.2 || y.2 || r.2, l.short, l.held⟩) ∧
  (∀ (y : Steady) (f : Frame) (h : HeadFigures) (history : List HistoryEntry),
    let p := y.profile
    let c := lookup history h.centre
    let all := c :: h.bandTimes.map (lookup history)
    let step := fun (on : Bool) (m path theta : Int) =>
      if on = true ∧ y.seeded = true then stepPath true true p.follow m path theta else (theta, false)
    let yaw := step p.enable.yaw p.margins.yaw y.path.yaw c.theta.yaw
    let pitch := step p.enable.pitch p.margins.pitch y.path.pitch c.theta.pitch
    let roll := step p.enable.roll p.margins.roll y.path.roll c.theta.roll
    let r := y.computeFrame f h history
    r.frame = f.number ∧ r.centre = h.centre ∧ r.theta = c.theta ∧ r.path = ⟨yaw.1, pitch.1, roll.1⟩ ∧
      r.bands = h.bandTimes.map (fun t => bandOf p r.path (lookup history t)) ∧
      r.flags.skipped = false ∧ r.flags.paramsHeld = h.paramsHeld ∧ r.flags.sheetClamped = h.sheetClamped ∧
      (r.flags.pathSeeded = true ↔ y.seeded = false ∧
        (p.enable.yaw = true ∨ p.enable.pitch = true ∨ p.enable.roll = true)) ∧
      r.flags.marginHit = ⟨yaw.2, pitch.2, roll.2⟩ ∧
      (r.flags.short = true ↔ ∃ l ∈ all, l.short = true) ∧ (r.flags.held = true ↔ ∃ l ∈ all, l.held = true) ∧
      (r.flags.gap = true ↔ ∃ l ∈ all, l.gap = true) ∧ (r.flags.sat = true ↔ ∃ l ∈ all, l.sat = true) ∧
      (r.flags.missed = true ↔ ∃ l ∈ all, l.missed = true))

/-! ### The Incident Monitor and the MARK key (spec/05) -/

/-- The shock measure is the sum of the magnitudes of the three accel values. A sample at the end of a shock run opens an incident,
or extends the open one; the window's wait closes it, and an input whose loss debounce has by then lasted 20 ms is lost (R71 to R74,
R151). That USB is lost before AUX when both have is the model's (log 63). -/
def Obligations.IncidentWindow : Prop :=
  (∀ (s : State) (r : Sample),
    let i := s.incident
    let l1 := r.accel.yaw.natAbs + r.accel.pitch.natAbs + r.accel.roll.natAbs
    let run := min i.settings.runLength (i.shockRun + 1)
    let peak := max i.runPeak l1
    let end_ := stampAdd r.stamp (i.settings.windowSeconds * 1000000 : Nat)
    (l1 < i.settings.threshold →
      s.incidentSample r = { s with incident := { i with shockRun := 0, runPeak := 0 } }) ∧
    (i.settings.threshold ≤ l1 → i.shockRun + 1 < i.settings.runLength →
      s.incidentSample r = { s with incident := { i with shockRun := run, runPeak := peak } }) ∧
    (i.settings.threshold ≤ l1 → i.settings.runLength ≤ i.shockRun + 1 → i.window = .quiet →
      s.incidentSample r = { s with
        incident := { i with
          shockRun := run, runPeak := peak, number := i.number + 1, window := .incident, windowEnd := end_
          list := appendBounded 8 i.list ⟨i.number + 1, r.stamp, end_, peak, 0, none, none, .pending⟩
          requests := i.requests ++ [⟨i.number + 1, r.stamp, i.settings.lookbackSeconds⟩] }
        motion := { s.motion with windowOpen := true, stillRun := 0, learning := .suspended }
        charge := { s.charge with windowOpen := true } }) ∧
    (∀ (older : List IncidentEntry) (e : IncidentEntry), i.settings.threshold ≤ l1 → i.settings.runLength ≤ i.shockRun + 1 →
      i.window = .incident → i.list = older ++ [e] →
      let later := if 0 < (end_ - i.windowEnd).toInt then end_ else i.windowEnd
      s.incidentSample r = { s with incident := { i with
        shockRun := run, runPeak := peak, windowEnd := later
        list := older ++ [{ e with
          endStamp := later, extensions := min 255 (e.extensions + 1), peak := max e.peak peak }] } })) ∧
  (∀ s : State,
    (s.incident.window = .incident → 0 ≤ (s.clock.count - s.incident.windowEnd).toInt →
      exec .windowExpiry s = .next ((({ s with
        incident := { s.incident with window := .quiet }
        motion := { s.motion with windowOpen := false, stillRun := 0, learning := .settling }
        charge := { s.charge with windowOpen := false } } : State).loseIfDue .usb).loseIfDue .aux).settle) ∧
    (s.incident.window = .quiet ∨ (s.clock.count - s.incident.windowEnd).toInt < 0 →
      exec .windowExpiry s = .next s.settle))

/-- PROTECTION_REQUEST and PROTECTION_ANSWER: the writer takes the oldest request and answers it; the oldest answer goes into the entry
of its number, and INCIDENT is raised. With no clip open the answer is NO_CLIP. An open clip gains the INCIDENT cause and marker; the
answer is NOT_NEEDED when the clip began the lookback time before the incident or is the first, KEPT when the previous clip is there
to be protected too, LOST when it is not (R75, R76). -/
def Obligations.Protection : Prop :=
  (∀ (s : State) (r : ProtectionRequest) (rest : List ProtectionRequest), s.incident.requests = r :: rest →
    (∃ x : State, exec .protectionRequest s = .next x.settle ∧ x.clock = s.clock ∧ x.incident.requests = rest ∧
      x.incident.list = s.incident.list ∧ x.media.exch = s.media.exch ∧ x.media.card = s.media.card ∧
      ∃ a : ProtectionAnswer, x.incident.answers = s.incident.answers ++ [a] ∧ a.number = r.number ∧
        a.openClip = s.media.writer.openClip.map Clip.number) ∧
    (s.media.writer.openIndex = none →
      exec .protectionRequest s = .next ({ s with incident := { s.incident with
        requests := rest, answers := s.incident.answers ++ [⟨r.number, .noClip, none, none⟩] } } : State).settle) ∧
    (∀ (d : Tables) (i : Nat) (c : Clip), s.media.writer.mounted = true → s.media.writer.tables = some d →
      d.openIndex = some i → d.clipAt i = some c → c.markers.length < 16 →
      let w := s.media.writer
      let kept := { d with dir := d.dir.modify i (Option.map fun c => { c with
        causes := { c.causes with incident := true }, markers := c.markers ++ [⟨r.stamp, .incident⟩] }) }
      let answered := fun (v : Writer) (outcome : LookbackOutcome) (previous : Option Nat) => ({ s with
        media := { s.media with writer := v }
        incident := { s.incident with
          requests := rest, answers := s.incident.answers ++ [⟨r.number, outcome, some c.number, previous⟩] } } :
            State).settle
      let marked : Writer := { w with
        tables := some kept, updates := addOnce w.updates (1 + i / 2), mirrorDirty := addOnce w.mirrorDirty i }
      let early := (r.lookbackSeconds : Int) * 1000000 ≤ (r.stamp - c.start).toInt
      (c.number = 1 ∨ early → exec .protectionRequest s = .next (answered marked .notNeeded none)) ∧
      (c.number ≠ 1 → ¬early → d.indexOf (c.number - 1) = none →
        exec .protectionRequest s = .next (answered marked .lost (some (c.number - 1)))) ∧
      (∀ (j : Nat) (e : Clip), c.number ≠ 1 → ¬early → d.indexOf (c.number - 1) = some j → j ≠ i → d.clipAt j = some e →
        (e.causes.incident = true →
          exec .protectionRequest s = .next (answered marked .kept (some (c.number - 1)))) ∧
        (e.causes.incident = false →
          exec .protectionRequest s = .next (answered { marked with
            tables := some { kept with dir := kept.dir.modify j (Option.map fun c => { c with
              causes := { c.causes with incident := true } }) }
            updates := addOnce marked.updates (1 + j / 2), mirrorDirty := addOnce marked.mirrorDirty j }
              .kept (some (c.number - 1))))))) ∧
  (∀ (s : State) (a : ProtectionAnswer) (rest : List ProtectionAnswer), s.incident.answers = a :: rest →
    exec .protectionAnswer s = .next (({ s with incident := { s.incident with
      answers := rest
      list := s.incident.list.map fun e => if e.number = a.number then
        { e with protectedClip := a.openClip, lookbackClip := a.previousClip, outcome := a.outcome } else e } } :
      State).raise .incident))

/-- The MARK key by its table: edges with the rail ON, the debounce of 20 ms, a press, a SHORT press at the release, a LONG one at
2,000 ms, and the edges of a key that is LONG; with the rail OFF an edge does nothing (R77 to R80). -/
def Obligations.MarkKey : Prop :=
  ∀ s : State,
    let k := s.incident.key
    let i := s.incident
    let due := 20000 ≤ (s.clock.count - k.edge).toInt
    let held := 2000000 ≤ (s.clock.count - k.press).toInt
    (s.power.state = .run ∨ s.power.state = .shutting →
      (k.state = .up → exec (.markKeyEdge true) s = .next { s with incident := { i with
        key := { k with state := .pressing, edge := s.clock.count, debouncing := true } } }) ∧
      (k.state = .pressing → exec (.markKeyEdge false) s = .next { s with incident := { i with
        key := { k with state := .up, debouncing := false } } }) ∧
      (k.state = .down → exec (.markKeyEdge false) s = .next { s with incident := { i with
        key := { k with state := .releasing, edge := s.clock.count, debouncing := true } } }) ∧
      (k.state = .releasing → k.hold.all (fun h => !h.expired) = true →
        exec (.markKeyEdge true) s = .next { s with incident := { i with
          key := { k with state := .down, debouncing := false } } }) ∧
      (k.state = .releasing → k.hold = some ⟨.markLong, true⟩ →
        exec (.markKeyEdge true) s = .next (({ s with incident := { i with
          key := { k with state := .long, debouncing := false, hold := none }
          capture := { i.capture with kind := .long }
          markers := i.markers ++ [⟨k.press, .long⟩]
          markProtections := i.markProtections + 1 } } : State).raise .mark)) ∧
      (k.state = .up → exec (.markKeyEdge false) s = .next s) ∧
      (k.state = .long →
        exec (.markKeyEdge false) s = .next { s with incident := { i with
          key := { k with edge := s.clock.count, debouncing := true } } } ∧
        exec (.markKeyEdge true) s = .next { s with incident := { i with key := { k with debouncing := false } } })) ∧
    (s.power.state = .standby ∨ s.power.state = .dormant ∨ s.power.state = .waking →
      ∀ down, exec (.markKeyEdge down) s = .next s) ∧
    (k.debouncing = true → due →
      (k.state = .pressing → exec .markDebounceExpiry s = .next (({ s with incident := { i with
        key := { k with state := .down, press := k.edge, debouncing := false, hold := some ⟨.markLong, false⟩ }
        capture := ⟨k.edge, .pressed, i.capture.presses + 1⟩ } } : State).raise .mark)) ∧
      (k.state = .releasing → exec .markDebounceExpiry s = .next (({ s with incident := { i with
        key := { k with state := .up, debouncing := false, hold := none }
        capture := { i.capture with kind := .short }
        markers := i.markers ++ [⟨k.press, .short⟩] } } : State).raise .mark)) ∧
      (k.state = .long → exec .markDebounceExpiry s = .next { s with incident := { i with
        key := { k with state := .up, debouncing := false } } })) ∧
    (k.debouncing = false ∨ ¬due → exec .markDebounceExpiry s = .next s) ∧
    (k.hold = some ⟨.markLong, false⟩ → held → k.state = .down →
      exec .markHoldExpiry s = .next (({ s with incident := { i with
        key := { k with state := .long, hold := none, debouncing := false }
        capture := { i.capture with kind := .long }
        markers := i.markers ++ [⟨k.press, .long⟩]
        markProtections := i.markProtections + 1 } } : State).raise .mark)) ∧
    (k.hold = some ⟨.markLong, false⟩ → held → k.state = .releasing →
      exec .markHoldExpiry s = .next { s with incident := { i with key := { k with hold := some ⟨.markLong, true⟩ } } }) ∧
    (k.hold = none ∨ ¬held → k.hold.all (fun h => h.kind = .markLong) = true → exec .markHoldExpiry s = .next s)

/-- MARKER and MARK_PROTECTION at the Clip Writer: with no clip open the marker goes; else it joins the open clip's list, or sets
MARKER_OVERFLOW in a full one, and the changed entry's sector goes on the update list; the MARK cause joins the open clip
(R80, R81, R87, R92, R93). -/
def Obligations.Markers : Prop :=
  (∀ (s : State) (k : Marker) (rest : List Marker), s.incident.markers = k :: rest →
    let t : State := { s with incident := { s.incident with markers := rest } }
    (s.media.writer.openIndex = none → exec .marker s = .next t.settle) ∧
    (∀ (tables : Tables) (i : Nat) (c : Clip), s.media.writer.mounted = true → s.media.writer.tables = some tables →
      tables.openIndex = some i → tables.clipAt i = some c →
      let changed := fun f : Clip → Clip => ({ t with media := { s.media with writer := { s.media.writer with
        tables := some { tables with dir := tables.dir.modify i (Option.map f) }
        updates := addOnce s.media.writer.updates (1 + i / 2)
        mirrorDirty := addOnce s.media.writer.mirrorDirty i } } } : State).settle
      (c.markers.length < 16 →
        exec .marker s = .next (changed fun c => if c.markers.length < 16 then { c with markers := c.markers ++ [k] }
          else { c with overflow := true })) ∧
      (16 ≤ c.markers.length → c.overflow = false →
        exec .marker s = .next (changed fun c => if c.markers.length < 16 then { c with markers := c.markers ++ [k] }
          else { c with overflow := true })) ∧
      (16 ≤ c.markers.length → c.overflow = true → exec .marker s = .next t.settle))) ∧
  (∀ s : State, 0 < s.incident.markProtections →
    let t : State := { s with incident := { s.incident with markProtections := s.incident.markProtections - 1 } }
    (s.media.writer.openIndex = none → exec .markProtection s = .next t.settle) ∧
    (∀ (tables : Tables) (i : Nat) (c : Clip), s.media.writer.mounted = true → s.media.writer.tables = some tables →
      tables.openIndex = some i → tables.clipAt i = some c → c.causes.mark = false →
      exec .markProtection s = .next ({ t with media := { s.media with writer := { s.media.writer with
        tables := some { tables with dir := tables.dir.modify i (Option.map fun c =>
          { c with causes := { c.causes with mark := true } }) }
        updates := addOnce s.media.writer.updates (1 + i / 2)
        mirrorDirty := addOnce s.media.writer.mirrorDirty i } } } : State).settle) ∧
    (∀ (tables : Tables) (i : Nat) (c : Clip), s.media.writer.mounted = true → s.media.writer.tables = some tables →
      tables.openIndex = some i → tables.clipAt i = some c → c.causes.mark = true →
      exec .markProtection s = .next t.settle))

/-! ### The ride volume (spec/06) -/

/-- MOUNT_VOLUME and FORMAT_VOLUME: refused in the wrong state or under the supply warning, NO_CARD without a usable card,
AREA_TOO_LARGE where it does not fit; else the tables go and the first run is handed to the Card Port, the mount's read of the
header or the format's read of the old one (R94 to R96). UNMOUNT_VOLUME in each state of the writer: refused, answered DONE, left to
wait for the update list, or done at once, a read-back in progress then ending CLIP_GONE (R101). The four runs of a format follow
one another, and the last installs an empty volume (R95). A mount after its header: UNFORMATTED, AREA_TOO_LARGE or the read of the
zone; any run that fails ends it FAILED(CARD) in UNMOUNTED; the zone tidied, the OPEN clips are scanned from the first segment's
header on, and after the last one the tables settle (FILLING becomes FILLED, the next clip number, the allocation pointer) and the
list is written; with the list empty all 256 entries go to the mirror and the mount is answered DONE with its data (R93, R96 to
R100). An unmount completes once the list is empty, or FAILED(CARD) in CARD_FAULT (R101). That it waits while a clip is recorded,
and that a format ends a WARM reset's unmount, are the model's (log 19), and so are the reads through the VOLUME class and the
mirror entries asked for side by side, without CLIP (logs 16 and 13), and an answer given after those entries and after the answer
of a read-back that an unmount ends (log 75). -/
def Obligations.VolumeRequests : Prop :=
  (∀ (s : State) (slot : Nat) (stamp : Stamp) (r : Request),
     s.media.exch.nextRequest .writer = some ⟨slot, r, stamp⟩ →
     let t := s.modExch fun e => e.requestTakenBy .writer
     let w := s.media.writer
     let p := w.profile
     let usable := s.media.card.state = .ready ∨ s.media.card.state = .busy
     let tooLarge := fun w : Writer => (({ t with media := { t.media with
       writer := { w with
         state := .unmounted, mounted := false, tables := none, updates := [], flight := none, mirrorDirty := []
         waiting := [], current := none, lastHostStamp := none, lastMotionStamp := none, idleReport := true }
       card := s.media.card.withdrawAll } } : State).answer slot (.failed .areaTooLarge)).settle
     let begun := fun (w : Writer) (st : WriterState) (job : VolumeJob) => ({ t with media := { t.media with
       writer := { w with
         state := st, mounted := false, tables := none, updates := [], flight := none, mirrorDirty := [], waiting := []
         current := none, lastHostStamp := none, lastMotionStamp := none, job := some job }
       card := { s.media.card.withdrawAll with volume := some ⟨p.firstSector, 1, none⟩ } } } : State).settle
     (r = .mountVolume →
       let free := w.state = .unmounted ∨ w.state = .cardLost ∨ w.state = .cardFault ∨ w.state = .halted
       (¬free ∨ s.gauge.warning = true → exec .mountVolume s = .next (t.answer slot .refusedState).settle) ∧
       (free → s.gauge.warning = false → ¬usable → exec .mountVolume s = .next (t.answer slot (.failed .noCard)).settle) ∧
       (free → s.gauge.warning = false → usable → s.media.card.capacity ≤ p.firstSector →
         exec .mountVolume s = .next (tooLarge w)) ∧
       (free → s.gauge.warning = false → usable → p.firstSector < s.media.card.capacity →
         exec .mountVolume s = .next (begun w .mounting (.mount slot .header none [] [])))) ∧
     (r = .formatVolume →
       let free := w.state = .unmounted ∨ (w.state = .idle ∧ w.readBack = none ∧ w.unmounting = none ∧
         w.waitingSlots = [])
       let v := if w.hostReset = true then { w with
         expected := 0, keyWait := false, gapCount := 0, stopPending := none, closeCause := none, motionOrdinal := 0
         hostReset := false } else w
       (¬free ∨ s.gauge.warning = true → exec .formatVolume s = .next (t.answer slot .refusedState).settle) ∧
       (free → s.gauge.warning = false → ¬usable → exec .formatVolume s = .next (t.answer slot (.failed .noCard)).settle) ∧
       (free → s.gauge.warning = false → usable →
         s.media.card.capacity < areaEnd p.firstSector p.segmentSize p.segmentCount →
         exec .formatVolume s = .next (tooLarge v)) ∧
       (free → s.gauge.warning = false → usable →
         areaEnd p.firstSector p.segmentSize p.segmentCount ≤ s.media.card.capacity →
         exec .formatVolume s = .next
           (begun v .formatting (.format slot 1 ⟨p.firstSector, p.segmentSize, p.segmentCount⟩ 0))))) ∧
  (∀ (s : State) (slot : Nat) (stamp : Stamp),
     s.media.exch.nextRequest .writer = some ⟨slot, .unmountVolume, stamp⟩ →
     let t := s.modExch fun e => e.requestTakenBy .writer
     let w := s.media.writer
     (w.state = .recording ∨ w.state = .closing ∨ w.state = .mounting ∨ w.state = .formatting →
       exec .unmountVolume s = .next (t.answer slot .refusedState).settle) ∧
     (w.state = .unmounted → exec .unmountVolume s = .next (t.answer slot .done).settle) ∧
     (w.state = .idle → exec .unmountVolume s = .next ({ t with media := { t.media with
       writer := { w with unmounting := some (w.unmounting.getD [] ++ [slot]) } } } : State).settle) ∧
     (w.state = .cardLost ∨ w.state = .cardFault ∨ w.state = .halted → w.readBack = none →
       exec .unmountVolume s = .next (({ t with media := { t.media with
         writer := { w with
           state := .unmounted, mounted := false, tables := none, updates := [], flight := none, mirrorDirty := []
           waiting := [], current := none, lastHostStamp := none, lastMotionStamp := none, unmounting := none
           idleReport := true }
         card := s.media.card.withdrawAll } } : State).answer slot .done).settle) ∧
     (∀ r : ReadBack, w.state = .cardLost ∨ w.state = .cardFault ∨ w.state = .halted → w.readBack = some r →
       exec .unmountVolume s = .next ((({ t with media := { t.media with
         writer := { w with
           state := .unmounted, mounted := false, tables := none, updates := [], flight := none, mirrorDirty := []
           waiting := [], current := none, lastHostStamp := none, lastMotionStamp := none, unmounting := none
           readBack := none, idleReport := true }
         card := s.media.card.withdrawAll
         exch := t.media.exch.mapPurposes Purpose.withoutCopy } } : State).answer r.slot
           { Answer.failed .clipGone with data := toLe 4 r.copied }).answer slot .done).settle)) ∧
  (∀ (m : Media) (env : Env) (slot generation : Nat) (g : Geometry) (got : List Byte),
     m.card.state = .ready ∨ m.card.state = .busy → env.warn = false →
     let next := fun (step generation : Nat) (claim : Claim) => { m with
       writer := { m.writer with job := some (.format slot step g generation) }
       card := { m.card with volume := some claim } }
     (parseHeader got = none →
       m.formatStep env slot 1 g generation got = next 2 1 ⟨g.firstSector, 1, some (List.replicate 512 0)⟩) ∧
     (∀ h : VolumeHeader, parseHeader got = some h → m.formatStep env slot 1 g generation got =
       next 2 (if h.generation = 4294967295 then 1 else h.generation + 1) ⟨g.firstSector, 1, some (List.replicate 512 0)⟩) ∧
     m.formatStep env slot 2 g generation got = next 3 generation ⟨g.firstSector + 1, 136, some (emptyZone g generation)⟩ ∧
     m.formatStep env slot 3 g generation got = next 4 generation
       ⟨g.firstSector, 1, some (headerSector generation g.segmentSize g.segmentCount 1)⟩ ∧
     (let x := m.formatStep env slot 4 g generation got
      x.writer.state = .idle ∧ x.writer.mounted = true ∧ x.writer.updates = [] ∧ x.writer.job = none ∧
        x.writer.tables = some ⟨g, generation, 1, List.replicate 256 none, List.replicate 1024 ⟨.free, none⟩, 0⟩ ∧
        x.card = m.card)) ∧
  (∀ (m : Media) (env : Env) (slot : Nat) (got : List Byte),
    let w := m.writer
    let first := w.profile.firstSector
    let usable := m.card.state = .ready ∨ m.card.state = .busy
    let closed := fun a : Answer => ({ m with
      writer := { w with
        state := .unmounted, mounted := false, tables := none, updates := [], flight := none, mirrorDirty := []
        waiting := [], current := none, lastHostStamp := none, lastMotionStamp := none, idleReport := true, job := none }
      card := m.card.withdrawAll } : Media).answer env slot a
    let read := fun (v : Writer) (job : VolumeJob) (claim : Claim) => { m with
      writer := { v with job := some job }, card := { m.card with volume := some claim } }
    (∀ (j : VolumeJob) (v : Delivery), w.flight = none → w.job = some j → v.cls = .volume → v.outcome ≠ .absent →
      m.take env v = m.jobOutcome env j v.outcome v.got) ∧
    (∀ (j : VolumeJob) (o : RunOutcome), w.job = some j → j.slot = slot → o ≠ .ok →
      m.jobOutcome env j o got = closed (.failed .card)) ∧
    (let j := VolumeJob.mount slot .header none [] []
     w.job = some j →
      (parseHeader got = none → m.jobOutcome env j .ok got = closed (.failed .unformatted)) ∧
      (∀ h : VolumeHeader, parseHeader got = some h →
        (m.card.capacity < areaEnd first h.size h.count → m.jobOutcome env j .ok got = closed (.failed .areaTooLarge)) ∧
        (areaEnd first h.size h.count ≤ m.card.capacity → usable →
          m.jobOutcome env j .ok got = read { w with
            tables := some ⟨⟨first, h.size, h.count⟩, h.generation, h.nextClip, [], [], 0⟩ }
            (.mount slot .zone none [] []) ⟨first + 1, 136, none⟩))) ∧
    (∀ d : Tables, w.tables = some d →
      let t := tidy (readZone d.geometry d.generation d.nextClip got)
      let v := (({ w with tables := some t } : Writer).markAll (changedSectors got t)).dirtyAll (changedEntries got t)
      m.jobOutcome env (.mount slot .zone none [] []) .ok got =
        Media.scanClips env slot t.openEntries [] { m with writer := v }) ∧
    (∀ recovered : List Nat, Media.scanClips env slot [] recovered m = { m with writer := { w.settleTables with
      job := some (.mount slot .writeBack none [] recovered) } }) ∧
    (∀ (d : Tables) (i : Nat) (c : Clip) (rest recovered : List Nat), w.tables = some d → d.clipAt i = some c →
      (∀ (seg : Nat) (more : List Nat), d.chain c = seg :: more → usable →
        Media.scanClips env slot (i :: rest) recovered m =
          read w (.mount slot .segmentHeader (some (d.startScan i c)) rest recovered)
            ⟨d.geometry.firstSector + 144 + seg * d.geometry.segmentSize, 1, none⟩) ∧
      (d.chain c = [] → Media.scanClips env slot (i :: rest) recovered m =
        Media.scanClips env slot rest (recovered ++ [c.number])
          { m with writer := w.changeEntry i fun k => k.rebuild (d.startScan i c) })) ∧
    (∀ (scan : Option Scan) (todo recovered : List Nat) (d : Tables),
      w.job = some (.mount slot .writeBack scan todo recovered) → w.tables = some d →
      let one := fun (x : Media) (i : Nat) => { x with
        writer := { x.writer with mirrorEdition := nextEdition x.writer.mirrorEdition }
        exch := x.exch.writeRecord env.now (mirrorRecord i false (nextEdition x.writer.mirrorEdition) (d.clipAt i)) }
      let x := (List.range 256).foldl one { m with writer := { w with job := none, mirrorDirty := [] } }
      (w.updates ≠ [] ∨ w.flight ≠ none → m.mountDone env = none) ∧
      (w.updates = [] → w.flight = none → m.mountDone env = some (({ x with
        writer := { x.writer with state := .idle, idleReport := true } } : Media).answer env slot { Answer.done with
          data := toLe 2 d.present.length ++ (toLe 2 recovered.length ++ (recovered.take 12).flatMap (toLe 4)) }))) ∧
    (∀ (slots : List Nat), w.unmounting = some slots →
      let gone : Writer := { w with
        state := .unmounted, mounted := false, tables := none, updates := [], flight := none, mirrorDirty := []
        waiting := [], current := none, lastHostStamp := none, lastMotionStamp := none, unmounting := none, readBack := none
        idleReport := true }
      let ends := fun a : Answer =>
        (w.readBack = none → m.unmountDrained env =
          some (({ m with writer := gone, card := m.card.withdrawAll } : Media).answerAll env slots a)) ∧
        (∀ r : ReadBack, w.readBack = some r → m.unmountDrained env = some ((({ m with
          writer := gone, card := m.card.withdrawAll, exch := m.exch.mapPurposes Purpose.withoutCopy } : Media).answer env
            r.slot { Answer.failed .clipGone with data := toLe 4 r.copied }).answerAll env slots a))
      (w.state = .idle → w.updates ≠ [] ∨ w.flight ≠ none → m.unmountDrained env = none) ∧
      (w.state = .recording ∨ (w.state = .closing ∧ w.hostReset = false) → m.unmountDrained env = none) ∧
      (w.state = .idle → w.hostReset = false → w.updates = [] → w.flight = none → w.wip = none → ends .done) ∧
      (w.state = .cardFault → ends (.failed .card)))) ∧
  (∀ (w : Writer) (d : Tables), w.tables = some d → d.geometry.segmentCount ≤ 1024 → ∃ e : Tables, w.settleTables.tables = some e ∧ w.settleTables.mounted = true ∧
    e.dir = d.dir ∧ e.geometry = d.geometry ∧ e.generation = d.generation ∧ e.nextClip = d.nextAfterMount ∧
    e.alloc = d.allocAfterMount ∧ ∀ s, mapAt e.map s = if s < d.geometry.segmentCount ∧ (mapAt d.map s).state = .filling
      then ⟨.filled, (mapAt d.map s).link⟩ else mapAt d.map s)

/-- SET_PROTECTION and DELETE_CLIP: refused for a wrong state, an unknown clip, an open or a protected one; else the entry changes
or goes, and the answer waits for the sectors changed. A clip that goes leaves its entry EMPTY and its chain's segments FREE, a
RETIRING one BAD, and nothing else of the tables changes; its directory sector and then each map sector of its chain go on the list,
and these are the sectors that the answer waits for; a reclaim takes so the lowest-numbered clip that is neither OPEN nor protected,
and the search or the opening then goes on (R87, R88, R92, R102 to R104, R115). The volume updates: a sector changed joins the list
once, the first one is issued with its content of that moment when none is in flight, a write that ends OK answers the requests
whose change it carries and ends a close in IDLE, and the changed entries of a directory sector go to the mirror; a first failure
issues the sector anew, a second one leads to CARD_FAULT (R92, R93, R124). That a sector leaves the list as it is issued and counts
as listed until it is written, that the mirror entries are asked for side by side, and what a second failure does under a WARM
reset's close or unmount are the model's (logs 28, 13, 60 and 19), and so is the order of the answers given together, after the
mirror entries (log 75). -/
def Obligations.ProtectDelete : Prop :=
  (∀ (s : State) (slot clip : Nat) (stamp : Stamp) (r : Request), s.media.exch.nextRequest .writer = some ⟨slot, r, stamp⟩ →
    let t := s.modExch fun e => e.requestTakenBy .writer
    let w := s.media.writer
    let open_ := w.state = .idle ∨ w.state = .recording ∨ w.state = .closing
    let awaiting := fun (v : Writer) (sectors : List Nat) => ({ t with media := { t.media with
      writer := { v with waiting := v.waiting ++ [⟨.request slot, sectors⟩] } } } : State).settle
    (∀ on : Bool, r = .setProtection clip on →
      (¬open_ → exec .setProtection s = .next (t.answer slot .refusedState).settle) ∧
      (open_ → w.indexOf clip = none → exec .setProtection s = .next (t.answer slot .refusedParam).settle) ∧
      (∀ (i : Nat) (c : Clip), open_ → w.indexOf clip = some i → w.clipAt i = some c →
        (c.causes.request = on → exec .setProtection s = .next (t.answer slot .done).settle) ∧
        (c.causes.request ≠ on → exec .setProtection s = .next (awaiting { w with
          tables := w.tables.map fun d => { d with dir := d.dir.modify i (Option.map fun c =>
            { c with causes := { c.causes with request := on } }) }
          updates := addOnce w.updates (1 + i / 2)
          mirrorDirty := addOnce w.mirrorDirty i } [1 + i / 2])))) ∧
    (∀ force : Bool, r = .deleteClip clip force →
      (¬open_ → exec .deleteClip s = .next (t.answer slot .refusedState).settle) ∧
      (open_ → w.indexOf clip = none → exec .deleteClip s = .next (t.answer slot .refusedParam).settle) ∧
      (∀ (i : Nat) (c : Clip), open_ → w.indexOf clip = some i → w.clipAt i = some c →
        (c.state = .openClip → exec .deleteClip s = .next (t.answer slot .refusedState).settle) ∧
        (c.state ≠ .openClip → c.causes.any = true → force = false →
          exec .deleteClip s = .next (t.answer slot .refusedParam).settle) ∧
        (c.state ≠ .openClip → c.causes.any = false ∨ force = true →
          exec .deleteClip s = .next (awaiting (w.removeClip i).1 (w.removeClip i).2))))) ∧
  (∀ (w : Writer) (t : Tables) (i : Nat) (c : Clip), w.tables = some t → t.clipAt i = some c →
    ∃ u : Tables, (w.removeClip i).1.tables = some u ∧ u.clipAt i = none ∧ (∀ j, j ≠ i → u.clipAt j = t.clipAt j) ∧
      (∀ s ∈ t.chain c, s < t.map.length →
        mapAt u.map s = ⟨if (mapAt t.map s).state = .retiring then .bad else .free, none⟩) ∧
      (∀ s, s ∉ t.chain c → mapAt u.map s = mapAt t.map s) ∧ u.geometry = t.geometry ∧ u.generation = t.generation ∧
      u.nextClip = t.nextClip ∧ u.alloc = t.alloc ∧
      (let sectors := (t.chain c).map fun s => 129 + s / 128
       (∃ rest : List Nat, (w.removeClip i).2 = (1 + i / 2) :: rest ∧ rest.Nodup ∧ ∀ z, z ∈ rest ↔ z ∈ sectors) ∧
         (w.removeClip i).1 = { w with
           tables := some u, updates := sectors.foldl addOnce (addOnce w.updates (1 + i / 2))
           mirrorDirty := addOnce w.mirrorDirty i })) ∧
  (∀ (w : Writer) (t : Tables), w.tables = some t →
    let can := fun c : Clip => (∃ i, t.clipAt i = some c) ∧ c.state ≠ .openClip ∧ c.causes.any = false
    (t.oldest = none ↔ ∀ c, ¬can c) ∧ (t.oldest = none → w.reclaim = none) ∧
    (∀ c : Clip, t.oldest = some c → can c ∧ (∀ e, can e → c.number ≤ e.number) ∧
      ∃ (i : Nat) (e : Clip), t.clipAt i = some e ∧ e.number = c.number ∧ w.reclaim = some (w.removeClip i)) ∧
    (∀ (v : Writer) (sectors : List Nat) (stamp : Stamp) (n : Nat), w.reclaim = some (v, sectors) →
      (∀ i : Nat, t.emptyIndex = none → v.tables.bind Tables.emptyIndex = some i →
        w.open_ stamp = (v.openAt i stamp, some i)) ∧
      (∀ (i : Nat) (before : List Nat), t.firstFree = none →
        Writer.allocate (n + 1) w i before = Writer.allocate n v i (before ++ sectors)))) ∧
  (∀ (w : Writer) (z : Nat), w.mark z = { w with updates := if z ∈ w.updates then w.updates else w.updates ++ [z] }) ∧
  (∀ (m : Media) (env : Env),
    let w := m.writer
    let writes := w.state = .idle ∨ w.state = .recording ∨ w.state = .closing ∨ (w.state = .mounting ∧
      ∃ (slot : Nat) (scan : Option Scan) (todo recovered : List Nat), w.job = some (.mount slot .writeBack scan todo recovered))
    let issued := fun (d : Tables) (z : Nat) (retried : Bool) (updates : List Nat) => { m with
      writer := { w with updates := updates, flight := some ⟨z, retried, false,
        (w.waiting.filter fun x => decide (z ∈ x.sectors)).map Waiter.key⟩ }
      card := { m.card with volume := some ⟨d.geometry.firstSector + z, 1, some (zoneSector d z)⟩ } }
    let takes := m.card.state ≠ .absent ∧ m.card.state ≠ .fault ∧ env.warn = false
    (w.flight ≠ none ∨ w.updates = [] ∨ ¬writes → m.nextUpdate env = none) ∧
    (∀ (d : Tables) (z : Nat) (rest : List Nat), writes → takes → w.flight = none → w.updates = z :: rest →
      w.tables = some d → m.nextUpdate env = some (issued d z false rest)) ∧
    (∀ (f : VolumeFlight) (v : Delivery), w.flight = some f → v.cls = .volume → v.outcome ≠ .absent →
      m.take env v = m.updateOutcome env f v.outcome) ∧
    (∀ (f : VolumeFlight) (o : RunOutcome) (d : Tables), o ≠ .ok → f.final = false → w.tables = some d →
      let out : Media := { m with writer := { w with flight := none } }
      (f.retried = false → takes → m.updateOutcome env f o = issued d f.sector true w.updates) ∧
      let reset := w.hostReset = true ∧ (w.state = .idle ∨ w.closeCause = some .hostReset)
      (f.retried = true → ¬reset → m.updateOutcome env f o = out.enterCardFault env) ∧
      (f.retried = true → reset →
        m.updateOutcome env f o = ({ out with writer := { out.writer with updates := [] } } : Media).failWaiting env .card)) ∧
    (∀ f : VolumeFlight,
      let waiting := w.waiting.map fun x =>
        if x.key ∈ f.carried then { x with sectors := x.sectors.filter fun y => decide (y ≠ f.sector) } else x
      let done := (waiting.filter fun x => decide (x.sectors = [])).map Waiter.key
      m.updateOutcome env f .ok = done.foldl (fun x k => x.fire env k) (({ m with writer := { w with
        flight := none, waiting := waiting.filter fun x => decide (x.sectors ≠ []) } } : Media).mirrorSector env f.sector)) ∧
    (∀ slot : Nat, m.fire env (.request slot) = m.answer env slot .done) ∧
    m.fire env .close = ({ m with writer := { w with
      state := .idle, closeCause := none, stopSlots := [], idleReport := true } } : Media).answerAll env w.stopSlots .done ∧
    (∀ z : Nat,
      let one := fun (x : Media) (i : Nat) => if i ∈ w.mirrorDirty then { x with
          writer := { x.writer with
            mirrorEdition := nextEdition x.writer.mirrorEdition
            mirrorDirty := x.writer.mirrorDirty.filter fun y => decide (y ≠ i) }
          exch := x.exch.writeRecord env.now
            (mirrorRecord i true (nextEdition x.writer.mirrorEdition) (x.writer.clipAt i)) } else x
      (1 ≤ z → z ≤ 128 → m.mirrorSector env z = one (one m (2 * (z - 1))) (2 * (z - 1) + 1)) ∧
      (z = 0 ∨ 128 < z → m.mirrorSector env z = m)) ∧
    (∀ r : FailReason, m.failWaiting env r = ({ m with writer := { w with waiting := [], stopSlots := [] } } :
      Media).answerAll env (w.waitingSlots ++ w.stopSlots) (.failed r)))

/-- READ_BACK and READ_BACK_WRITE_COMPLETE: refused in a wrong state, with one in progress, for an unknown clip or bad bounds; else
it begins, cut to the bytes stored. A piece written counts, and the last one is answered DONE with the bytes copied. The next piece
of a clip that is present is one READ_RUN from its place in its segment of the chain, of at most 64 sectors, no more than are left
and none beyond the segment. A piece read is written over the link at its place, a failed one ends FAILED(CARD), and a clip that has
gone ends it before its next piece is handed over, or before a piece that waits at the Card Port begins (R133, R134). The state is
judged before the parameters (log 33). -/
def Obligations.ReadBackRuns : Prop :=
  (∀ (s : State) (slot clip offset length address : Nat) (stamp : Stamp),
    s.media.exch.nextRequest .writer = some ⟨slot, .readBack clip offset length address, stamp⟩ →
    let t := s.modExch fun e => e.requestTakenBy .writer
    let w := s.media.writer
    let open_ := (w.state = .idle ∨ w.state = .recording ∨ w.state = .closing) ∧ w.readBack = none
    (¬open_ → exec .readBack s = .next (t.answer slot .refusedState).settle) ∧
    (open_ → w.indexOf clip = none → exec .readBack s = .next (t.answer slot .refusedParam).settle) ∧
    (∀ (i : Nat) (c : Clip) (d : Tables), open_ → w.indexOf clip = some i → w.tables = some d → d.clipAt i = some c →
      let stored := (d.chain c).length * ((d.geometry.segmentSize - 1) * 512)
      let bad := offset % 512 ≠ 0 ∨ length % 512 ≠ 0 ∨ length = 0 ∨ 1048576 < length ∨ address % 4 ≠ 0 ∨ stored ≤ offset
      (bad → exec .readBack s = .next (t.answer slot .refusedParam).settle) ∧
      (¬bad → exec .readBack s = .next ({ t with media := { t.media with writer := { w with
        readBack := some ⟨slot, clip, offset, min length (stored - offset), address, 0, 0, .idle⟩ } } } :
          State).settle))) ∧
  (∀ (s : State) (n : Nat) (r : ReadBack), (s.media.exch.transferAt n).map Transfer.purpose = some (.readBackWrite true) →
    s.media.writer.readBack = some r → r.stage = .writing →
    let t := s.modExch fun e => e.dropTransfer n
    (r.piece * 512 < r.left → exec (.readBackWriteComplete n) s = .next ({ t with media := { t.media with
      writer := { s.media.writer with readBack := some { r with
        next := r.next + r.piece * 512, left := r.left - r.piece * 512, copied := r.copied + r.piece * 512
        stage := .idle } } } } : State).settle) ∧
    (r.left ≤ r.piece * 512 → exec (.readBackWriteComplete n) s = .next (({ t with media := { t.media with
      writer := { s.media.writer with readBack := none }
      card := s.media.card.withdraw .readBack
      exch := t.media.exch.mapPurposes Purpose.withoutCopy } } : State).answer r.slot
        { Answer.done with data := toLe 4 (r.copied + r.piece * 512) }).settle)) ∧
  (∀ (m : Media) (env : Env) (r : ReadBack), m.writer.readBack = some r →
    let ended := fun (reason : FailReason) => ({ m with
      writer := { m.writer with readBack := none }
      card := m.card.withdraw .readBack
      exch := m.exch.mapPurposes Purpose.withoutCopy } : Media).answer env r.slot
        { Answer.failed reason with data := toLe 4 r.copied }
    (∀ got : List Byte, m.pieceOutcome env r .ok got = { m with
      writer := { m.writer with readBack := some { r with stage := .writing } }
      exch := { m.exch with transfers := m.exch.transfers ++
        [⟨.readBackWrite true, r.address + r.copied, some got, got.length, env.now⟩] } }) ∧
    (∀ (o : RunOutcome) (got : List Byte), o ≠ .ok → m.pieceOutcome env r o got = ended .card) ∧
    (r.stage = .idle → m.writer.mounted = true → m.writer.indexOf r.clip = none →
      m.nextPiece env = some (ended .clipGone)) ∧
    (∀ (d : Tables) (i : Nat) (c : Clip) (segment : Nat),
      let perSegment := (d.geometry.segmentSize - 1) * 512
      let sectors := min 64 (min (r.left / 512) ((perSegment - r.next % perSegment) / 512))
      r.stage = .idle → m.writer.mounted = true → m.writer.tables = some d → m.writer.indexOf r.clip = some i →
      d.clipAt i = some c → (d.chain c)[r.next / perSegment]? = some segment →
      m.nextPiece env = some { m with
        writer := { m.writer with readBack := some { r with piece := sectors, stage := .reading } }
        card := m.card.hand env .readBack ⟨d.geometry.firstSector + 144 + segment * d.geometry.segmentSize + 1 +
          r.next % perSegment / 512, sectors, none⟩ }) ∧
    (r.stage ≠ .idle → m.nextPiece env = none) ∧
    (∀ c : Claim, m.card.readBack = some c → m.writer.indexOf r.clip = none → m.follow env = some (ended .clipGone)) ∧
    (∀ (c : Claim) (i : Nat), m.card.readBack = some c → m.writer.indexOf r.clip = some i → m.pieceGone env = none)) ∧
  (∀ (t : Tables) (c : Clip) (k : Nat),
    (t.chain c)[0]? = (if c.segments = 0 then none else c.first) ∧
    (t.chain c)[k + 1]? = if k + 1 < c.segments then ((t.chain c)[k]?).bind fun s => (mapAt t.map s).link else none)

/-! ### Recording (spec/07) -/

/-- START_CLIP: refused unless the writer is IDLE and reserve held is NO; else a clip opens with the limits of the profile, the
sequence given and the stamp of the pickup, and the answer waits for the header and directory sectors; with no entry to be had it
fails DIRECTORY_FULL (R87, R121). An unmount that waits for the list, or a WARM reset's, keeps waiting: that is the model's (log
19). -/
def Obligations.StartClip : Prop :=
  ∀ (s : State) (slot first : Nat) (stamp : Stamp),
    s.media.exch.nextRequest .writer = some ⟨slot, .startClip first, stamp⟩ →
    let t := s.modExch fun e => e.requestTakenBy .writer
    let w := s.media.writer
    let p := w.profile
    let free := w.state = .idle ∧ w.reserveHeld = false
    (¬free → exec .startClip s = .next (t.answer slot .refusedState).settle) ∧
    (∀ (d : Tables) (i : Nat), free → w.tables = some d → d.emptyIndex = some i →
      exec .startClip s = .next ({ t with media := { t.media with writer := { w with
        state := .recording
        tables := some { d with
          dir := d.dir.set i (some (newClip d.nextClip stamp)), nextClip := numberAfter d.generation d.nextClip }
        updates := addOnce (addOnce w.updates 0) (1 + i / 2)
        mirrorDirty := addOnce w.mirrorDirty i
        limits := ⟨p.clipSeconds, p.gapWait, p.starvationSeconds⟩
        expected := first, keyWait := true, parked := [], gapCount := 0, gapFresh := false
        admissionStart := stamp, starvation := some ⟨stamp, p.starvationSeconds * 1000000⟩, current := none
        motionOrdinal := 0, stopPending := none, closeCause := none, lastHostStamp := none, lastMotionStamp := none
        recordingReport := true
        waiting := w.waiting ++ [⟨.request slot, [0, 1 + i / 2]⟩] } } } : State).settle) ∧
    (∀ (v : Writer) (i : Nat), free → w.open_ stamp = (v, some i) →
      ∃ x : State, exec .startClip s = .next x.settle ∧ x = { s with media := x.media } ∧
        x.media.writer.state = .recording ∧ x.media.writer.expected = first ∧ x.media.writer.keyWait = true ∧
        x.media.writer.tables = v.tables ∧ x.media.writer.waiting = v.waiting ++ [⟨.request slot, [0, 1 + i / 2]⟩]) ∧
    (∀ d : Tables, free → w.tables = some d → d.emptyIndex = none → d.oldest = none →
      exec .startClip s = .next (t.answer slot (.failed .directoryFull)).settle)

/-- STOP_CLIP and STARVATION_EXPIRY: in RECORDING a stop without a last sequence, or with one already passed, begins the close, as
does a starved clip; a later last sequence is awaited; CLOSING, IDLE and the other states answer at once. A close that begins
refuses every parked chunk by a receipt, ends the stop pending and the starvation wait and flushes the motion buffer; with the queue
drained the entry closes with the cause and the end stamp, and the IDLE that follows waits for its sectors (R112, R123 to R125). The
order of the receipts of the parked chunks is the model's (log 74). -/
def Obligations.StopClip : Prop :=
  (∀ (s : State) (slot : Nat) (last : Option Nat) (stamp : Stamp),
    s.media.exch.nextRequest .writer = some ⟨slot, .stopClip last, stamp⟩ →
    let t := s.modExch fun e => e.requestTakenBy .writer
    let w := s.media.writer
    let m : Media := { t.media with writer := { w with stopSlots := w.stopSlots ++ [slot] } }
    (w.state = .recording → last = none →
      exec .stopClip s = .next ({ t with media := m.closeBegin s.env .request } : State).settle) ∧
    (∀ l : Nat, w.state = .recording → last = some l →
      let p : Media := { m with writer := { m.writer with stopPending := some l } }
      (l < w.expected → exec .stopClip s = .next ({ t with media := p.closeBegin s.env .request } : State).settle) ∧
      (w.expected ≤ l → exec .stopClip s = .next ({ t with media := p } : State).settle)) ∧
    (w.state = .closing → exec .stopClip s = .next (t.answer slot { Answer.done with alreadyClosing := true }).settle) ∧
    (w.state = .idle → exec .stopClip s = .next (t.answer slot .done).settle) ∧
    (w.state = .unmounted ∨ w.state = .mounting ∨ w.state = .formatting ∨ w.state = .cardLost ∨ w.state = .cardFault ∨
      w.state = .halted → exec .stopClip s = .next (t.answer slot .refusedState).settle)) ∧
  (∀ s : State,
    (∀ a : Wait, s.media.writer.state = .recording → s.media.writer.starvation = some a →
      (a.length : Int) ≤ (s.clock.count - a.start).toInt →
      exec .starvationExpiry s = .next ({ s with media := s.media.closeBegin s.env .starved } : State).settle) ∧
    (s.media.writer.state ≠ .recording → exec .starvationExpiry s = .next s.settle) ∧
    (∀ a : Wait, s.media.writer.starvation = some a → (s.clock.count - a.start).toInt < (a.length : Int) →
      exec .starvationExpiry s = .next s.settle)) ∧
  (∀ (m : Media) (env : Env) (cause : CloseCause),
    let begun : Media := { m with writer := { m.writer with
      state := .closing, closeCause := some cause, stopPending := none, starvation := none, parked := []
      recordingReport := true } }
    (m.writer.state = .recording → m.closeBegin env cause =
      (m.writer.parked.foldl (fun x c => x.finish env .refused c) begun).flush) ∧
    (m.writer.state ≠ .recording → m.closeBegin env cause = m)) ∧
  (∀ (m : Media) (env : Env) (st : ReceiptStatus) (c : Chunk) (slot : Nat) (edition : Edition) (address : Nat),
    c.source = .slot slot edition address → m.writer.held.contains ⟨slot, edition, c.seq⟩ = true →
    m.finish env st c = { m with
      writer := { m.writer with held := m.writer.held.filter fun h => decide (h ≠ ⟨slot, edition, c.seq⟩) }
      exch := m.exch.writeRecord env.now (receiptRecord ⟨slot, edition, c.seq⟩ st) }) ∧
  (∀ m : Media,
    (m.steady.filling = none → m.flush = m) ∧
    (∀ id : BufferId, m.steady.filling = some id → (m.steady.buffer id).records = [] → m.flush = m) ∧
    (∀ id : BufferId, m.steady.filling = some id → (m.steady.buffer id).records ≠ [] →
      m.writer.state = .recording ∨ m.writer.state = .closing →
      m.flush = { m with
        steady := m.steady.setBuffer id { m.steady.buffer id with state := .queued }
        writer := { m.writer with queue := m.writer.queue ++ [motionChunk id (m.steady.buffer id).records] } })) ∧
  (∀ (m : Media) (d : Tables) (i : Nat) (c : Clip), m.writer.state = .closing → m.writer.queue = [] → m.writer.wip = none →
    m.writer.mounted = true → m.writer.tables = some d → d.openIndex = some i → d.clipAt i = some c →
    m.writer.hostReset = false →
    let w := m.writer
    let stamp := match w.lastHostStamp, w.lastMotionStamp with
      | some t, _ => t
      | none, some t => t
      | none, none => c.start
    let dir := d.dir.modify i (Option.map fun c => { c with
      state := .closed, cause := some (w.closeCause.getD .request), endStamp := some stamp })
    (w.current = none → m.closeDrained = some { m with writer := { w with
      tables := some { d with dir := dir }, updates := addOnce w.updates (1 + i / 2), mirrorDirty := addOnce w.mirrorDirty i
      waiting := w.waiting ++ [⟨.close, [1 + i / 2]⟩] } }) ∧
    (∀ cur : CurrentSegment, w.current = some cur → (mapAt d.map cur.segment).state = .filling →
      m.closeDrained = some { m with writer := { w with
        tables := some { d with dir := dir, map := d.map.set cur.segment ⟨.filled, (mapAt d.map cur.segment).link⟩ }
        updates := addOnce (addOnce w.updates (1 + i / 2)) (129 + cur.segment / 128)
        mirrorDirty := addOnce w.mirrorDirty i, current := none
        waiting := w.waiting ++ [⟨.close, [1 + i / 2, 129 + cur.segment / 128]⟩] } }))

/-- PAYLOAD_FETCH_COMPLETE: the chunk being fetched takes its bytes and its run is handed to the Card Port, behind its segment's
header sector in a fresh segment; a fetch whose work was dropped ends without effect (R91, R117, R118). Before it, the front of the
queue becomes the write in progress and is fetched where it fits, or a segment is allocated: the first FREE one from the pointer,
chained to the clip, and on a FULL volume everything admitted is given up (R114 to R116). After it, a run OK counts in the entry and
gives its receipt; a first failure retires the segment and allocates another for the same chunk, and a second one leads to
CARD_FAULT with the entry closed and its last write issued (R118 to R120). A chunk marked Opens clip closes the old clip with
ROLLOVER and opens the next one with its own stamp before it is written there, or finds the directory full: CLOSING with FULL, and
everything held REFUSED (R122, R124). A MOTION chunk takes its ordinal as its write begins and is written from its buffer, which its
completion returns (R66, R113, R118). That the close cause and stop pending become NONE in CARD_FAULT is the model's (log 70), and
so is that the chunks REFUSED at a full directory are counted in no entry (log 42). -/
def Obligations.PayloadFetch : Prop :=
  ∀ (s : State) (n : Nat) (bytes : List Byte),
    let t := s.modExch fun e => e.dropTransfer n
    (∀ (p : WriteInProgress) (d : Tables) (i : Nat) (c : Clip) (cur : CurrentSegment),
      (s.media.exch.transferAt n).map Transfer.purpose = some (.payload true) → s.media.writer.wip = some p →
      p.stage = .fetching → s.media.writer.mounted = true → s.media.writer.tables = some d → d.openIndex = some i →
      d.clipAt i = some c → s.media.writer.current = some cur → s.media.card.state = .ready ∨ s.media.card.state = .busy →
      s.gauge.warning = false →
      let data := slice bytes 0 p.chunk.length
      let image := chunkImage p.chunk.kind p.chunk.key p.chunk.seq p.chunk.stamp data
      let start := d.geometry.firstSector + 144 + cur.segment * d.geometry.segmentSize
      let claim : Claim := if cur.headerWritten then ⟨start + cur.nextSector, chunkSectors p.chunk.length, some image⟩
        else ⟨start, 1 + chunkSectors p.chunk.length,
          some (segmentHeaderSector c.number (c.segments - 1) d.generation p.chunk.seq ++ image)⟩
      exec (.payloadFetchComplete n bytes) s = .next ({ t with media := { t.media with
        writer := { s.media.writer with wip := some { p with stage := .writing, payload := some data } }
        card := { s.media.card with chunk := some claim } } } : State).settle) ∧
    ((s.media.exch.transferAt n).map Transfer.purpose = some (.payload false) →
      exec (.payloadFetchComplete n bytes) s = .next t.settle) ∧
  (∀ (m : Media) (env : Env) (d : Tables) (i : Nat) (c : Chunk) (rest : List Chunk),
    m.writer.state = .recording ∨ m.writer.state = .closing → m.writer.wip = none → m.writer.queue = c :: rest →
    m.writer.mounted = true → m.writer.tables = some d → d.openIndex = some i → c.opensClip = false →
    let fits := fun cur : CurrentSegment => cur.nextSector + (32 + c.length + 511) / 512 ≤ d.geometry.segmentSize
    (∀ (cur : CurrentSegment) (slot : Nat) (edition : Edition) (address : Nat), m.writer.current = some cur → fits cur →
      c.kind ≠ .motion → c.source = .slot slot edition address →
      m.startWrite env = some { m with
        writer := { m.writer with queue := rest, wip := some ⟨c, .fetching, false, none, []⟩ }
        exch := { m.exch with transfers := m.exch.transfers ++
          [⟨.payload true, address, none, c.length, env.now⟩] } }) ∧
    ((∀ cur : CurrentSegment, m.writer.current = some cur → ¬fits cur) →
      m.startWrite env = some (({ m with writer := { m.writer with queue := rest } } : Media).allocateFor env i
        ⟨if c.kind = .motion then { c with seq := m.writer.motionOrdinal } else c, .fetching, false, none, []⟩))) ∧
  (∀ (d : Tables) (s : Nat), d.firstFree = some s → (mapAt d.map s).state = .free ∧
    ∃ k, k < d.geometry.segmentCount ∧ s = (d.alloc + k) % d.geometry.segmentCount ∧
      ∀ j, j < k → (mapAt d.map ((d.alloc + j) % d.geometry.segmentCount)).state ≠ .free) ∧
  (∀ (m : Media) (env : Env) (d : Tables) (i : Nat) (c : Clip) (p : WriteInProgress), m.writer.tables = some d →
    d.clipAt i = some c →
    let w := m.writer
    (∀ s : Nat, d.firstFree = some s →
      let dir := d.dir.modify i (Option.map fun c => { c with
        first := if c.first.isNone then some s else c.first, last := some s, segments := c.segments + 1 })
      let taken := fun (map : List MapEntry) (updates sectors : List Nat) => { m with writer := { w with
        tables := some { d with dir := dir, map := map, alloc := (s + 1) % d.geometry.segmentCount }
        updates := updates, mirrorDirty := addOnce w.mirrorDirty i, current := some ⟨s, 1, false⟩
        wip := some { p with stage := .allocating, allocSectors := sectors } } }
      (c.last = none → m.allocateFor env i p = taken (d.map.set s ⟨.filling, none⟩)
        (addOnce (addOnce w.updates (129 + s / 128)) (1 + i / 2)) [129 + s / 128, 1 + i / 2]) ∧
      (∀ l : Nat, c.last = some l → m.allocateFor env i p = taken
        ((d.map.set s ⟨.filling, none⟩).set l
          ⟨if (mapAt d.map l).state = .filling then .filled else (mapAt d.map l).state, some s⟩)
        (addOnce (addOnce (addOnce w.updates (129 + s / 128)) (129 + l / 128)) (1 + i / 2))
        [129 + s / 128, 129 + l / 128, 1 + i / 2])) ∧
    (d.firstFree = none → d.oldest = none → w.state = .recording ∨ w.state = .closing →
      let x := m.allocateFor env i p
      x.writer.state = .closing ∧ x.writer.queue = [] ∧ x.writer.wip = none ∧ x.writer.readBack = w.readBack ∧
        x.writer.closeCause = (if w.state = .recording then some .full else w.closeCause) ∧
        (w.mounted = true → d.openIndex = some i → ∃ e : Clip, x.writer.clipAt i = some e ∧
          e.drops = c.drops + hostCount (p.chunk :: w.queue)))) ∧
  (∀ (m : Media) (env : Env) (d : Tables) (i : Nat) (c : Clip) (cur : CurrentSegment) (p : WriteInProgress),
    m.writer.mounted = true → m.writer.tables = some d → d.openIndex = some i → d.clipAt i = some c →
    m.writer.current = some cur →
    let w := m.writer
    (∀ (slot : Nat) (edition : Edition) (address : Nat) (completion : Stamp), p.chunk.kind ≠ .motion →
      p.chunk.source = .slot slot edition address → w.held.contains ⟨slot, edition, p.chunk.seq⟩ = true →
      let unkeyed := c.hostCount = 0 ∧ ¬(p.chunk.kind = .video ∧ p.chunk.key = true)
      m.chunkWritten env p completion = { m with
        writer := { w with
          tables := some { d with dir := d.dir.modify i (Option.map fun c => { c with
            hostCount := c.hostCount + 1, bytes := c.bytes + p.chunk.length
            unkeyed := if unkeyed then true else c.unkeyed }) }
          updates := if unkeyed then addOnce w.updates (1 + i / 2) else w.updates
          mirrorDirty := addOnce w.mirrorDirty i
          current := some ⟨cur.segment, cur.nextSector + (32 + p.chunk.length + 511) / 512, true⟩
          lastHostStamp := some p.chunk.stamp, lastCompletion := completion, wip := none
          held := w.held.filter fun h => decide (h ≠ ⟨slot, edition, p.chunk.seq⟩) }
        exch := m.exch.writeRecord env.now (receiptRecord ⟨slot, edition, p.chunk.seq⟩ .written) }) ∧
    (p.rewrite = false → m.chunkFailed env p = ({ m with writer := { w with
      tables := some { d with map := d.map.set cur.segment ⟨.retiring, (mapAt d.map cur.segment).link⟩ }
      updates := addOnce w.updates (129 + cur.segment / 128) } } : Media).allocateFor env i { p with rewrite := true }) ∧
    (p.rewrite = true → m.chunkFailed env p = m.enterCardFault env) ∧
    (let x := m.enterCardFault env
     x.writer.state = .cardFault ∧ x.writer.queue = [] ∧ x.writer.wip = none ∧ x.writer.parked = [] ∧
       x.writer.waiting = [] ∧ x.writer.stopSlots = [] ∧ x.writer.readBack = none ∧ x.writer.closeCause = none ∧
       x.writer.stopPending = none ∧ x.writer.starvation = none ∧ x.writer.updates = [] ∧
       x.writer.flight = some ⟨1 + i / 2, false, true, []⟩ ∧ ∃ e : Clip, x.writer.clipAt i = some e ∧
         e.state = .closed ∧ e.cause = some .cardFault ∧ e.drops = c.drops + hostCount w.admitted)) ∧
  (∀ (m : Media) (env : Env) (d : Tables) (i : Nat) (e : Clip) (c : Chunk) (rest : List Chunk),
    m.writer.state = .recording ∨ m.writer.state = .closing → m.writer.wip = none → m.writer.queue = c :: rest →
    m.writer.mounted = true → m.writer.tables = some d → d.openIndex = some i → d.clipAt i = some e →
    c.opensClip = true → c.kind = .video →
    let w := m.writer
    let stamp := match w.lastHostStamp, w.lastMotionStamp with
      | some t, _ => t
      | none, some t => t
      | none, none => e.start
    let shut := fun cause : CloseCause => d.dir.modify i (Option.map fun k => { k with
      state := .closed, cause := some cause, endStamp := some stamp })
    let filling := fun cur : CurrentSegment => w.current = some cur ∧ (mapAt d.map cur.segment).state = .filling
    let opened := fun (j : Nat) (map : List MapEntry) (updates : List Nat) => ({ m with writer := { w with
      queue := rest
      tables := some { d with
        dir := (shut .rollover).set j (some (newClip d.nextClip c.stamp)), map := map
        nextClip := numberAfter d.generation d.nextClip }
      updates := addOnce (addOnce updates 0) (1 + j / 2), mirrorDirty := addOnce (addOnce w.mirrorDirty i) j
      current := none, motionOrdinal := 0, lastHostStamp := none, lastMotionStamp := none } } : Media).allocateFor env j
        ⟨c, .fetching, false, none, []⟩
    (∀ j : Nat, d.emptyIndex = some j →
      ((∀ cur, ¬filling cur) → m.startWrite env = some (opened j d.map (addOnce w.updates (1 + i / 2)))) ∧
      (∀ cur : CurrentSegment, filling cur → m.startWrite env = some (opened j
        (d.map.set cur.segment ⟨.filled, (mapAt d.map cur.segment).link⟩)
        (addOnce (addOnce w.updates (1 + i / 2)) (129 + cur.segment / 128))))) ∧
    (d.emptyIndex = none → ({ d with dir := shut .rollover } : Tables).oldest = none → ∃ x : Media,
      m.startWrite env = some x ∧ x.writer.state = .closing ∧ x.writer.closeCause = some .full ∧ x.writer.queue = [] ∧
      x.writer.wip = none ∧ x.writer.current = none ∧
      x.writer.clipAt i = some { e with state := .closed, cause := some .full, endStamp := some stamp } ∧
      ((∀ cur, ¬filling cur) → x.writer.waiting = w.waiting ++ [⟨.close, [1 + i / 2]⟩]) ∧
      (∀ cur : CurrentSegment, filling cur →
        x.writer.waiting = w.waiting ++ [⟨.close, [1 + i / 2, 129 + cur.segment / 128]⟩]) ∧
      (w.state = .recording → x.writer.parked = []) ∧
      ∀ (k : Chunk) (h : HeldSlot), k ∈ c :: rest ∨ (w.state = .recording ∧ k ∈ w.parked) → k.heldSlot = some h →
        h ∉ x.writer.held ∧ (m.exch.state = .running → h ∈ w.held →
          ∃ t ∈ x.exch.transfers, t.purpose = .record (receiptRecord h .refused) .head))) ∧
  (∀ (m : Media) (env : Env) (d : Tables) (i : Nat) (e : Clip) (c : Chunk) (rest : List Chunk) (cur : CurrentSegment)
    (id : BufferId), m.writer.mounted = true → m.writer.tables = some d → d.openIndex = some i → d.clipAt i = some e →
    m.writer.current = some cur → c.kind = .motion → c.source = .buffer id →
    let w := m.writer
    let dir := d.dir.modify i (Option.map fun k => { k with
        motionCount := k.motionCount + 1, bytes := k.bytes + c.length, motionTrack := true })
    (w.state = .recording ∨ w.state = .closing → w.wip = none → w.queue = c :: rest → c.opensClip = false →
      cur.nextSector + (32 + c.length + 511) / 512 ≤ d.geometry.segmentSize →
      m.card.state = .ready ∨ m.card.state = .busy → env.warn = false →
      let payload := motionPayload (m.steady.buffer id).records
      let image := chunkImage .motion c.key w.motionOrdinal c.stamp payload
      let start := d.geometry.firstSector + 144 + cur.segment * d.geometry.segmentSize
      let claim : Claim := if cur.headerWritten then ⟨start + cur.nextSector, chunkSectors payload.length, some image⟩
        else ⟨start, 1 + chunkSectors payload.length,
          some (segmentHeaderSector e.number (e.segments - 1) d.generation w.motionOrdinal ++ image)⟩
      m.startWrite env = some { m with
        writer := { w with
          queue := rest, wip := some ⟨{ c with seq := w.motionOrdinal }, .writing, false, some payload, []⟩ }
        card := { m.card with chunk := some claim } }) ∧
    (∀ (p : WriteInProgress) (completion : Stamp), p.chunk = c → m.chunkWritten env p completion = { m with
      steady := m.steady.setBuffer id ⟨.free, []⟩
      writer := { w with
        tables := some { d with dir := dir }
        updates := if e.motionTrack then w.updates else addOnce w.updates (1 + i / 2)
        mirrorDirty := addOnce w.mirrorDirty i
        current := some ⟨cur.segment, cur.nextSector + (32 + c.length + 511) / 512, true⟩
        motionOrdinal := w.motionOrdinal + 1, lastMotionStamp := some c.stamp, lastCompletion := completion
        wip := none } }))

/-! ### The Card Port (spec/08) -/

/-- DETECT_EDGE and DETECT_DEBOUNCE_EXPIRY: the line's level with its debounce of 50 ms while the rail is ON, an insertion that
begins an identification, and a removal with what it takes from the writer: every held edition receives ABANDONED, the waiting
requests and a read-back are answered FAILED(NO_CARD), MOTION chunks are returned and the tables go, in HALTED the tables alone
(R100, R128, R137 to R139, R146). An identification wakes the card by 10 idle bytes with the select line high; the select line is
low for the whole of an exchange, each exchange begins from a high select line with the 6 bytes of its command by its table (index
with 40h, argument high byte first, 01h), and in ABSENT the lines feed no current into the slot (R136, R139); that an exchange is
one command with what follows it is the model's reading (log 47). -/
def Obligations.Detect : Prop :=
  (∀ (s : State) (present : Bool),
    let c := s.media.card
    (s.power.state = .run ∨ s.power.state = .shutting →
      exec (.detectEdge present) s = .next { s with media := { s.media with card := { c with
        detectLine := present
        debounce := if present = c.detect then none else some (present, s.clock.count) } } }) ∧
    (s.power.state = .standby ∨ s.power.state = .dormant ∨ s.power.state = .waking →
      exec (.detectEdge present) s = .next { s with media := { s.media with card := { c with detectLine := present } } })) ∧
  (∀ (s : State) (start : Stamp),
    let c := s.media.card
    let due := 50000 ≤ (s.clock.count - start).toInt
    let w := s.media.writer.state
    (c.debounce = some (true, start) → due → c.state = .absent →
      exec .detectDebounceExpiry s = .next ({ s with media := { s.media with card := { c with
        detect := true, debounce := none, state := .identifying, fast := false, run := none, ident := some .reset
        identWait := some ⟨s.clock.count, 1000000⟩, recovery := false, stopOwed := false
        exchanges := c.exchanges + 1 } } } : State).settle) ∧
    (c.debounce = some (false, start) → due → c.state ≠ .absent →
      ∃ m : Media, exec .detectDebounceExpiry s = .next ({ s with media := m } : State).settle ∧
        m = (({ s.media with card := { c with
          detect := false, debounce := none, state := .absent, capacity := 0, fast := false, run := none, volume := none
          chunk := none, readBack := none, ident := none, identWait := none, stopOwed := false
          removals := min 65535 (c.removals + 1), outcomes := [] } } : Media).raise .card).cardGone s.env ∧
        m.card.state = .absent ∧ m.card.capacity = 0 ∧ m.card.detect = false ∧ m.card.debounce = none ∧
        m.card.run = none ∧ m.card.volume = none ∧ m.card.chunk = none ∧ m.card.readBack = none ∧
        m.card.removals = min 65535 (c.removals + 1) ∧ m.exch.flagSet .card = true ∧
        (w = .idle ∨ w = .recording ∨ w = .closing ∨ w = .cardFault ∨ w = .mounting ∨ w = .formatting →
          m.writer.state = .cardLost ∧ m.writer.mounted = false ∧ m.writer.tables = none) ∧
        (w = .halted → m.writer.state = .halted ∧ m.writer.mounted = false ∧ m.writer.tables = none) ∧
        (w = .unmounted ∨ w = .cardLost → m.writer = s.media.writer)) ∧
    (c.debounce = none → exec .detectDebounceExpiry s = .next s.settle) ∧
    (∀ present : Bool, c.debounce = some (present, start) → ¬due → exec .detectDebounceExpiry s = .next s.settle)) ∧
  (∀ (m : Media) (env : Env),
    let w := m.writer
    let x := m.cardGone env
    let answered := fun (slot : Nat) (a : Answer) => ∀ k : Working, m.exch.working.getD slot none = some k →
      ∃ t ∈ x.exch.transfers, t.purpose = .record (answerRecord slot k.edition k.kind a) .head
    (w.state = .unmounted ∨ w.state = .cardLost → x = m) ∧
    (w.state = .halted → x.exch = m.exch ∧ x.steady = m.steady ∧ x.writer = { w with
      mounted := false, tables := none, updates := [], flight := none, mirrorDirty := [], waiting := [], current := none
      lastHostStamp := none, lastMotionStamp := none }) ∧
    (w.state ≠ .unmounted → w.state ≠ .cardLost → w.state ≠ .halted →
      x.writer.state = .cardLost ∧ x.writer.mounted = false ∧ x.writer.tables = none ∧ x.writer.updates = [] ∧
      x.writer.held = [] ∧ x.writer.parked = [] ∧ x.writer.queue = [] ∧ x.writer.wip = none ∧ x.writer.waiting = [] ∧
      x.writer.stopSlots = [] ∧ x.writer.unmounting = none ∧ x.writer.readBack = none ∧ x.writer.job = none ∧
      (∀ id : BufferId, (∃ k ∈ w.admitted ++ w.parked, k.source = .buffer id) ∨
        (m.steady.filling = some id ∧ (m.steady.buffer id).records ≠ []) → x.steady.buffer id = ⟨.free, []⟩) ∧
      (m.exch.state = .running →
        (∀ h ∈ w.held, ∃ t ∈ x.exch.transfers, t.purpose = .record (receiptRecord h .abandoned) .head) ∧
        (∀ slot ∈ w.waitingSlots ++ w.stopSlots ++ w.unmounting.getD [], answered slot (.failed .noCard)) ∧
        (∀ r : ReadBack, w.readBack = some r → answered r.slot { Answer.failed .noCard with data := toLe 4 r.copied }) ∧
        (∀ j : VolumeJob, w.job = some j → answered j.slot (.failed .noCard))))) ∧
  (∀ (c : Card) (now : Stamp) (recovery : Bool),
    (let waking := c.enterIdent now recovery
     waking.ident = some .wake ∧ IdentStep.wake.sent = List.replicate 10 0xFF#8 ∧
       (∀ l ∈ waking.sendLines IdentStep.wake.sent, l.selectHigh = true) ∧
       c.identify now recovery = { waking with ident := some .reset, exchanges := c.exchanges + 1 }) ∧
    (c.state = .absent → c.lines = ⟨true, false, false⟩) ∧
    (c.state ≠ .absent → c.lines = ⟨c.exchange.isNone, false, true⟩) ∧
    (c.stopOwed = true → c.exchange = some .stop) ∧
    (∀ step : IdentStep, c.stopOwed = false → c.ident = some step → c.exchange = match step with
      | .wake => none
      | .reset => some .reset
      | .readiness => some .readiness
      | .capacity | .capacityBlock => some .capacity
      | .status _ => some .status) ∧
    (∀ r : Run, c.stopOwed = false → c.ident = none → c.run = some r → c.exchange = match r.phase with
      | .stop => some .stop
      | .status => some .status
      | .command | .block | .busy | .finalBusy | .rejected =>
        some (if r.claim.data.isSome then .write r.claim.start else .read r.claim.start)) ∧
    (c.stopOwed = false → c.ident = none → c.run = none → c.exchange = none) ∧
    (∀ (before : Card) (e : CardExchange), before.exchanges < c.exchanges → c.state ≠ .absent → c.exchange = some e →
      ∃ rest : List PortLines, before.turnLines c = ⟨true, false, true⟩ :: rest ∧ (∀ l ∈ rest, l.selectHigh = false) ∧
        rest.length = 1 + 17 * 6 ∧ (rest.filterMap fun l => if l.clockHigh then some l.dataHigh else none) =
          serialBits e.command) ∧
    (∀ step : IdentStep, step ≠ .wake →
      step.sent = if step = .capacityBlock then [] else step.exchange.elim [] CardExchange.command) ∧
    (∀ (e : CardExchange) (index argument : Nat),
      e = .reset ∧ index = 0 ∧ argument = 0 ∨ e = .readiness ∧ index = 41 ∧ argument = 0 ∨
        e = .capacity ∧ index = 9 ∧ argument = 0 ∨ e = .status ∧ index = 13 ∧ argument = 0 ∨
        e = .read argument ∧ index = 18 ∨ e = .write argument ∧ index = 25 ∨ e = .stop ∧ index = 12 ∧ argument = 0 →
      argument < 4294967296 →
      e.command.length = 6 ∧ (byteAt e.command 0).toNat = 0x40 + index ∧ beNat e.command 1 4 = argument ∧
        byteAt e.command 5 = 0x01) ∧
    (∀ b : Byte, (c.byteLines b).getLast? = some c.lines) ∧
    (∀ (bs : List Byte) (other : Bool), (c.sendLines bs).length = 17 * bs.length ∧
      cardTaken ((serialBits bs).map fun b => (b, other)) bs.length = bs))

/-- An identification step by step: the response each step asks for, the capacity block with its check and range, READY with CARD
raised, and FAULT on any other response, with no response and after 1,000 ms (R136, R138, R139). That each identification command is
an exchange of its own, with the rise of the exchanges, is the model's reading (log 47). -/
def Obligations.Identification : Prop :=
  ∀ (s : State) (step : IdentStep),
    let c := s.media.card
    let goes := fun d : Card => ({ s with media := { s.media with card := d } } : State).settle
    let fails := fun timeouts : Nat => (({ s with media := { s.media with card := { c with
      state := .fault, ident := none, identWait := none, timeouts := timeouts
      capacity := if c.recovery then c.capacity else 0 } } } : State).raise .card).settle
    c.state = .identifying → c.ident = some step → c.stopOwed = false → c.volume = none → c.chunk = none → c.readBack = none →
    (∀ response status : Byte, response.getLsbD 7 = false →
      (step = .reset → response = 1 →
        exec (.cardCommandResponse response status) s = .next (goes { c with ident := some .readiness, exchanges := c.exchanges + 1 })) ∧
      (step = .reset → response ≠ 1 → exec (.cardCommandResponse response status) s = .next (fails c.timeouts)) ∧
      (step = .readiness → response = 0 →
        exec (.cardCommandResponse response status) s = .next (goes { c with ident := some .capacity, exchanges := c.exchanges + 1 })) ∧
      (step = .readiness → response = 1 →
        exec (.cardCommandResponse response status) s = .next (goes { c with exchanges := c.exchanges + 1 })) ∧
      (step = .readiness → response ≠ 0 → response ≠ 1 →
        exec (.cardCommandResponse response status) s = .next (fails c.timeouts)) ∧
      (step = .capacity → response = 0 →
        exec (.cardCommandResponse response status) s = .next (goes { c with ident := some .capacityBlock })) ∧
      (step = .capacity → response ≠ 0 → exec (.cardCommandResponse response status) s = .next (fails c.timeouts)) ∧
      (∀ n : Nat, step = .status n → response = 0 → status = 0 → c.recovery = false ∨ n = c.capacity →
        exec (.cardCommandResponse response status) s = .next (({ s with media := { s.media with card := { c with
          state := .ready, fast := true, ident := none, identWait := none, capacity := n } } } : State).raise
            .card).settle) ∧
      (∀ n : Nat, step = .status n → response ≠ 0 ∨ status ≠ 0 ∨ (c.recovery = true ∧ n ≠ c.capacity) →
        exec (.cardCommandResponse response status) s = .next (fails c.timeouts))) ∧
    (∀ (data : List Byte) (check : BitVec 16), step = .capacityBlock →
      let d := slice data 0 512
      let n := beNat d 0 8
      (check = crc16Block d → 1 ≤ n → n ≤ 4294967296 →
        exec (.readBlockReceived 0xFE#8 data check) s = .next (goes { c with
          ident := some (.status n), exchanges := c.exchanges + 1 })) ∧
      (check ≠ crc16Block d ∨ n = 0 ∨ 4294967296 < n →
        exec (.readBlockReceived 0xFE#8 data check) s = .next (fails c.timeouts))) ∧
    (step ≠ .capacityBlock → step ≠ .wake → exec .cardResponseMissing s = .next (fails (min 65535 (c.timeouts + 1)))) ∧
    (∀ a : Wait, c.identWait = some a →
      ((a.length : Int) ≤ (s.clock.count - a.start).toInt →
        exec .identificationTimeout s = .next (fails (min 65535 (c.timeouts + 1)))) ∧
      ((s.clock.count - a.start).toInt < (a.length : Int) → exec .identificationTimeout s = .next s.settle))

/-- A READ_RUN: the response to its command, each sector with its check and its 100 ms wait, the stop command, and the ends OK,
READ_ERROR and TIMEOUT, the last with a RECOVERY identification (R136, R142, R145). That a read's TIMEOUT raises the time-out total,
and that a stop command is owed after READ_ERROR, are the model's reading (logs 14 and 15), and so are the stop command as an
exchange of its own, with the rise of the exchanges, the arbiter before all else that follows in a step, and the order in which the
outcomes of several waiting claims reach the Clip Writer (logs 47, 31 and 51). A claim handed in takes its place or ends at once by
the card state and the supply warning; at a READY card the arbiter takes VOLUME before CHUNK before READ_BACK among those that may
begin and checks the range; a warning ends a write run, and a failed identification every waiting claim (R140, R141, R144, R145,
R147). In each phase the command sent is that of the table of R136. -/
def Obligations.ReadRun : Prop :=
  (∀ (s : State) (r : Run),
    let c := s.media.card
    let now := s.clock.count
    let goes := fun d : Card => ({ s with media := { s.media with card := d } } : State).settle
    let given := fun (o : RunOutcome) (completion : Stamp) =>
      if r.wanted then c.outcomes ++ [⟨r.cls, o, r.got, completion⟩] else c.outcomes
    let readError := goes { c with
      run := none, state := .ready, outcomes := given .readError now, readErrors := min 65535 (c.readErrors + 1)
      stopOwed := true, exchanges := c.exchanges + 1 }
    let timedOut := goes { c with
      run := none, state := .identifying, outcomes := given .timeout now, timeouts := min 65535 (c.timeouts + 1)
      fast := false, ident := some .reset, identWait := some ⟨now, 1000000⟩, recovery := true, stopOwed := false
      exchanges := c.exchanges + 1 }
    c.state = .busy → c.run = some r → c.ident = none → c.stopOwed = false → r.claim.data = none →
    (∀ response status : Byte, response.getLsbD 7 = false →
      (r.phase = .command → response = 0 → exec (.cardCommandResponse response status) s =
        .next (goes { c with run := some { r with phase := .block, wait := some ⟨now, 100000⟩ } })) ∧
      (r.phase = .stop → response = 0 → exec (.cardCommandResponse response status) s =
        .next (goes { c with run := none, state := .ready, outcomes := given .ok r.completion })) ∧
      (r.phase = .command ∨ r.phase = .stop → response ≠ 0 →
        exec (.cardCommandResponse response status) s = .next readError)) ∧
    (∀ (mark : Byte) (data : List Byte) (check : BitVec 16), r.phase = .block →
      let d := slice data 0 512
      (mark = 0xFE → check = crc16Block d → r.done + 1 < r.claim.count →
        exec (.readBlockReceived mark data check) s = .next (goes { c with run := some { r with
          done := r.done + 1, got := r.got ++ d, completion := now, wait := some ⟨now, 100000⟩ } })) ∧
      (mark = 0xFE → check = crc16Block d → r.done + 1 = r.claim.count →
        exec (.readBlockReceived mark data check) s = .next (goes { c with
          exchanges := c.exchanges + 1
          run := some { r with
            done := r.done + 1, got := r.got ++ d, completion := now, phase := .stop, wait := none } })) ∧
      (mark = 0xFE → check ≠ crc16Block d → exec (.readBlockReceived mark data check) s = .next readError) ∧
      (1 ≤ mark.toNat → mark.toNat ≤ 15 → exec (.readBlockReceived mark data check) s = .next readError) ∧
      (mark ≠ 0xFE → mark = 0 ∨ 15 < mark.toNat → exec (.readBlockReceived mark data check) s = .next s.settle)) ∧
    (∀ a : Wait, r.phase = .block → r.wait = some a →
      ((a.length : Int) ≤ (now - a.start).toInt → exec .readSectorTimeout s = .next timedOut) ∧
      ((now - a.start).toInt < (a.length : Int) → exec .readSectorTimeout s = .next s.settle)) ∧
    (r.phase = .command ∨ r.phase = .stop → exec .cardResponseMissing s = .next timedOut) ∧
    (r.phase = .command → r.sent = (CardExchange.read r.claim.start).command) ∧ (r.phase = .block → r.sent = []) ∧
    (r.phase = .stop → r.sent = CardExchange.stop.command)) ∧
  (∀ (c : Card) (env : Env) (k : Claim),
    let write := k.data.isSome = true
    let ends := fun (d : Card) (cls : ClaimClass) (o : RunOutcome) =>
      ({ d with outcomes := d.outcomes ++ [⟨cls, o, [], env.now⟩] } : Card)
    (∀ cls : ClaimClass,
      (c.state = .absent → c.hand env cls k = ends c cls .absent) ∧
      (c.state = .fault → c.hand env cls k = ends c cls .timeout) ∧
      (c.state = .ready ∨ c.state = .busy ∨ c.state = .identifying → write → env.warn = true →
        c.hand env cls k = ends c cls .writeError)) ∧
    (c.state = .ready ∨ c.state = .busy ∨ c.state = .identifying → ¬(write ∧ env.warn = true) →
      c.hand env .volume k = { c with volume := some k } ∧ c.hand env .chunk k = { c with chunk := some k } ∧
        c.hand env .readBack k = { c with readBack := some k }) ∧
    (let fits := 1 ≤ k.count ∧ k.count ≤ 4096 ∧ k.start + k.count ≤ c.capacity
     let may := fun place : Option Claim => ∃ j : Claim, place = some j ∧ ¬(j.data.isSome = true ∧ env.warn = true)
     let taken := fun (d : Card) (cls : ClaimClass) =>
       (fits → c.arbitrate env = some { d with
         state := .busy, run := some ⟨cls, k, 0, .command, none, [], env.now, true⟩
         exchanges := if c.stopOwed then c.exchanges else c.exchanges + 1 }) ∧
       (¬fits → c.arbitrate env = some (ends d cls (if k.data.isSome then .writeError else .readError)))
     (c.state ≠ .ready ∨ (¬may c.volume ∧ ¬may c.chunk ∧ ¬may c.readBack) → c.arbitrate env = none) ∧
     (c.state = .ready → c.volume = some k → may c.volume → taken { c with volume := none } .volume) ∧
     (c.state = .ready → ¬may c.volume → c.chunk = some k → may c.chunk → taken { c with chunk := none } .chunk) ∧
     (c.state = .ready → ¬may c.volume → ¬may c.chunk → c.readBack = some k → may c.readBack →
       taken { c with readBack := none } .readBack)) ∧
    (∀ (m : Media) (d : Card), m.pieceGone env = none → m.card.arbitrate env = some d → m.follow env = some { m with card := d }) ∧
    (∀ r : Run, c.run = some r →
      (r.claim.data.isSome = true → c.supplyWarning env.now = { c with
        run := none, state := .ready
        outcomes := if r.wanted then c.outcomes ++ [⟨r.cls, .writeError, r.got, env.now⟩] else c.outcomes }) ∧
      (r.claim.data = none → c.supplyWarning env.now = c)) ∧
    (∀ late : Bool,
      let waits := fun (place : Option Claim) (cls : ClaimClass) =>
        place.toList.map fun _ => (⟨cls, .timeout, [], env.now⟩ : Delivery)
      c.identFail env.now late = { c with
        state := .fault, ident := none, identWait := none, volume := none, chunk := none, readBack := none
        timeouts := if late then min 65535 (c.timeouts + 1) else c.timeouts
        capacity := if c.recovery then c.capacity else 0
        outcomes := c.outcomes ++ waits c.volume .volume ++ waits c.chunk .chunk ++ waits c.readBack .readBack }))

/-- A WRITE_RUN: the response to its command, each block's answer and busy period of at most 250 ms, the status command, and the
ends OK, WRITE_ERROR and TIMEOUT; what is sent is the command, each block behind FCh with its check, and the stop mark FDh (R136,
R143, R145, R200). The 250 ms limit of the busy period after a rejected block's stop mark, the stamps from which the limits after
the two stop marks run, and the write error total that has risen by then, are the model's reading (logs 36 and 54), and so is the
status command as an exchange of its own, with the rise of the exchanges (log 47). -/
def Obligations.WriteRun : Prop :=
  ∀ (s : State) (r : Run) (data : List Byte),
    let c := s.media.card
    let now := s.clock.count
    let goes := fun d : Card => ({ s with media := { s.media with card := d } } : State).settle
    let given := fun (o : RunOutcome) (completion : Stamp) =>
      if r.wanted then c.outcomes ++ [⟨r.cls, o, r.got, completion⟩] else c.outcomes
    let writeError := fun total : Nat => goes { c with
      run := none, state := .ready, outcomes := given .writeError now, writeErrors := total }
    let timedOut := goes { c with
      run := none, state := .identifying, outcomes := given .timeout now, timeouts := min 65535 (c.timeouts + 1)
      fast := false, ident := some .reset, identWait := some ⟨now, 1000000⟩, recovery := true, stopOwed := false
      exchanges := c.exchanges + 1 }
    c.state = .busy → c.run = some r → c.ident = none → c.stopOwed = false → r.claim.data = some data →
    (∀ response status : Byte, response.getLsbD 7 = false →
      (r.phase = .command → response = 0 → exec (.cardCommandResponse response status) s =
        .next (goes { c with run := some { r with phase := .block, wait := none } })) ∧
      (r.phase = .status → response = 0 → status = 0 → exec (.cardCommandResponse response status) s =
        .next (goes { c with run := none, state := .ready, outcomes := given .ok r.completion })) ∧
      (r.phase = .command → response ≠ 0 →
        exec (.cardCommandResponse response status) s = .next (writeError (min 65535 (c.writeErrors + 1)))) ∧
      (r.phase = .status → response ≠ 0 ∨ status ≠ 0 →
        exec (.cardCommandResponse response status) s = .next (writeError (min 65535 (c.writeErrors + 1))))) ∧
    (∀ answer : Byte, r.phase = .block →
      (answer.extractLsb' 0 5 = 5 → exec (.writeBlockAnswer answer) s =
        .next (goes { c with run := some { r with phase := .busy, wait := some ⟨now, 250000⟩ } })) ∧
      (answer.extractLsb' 0 5 ≠ 5 → exec (.writeBlockAnswer answer) s = .next (goes { c with
        writeErrors := min 65535 (c.writeErrors + 1)
        run := some { r with phase := .rejected, wait := some ⟨now, 250000⟩ } }))) ∧
    (r.phase = .busy → r.done + 1 = r.claim.count → exec .cardBusyEnd s = .next (goes { c with run := some { r with
      done := r.done + 1, phase := .finalBusy, wait := some ⟨now, 250000⟩ } })) ∧
    (r.phase = .busy → r.done + 1 ≠ r.claim.count → exec .cardBusyEnd s = .next (goes { c with run := some { r with
      done := r.done + 1, phase := .block, wait := none } })) ∧
    (r.phase = .finalBusy → exec .cardBusyEnd s = .next (goes { c with
      exchanges := c.exchanges + 1, run := some { r with phase := .status, wait := none, completion := now } })) ∧
    (r.phase = .rejected → exec .cardBusyEnd s = .next (writeError c.writeErrors)) ∧
    (∀ a : Wait, r.phase = .busy ∨ r.phase = .finalBusy ∨ r.phase = .rejected → r.wait = some a →
      ((a.length : Int) ≤ (now - a.start).toInt → exec .cardBusyTimeout s = .next timedOut) ∧
      ((now - a.start).toInt < (a.length : Int) → exec .cardBusyTimeout s = .next s.settle)) ∧
    (r.phase = .command ∨ r.phase = .status → exec .cardResponseMissing s = .next timedOut) ∧
    (r.phase = .command → r.sent = (CardExchange.write r.claim.start).command) ∧
    (r.phase = .block →
      let sector := slice data (512 * r.done) 512
      r.sent.length = 515 ∧ byteAt r.sent 0 = 0xFC ∧ slice r.sent 1 512 = sector ∧
        beNat r.sent 513 2 = (crc16Block sector).toNat) ∧
    (r.phase = .busy → r.sent = []) ∧ (r.phase = .finalBusy ∨ r.phase = .rejected → r.sent = [0xFD]) ∧
    (r.phase = .status → r.sent = CardExchange.status.command)

/-! ### The Charge Controller and the Battery Gauge (spec/09, spec/10) -/

/-- The inputs: into and out of the window, the qualify wait of 1,000 ms, the loss debounce; an arrival or a loss selects AUX before
USB before NONE; an entry leaves DORMANT. The windows are 4,400 to 6,200 mV for USB and 6,000 to 24,000 mV for AUX, both bounds
included. A change of source connects it, drops the current to 100 mA or ends charging; an arrival in STANDBY turns the camera on where
auto-on is set and no supply warning stands; an input that leaves or is lost in STANDBY or WAKING sends the part to DORMANT where
nothing else keeps it awake (R150 to R152, R174, R175, R180, R183, R185). That a change of voltage across a bound is one of these commands
is the model's (log 48). -/
def Obligations.Inputs : Prop :=
  (∀ (s : State) (i : Input), s.charge.choice = s.charge.source →
    let u := s.charge.input i
    let now := s.clock.count
    let becomes := fun v : InputUnit => ({ s with charge := s.charge.setInput i v } : State)
    let best := fun c : Charge => if c.aux.state = .present then Source.aux else if c.usb.state = .present then .usb else .none
    (∀ before after : Nat,
      let within := fun v : Nat => (i = .usb ∧ 4400 ≤ v ∧ v ≤ 6200) ∨ (i = .aux ∧ 6000 ≤ v ∧ v ≤ 24000)
      (within after → ¬within before → inputCommands i before after = [.inputEntersWindow i]) ∧
      (within before → ¬within after → inputCommands i before after = [.inputLeavesWindow i]) ∧
      ((within before ↔ within after) → inputCommands i before after = [])) ∧
    (s.power.state ≠ .dormant →
      (u.state = .absent → exec (.inputEntersWindow i) s =
        .next ((becomes { u with state := .qualifying, qualify := some now }).raise .charge).settle) ∧
      (u.state = .present → exec (.inputEntersWindow i) s = .next (becomes { u with loss := none }).settle)) ∧
    (s.power.state = .dormant → u.state = .absent → ∃ x : State, exec (.inputEntersWindow i) s = .next x.settle ∧
      x.power.state = .waking ∧ x.power.settleCount = 0 ∧ x.clock.mainOsc = true ∧ x.clock.count = now ∧
      x.charge = s.charge.setInput i { u with state := .qualifying, qualify := some now } ∧
      x.media.exch.flagSet .charge = true) ∧
    (u.state = .qualifying → exec (.inputEntersWindow i) s = .next s.settle) ∧
    (s.power.state = .run ∨ s.power.state = .shutting →
      (u.state = .qualifying → exec (.inputLeavesWindow i) s =
        .next ((becomes { u with state := .absent, qualify := none }).raise .charge).settle) ∧
      (u.state = .present → exec (.inputLeavesWindow i) s =
        .next (becomes { u with loss := some (u.loss.getD now) }).settle) ∧
      (u.state = .absent → exec (.inputLeavesWindow i) s = .next s.settle) ∧
      (∀ start : Stamp, u.state = .qualifying → u.qualify = some start →
        (1000000 ≤ (now - start).toInt → ∃ x : State, exec (.qualifyWaitExpiry i) s = .next x.settle ∧
          x.charge.input i = { u with state := .present, qualify := none } ∧ x.charge.source = best x.charge ∧
          x.media.exch.flagSet .charge = true ∧ x.clock = s.clock ∧
          (s.charge.source = .none → s.charge.state = .idle → x.charge.state = .qualify ∧ x.charge.ic = 0) ∧
          (s.charge.source = .none → x.gauge.sourceSelected = true ∧ x.gauge.cutoffRun = 0 ∧ x.gauge.reserve = false ∧
            x.power.cutoffLock = false) ∧
          x.charge = (s.charge.setInput i { u with state := .present, qualify := none }).select s.options) ∧
        ((now - start).toInt < 1000000 → exec (.qualifyWaitExpiry i) s = .next s.settle)) ∧
      (∀ start : Stamp, u.state = .present → u.loss = some start →
        ((if s.charge.windowOpen then 200000 else 20000) ≤ (now - start).toInt →
          ∃ x : State, exec (.lossDebounceExpiry i) s = .next x.settle ∧
            x.charge.input i = { u with state := .absent, qualify := none, loss := none } ∧
            x.charge.source = best x.charge ∧ x.media.exch.flagSet .charge = true ∧ x.clock = s.clock ∧
            (x.charge.source = .none → x.charge.ic = 0) ∧
            x.charge = (s.charge.setInput i { u with state := .absent, qualify := none, loss := none }).select s.options) ∧
        ((now - start).toInt < (if s.charge.windowOpen then 200000 else 20000) →
          exec (.lossDebounceExpiry i) s = .next s.settle))) ∧
    (s.power.state = .standby ∨ s.power.state = .waking →
      let other := s.charge.input (match i with
        | .usb => .aux
        | .aux => .usb)
      let after := if other.state = .absent ∧ s.power.key.state = .up then PowerState.dormant else s.power.state
      (u.state = .present → exec (.inputLeavesWindow i) s = .next (becomes { u with loss := some (u.loss.getD now) }).settle) ∧
      (u.state = .qualifying → ∃ x : State, exec (.inputLeavesWindow i) s = .next x.settle ∧
        x.charge = s.charge.setInput i { u with state := .absent, qualify := none } ∧ x.power.state = after ∧
        x.media.exch.flagSet .charge = true ∧ x.clock.count = now) ∧
      (∀ start : Stamp, u.state = .present → u.loss = some start →
        (if s.charge.windowOpen then 200000 else 20000) ≤ (now - start).toInt →
        ∃ x : State, exec (.lossDebounceExpiry i) s = .next x.settle ∧
          x.charge = (s.charge.setInput i { u with state := .absent, qualify := none, loss := none }).select s.options ∧
          x.power.state = after ∧ x.media.exch.flagSet .charge = true ∧ x.clock.count = now) ∧
      (∀ start : Stamp, u.state = .qualifying → u.qualify = some start → 1000000 ≤ (now - start).toInt →
        ∃ x : State, exec (.qualifyWaitExpiry i) s = .next x.settle ∧
          x.charge = (s.charge.setInput i { u with state := .present, qualify := none }).select s.options ∧
          x.power.state = (if s.power.state = .standby ∧ s.options.autoOn = true ∧ s.gauge.warning = false then .run
            else s.power.state) ∧ x.media.exch.flagSet .charge = true ∧ x.clock.count = now))) ∧
  ∀ (c : Charge) (o : ChargeOptions),
    let best := if c.aux.state = .present then Source.aux else if c.usb.state = .present then .usb else .none
    let capped := fun d : Charge => ({ d with cap := d.formCap o, ic := min d.ic (d.formCap o) } : Charge)
    (best = c.source → c.select o = c) ∧
    (c.source = .none → best ≠ .none →
      (c.state = .idle → c.select o = capped { c with
        source := best, state := .qualify, ic := 0, totalTimer := 0, termination := none }) ∧
      (c.state ≠ .idle → c.select o = capped { c with source := best })) ∧
    (c.source ≠ .none → best ≠ .none → best ≠ c.source →
      c.select o = capped { c with source := best, ic := min c.ic 100, termination := none }) ∧
    (c.source ≠ .none → best = .none →
      (c.state ≠ .noBattery → c.select o = capped { c with
        source := .none, ic := 0, state := .idle, fault := .none, causes := ⟨false, false, false⟩ }) ∧
      (c.state = .noBattery → c.select o = capped { c with source := .none, ic := 0 }))

/-- GAUGE_MEASUREMENT: both blocks take the readings, the current clamped to ±5,000 mA, in the order the operand gives (log 6), and
the next measurement is a period later, 250 ms or in DORMANT 8,000 ms, where a change of power state keeps the target that is set,
but for the change from DORMANT to WAKING, which brings it to 250 ms from the count at the latest; in every power state the steps of
the reserve, of the cut-off (ReserveAndCutoff) and of the empty battery follow; with no source the reserve is issued in RUN at or
below its level, and an empty battery sends STANDBY to DORMANT; before its time a measurement finds nothing to do (R163, R169 to
R174, R180). A resumption into FULL counts as an entry (log 33), and the reserve is tested before the cut-off (log 57). The Charge
Controller works in the order of R163: timers, presence, band, overvoltage, suspension, progress, timer limits, cap, step, each by
its table: the cap is that of the state, halved in COOL and WARM and 0 in the stops, and while a clip is recorded the recording cap
at the most, and I_c falls to it; the limit is that of the selected input, with a sag threshold of 4,500 mV for USB (R154 to R159,
R161, R162, R164). The gauge counts before or after it is told of FULL, as the operand says, and GAUGE is raised by an estimate, by
FULL and by the empty anchor; CHARGE by a change of an input's state, of the source or of the charge state. That the timers hold
microseconds, no part of a ms dropped, is the model's (log 17). -/
def Obligations.Measurement : Prop :=
  ∀ (s : State) (r : Readings) (first : Bool),
    let now := s.clock.count
    let due := match s.gauge.next with
      | none => now ≠ 0
      | some t => 0 ≤ (now - t).toInt
    (due → s.power.state = .run → s.gauge.sourceSelected = true → s.gauge.reserve = false →
      let q := { r with current := max (-5000) (min 5000 r.current) }
      let c := s.charge.measure s.options q now
      let full := decide (c.state = .full ∧ s.charge.state ≠ .full)
      let g : Gauge := { s.gauge with
        next := some (stampAdd (s.gauge.next.getD now) (if s.gauge.slowCadence then 8000000 else 250000 : Nat))
        last := some ⟨q, now⟩, reserveLevel := s.options.reserve }
      let worked := g.work s.options q now full first
      exec (.gaugeMeasurement r first) s =
        .next (((({ s with charge := c, gauge := { worked.1 with cutoffRun := 0 } } : State).raiseIf (s.charge.news c)
          .charge).raiseIf worked.2 .gauge).settle)) ∧
    (due → s.gauge.sourceSelected = false → s.gauge.reserve = false → s.options.cutoffVoltage ≤ r.vbat →
      let q := { r with current := max (-5000) (min 5000 r.current) }
      let c := s.charge.measure s.options q now
      let full := decide (c.state = .full ∧ s.charge.state ≠ .full)
      let g : Gauge := { s.gauge with
        next := some (stampAdd (s.gauge.next.getD now) (if s.gauge.slowCadence then 8000000 else 250000 : Nat))
        last := some ⟨q, now⟩, reserveLevel := s.options.reserve }
      let worked := g.work s.options q now full first
      (s.power.state = .run → worked.1.state = .unset ∨ (s.options.reserve : Int) < worked.1.q / (s.options.capacity : Int) →
        exec (.gaugeMeasurement r first) s =
          .next (((({ s with charge := c, gauge := { worked.1 with cutoffRun := 0 } } : State).raiseIf (s.charge.news c)
            .charge).raiseIf worked.2 .gauge).settle)) ∧
      (s.power.state = .run → worked.1.state ≠ .unset → worked.1.q / (s.options.capacity : Int) ≤ s.options.reserve →
        ∃ x : State, exec (.gaugeMeasurement r first) s = .next x.settle ∧ x.charge = c ∧
          x.gauge = { worked.1 with reserve := true, cutoffRun := 0 } ∧ x.power = { s.power with reserveHeld := true } ∧
          x.media.writer.reserveHeld = true ∧ x.media.exch.flagSet .gauge = true ∧
          (s.media.writer.state = .recording →
            x.media.writer.state = .closing ∧ x.media.writer.closeCause = some .reserve)) ∧
      (s.power.state = .standby → s.charge.source = .none → worked.1.state ≠ .unset →
        worked.1.q / (s.options.capacity : Int) = 0 →
        ∃ x : State, exec (.gaugeMeasurement r first) s = .next x.settle ∧ x.power.state = .dormant ∧ x.charge = c ∧
          x.gauge.q = worked.1.q ∧ x.gauge.slowCadence = true ∧ x.clock.count = s.clock.count)) ∧
    (due →
      let q := { r with current := max (-5000) (min 5000 r.current) }
      let c := s.charge.measure s.options q now
      let full := decide (c.state = .full ∧ s.charge.state ≠ .full)
      let g : Gauge := { s.gauge with
        next := some (stampAdd (s.gauge.next.getD now) (if s.gauge.slowCadence then 8000000 else 250000 : Nat))
        last := some ⟨q, now⟩, reserveLevel := s.options.reserve }
      let worked := g.work s.options q now full first
      let done := fun h : Gauge =>
        (({ s with charge := c, gauge := h } : State).raiseIf (s.charge.news c) .charge).raiseIf worked.2 .gauge
      exec (.gaugeMeasurement r first) s = .next (((done worked.1).reserveStep.cutoffStep q).emptyStep).settle ∧
      (let level := worked.1.q / (s.options.capacity : Int)
       let empties := s.power.state = .standby ∧ s.charge.source = .none ∧ worked.1.state ≠ .unset ∧ level = 0
       let low := s.gauge.sourceSelected = false ∧ r.vbat < s.options.cutoffVoltage ∧ r.temperature.isSome = true
       let above := worked.1.state ≠ .unset ∧ (s.options.reserve : Int) + 20 < level
       let quiet := exec (.gaugeMeasurement r first) s = .next (done { worked.1 with cutoffRun := 0 }).settle
       (s.power.state ≠ .run → s.gauge.reserve = false → ¬low → ¬empties → quiet) ∧
       (s.gauge.reserve = true → ¬above → ¬low → ¬empties → quiet) ∧
       (s.gauge.reserve = true → above → ¬low → ¬empties →
         ∃ x : State, exec (.gaugeMeasurement r first) s = .next x.settle ∧ x.charge = c ∧
           x.gauge = { worked.1 with reserve := false, cutoffRun := 0 } ∧ x.power = { s.power with reserveHeld := false } ∧
           x.media.writer = { s.media.writer with reserveHeld := false } ∧ x.media.exch.flagSet .gauge = true)) ∧
      ∀ u : State,
        let empties := u.power.state = .standby ∧ u.charge.source = .none ∧ u.gauge.state ≠ .unset ∧
          u.gauge.q / (u.options.capacity : Int) = 0
        (empties → u.emptyStep = u.setPower .dormant) ∧ (¬empties → u.emptyStep = u)) ∧
    (¬due → exec (.gaugeMeasurement r first) s = .next s.settle) ∧
    (∀ after : PowerState,
      let g := (s.setPower after).gauge
      g.slowCadence = decide (after = .dormant) ∧
      (s.power.state ≠ .dormant ∨ after ≠ .waking → g.next = s.gauge.next) ∧
      (s.power.state = .dormant → after = .waking → s.gauge.next = none → g.next = none) ∧
      (∀ t : Stamp, s.power.state = .dormant → after = .waking → s.gauge.next = some t →
        let soon := stampAdd now 250000
        g.next = some (if 0 < (t - soon).toInt then soon else t))) ∧
  ∀ (c : Charge) (o : ChargeOptions) (stamp : Stamp),
    let counting := c.state = .precharge ∨ c.state = .fast ∨ c.state = .topoff
    let active := c.state = .qualify ∨ counting ∨ c.state = .full
    let v := if c.band = .warm then o.vreg - 100 else o.vreg
    (c.measure o r stamp = ((((((((({ c with inputCurrent := r.inputCurrent }.countTimers stamp).presence r).formBand o
      r).overvoltage o r).suspend o r).progress o (max (-5000) (min 5000 r.current)) r stamp).timerLimits o).recap o).step o
      r)) ∧
    (let elapsed := c.lastStamp.elim 0 fun l => (stamp - l).toInt.toNat
     (counting → c.countTimers stamp = { c with
       lastStamp := some stamp, totalTimer := min 4294967295000 (c.totalTimer + elapsed)
       prechargeTimer :=
         if c.state = .precharge then min 4294967295000 (c.prechargeTimer + elapsed) else c.prechargeTimer }) ∧
     (¬counting → c.countTimers stamp = { c with lastStamp := some stamp })) ∧
    (r.temperature = none → c.presence r = { c with
      state := .noBattery, ic := 0, prechargeTimer := 0, totalTimer := 0, termination := none
      causes := ⟨false, false, false⟩, fault := .none } ∧ c.formBand o r = c) ∧
    (∀ t : Int, r.temperature = some t →
      (c.state ≠ .noBattery → c.presence r = c) ∧
      (c.state = .noBattery → c.source = .none → c.presence r = { c with
        state := .idle, fault := .none, causes := ⟨false, false, false⟩ }) ∧
      (c.state = .noBattery → c.source ≠ .none → c.presence r = { c with
        state := .qualify, ic := 0, totalTimer := 0, termination := none }) ∧
      c.formBand o r = { c with band := if t < o.t1 then .coldStop else if t < o.t2 then .cool
        else if t < o.t3 then .normal else if t < o.t4 then .warm else .hotStop } ∧
      (let causes : SuspendCauses := ⟨c.causes.cold && decide (t < o.t1 + 3) || decide (c.band = .coldStop),
         c.causes.hot && decide (o.t4 - 3 < t) || decide (c.band = .hotStop),
         c.causes.die && decide (100 < r.die) || decide (110 < r.die)⟩
       (c.state = .suspended → causes ≠ ⟨false, false, false⟩ → c.suspend o r = { c with causes := causes }) ∧
       (∀ st : ChargeState, c.state = .suspended → causes = ⟨false, false, false⟩ → c.returnState = some st →
         c.suspend o r = { c with causes := causes, state := st }))) ∧
    (let stop := c.band = .coldStop ∨ c.band = .hotStop ∨ 110 < r.die
     (active → stop → c.suspend o r = { c with
       causes := ⟨decide (c.band = .coldStop), decide (c.band = .hotStop), decide (110 < r.die)⟩
       returnState := some c.state, state := .suspended, ic := 0, termination := none }) ∧
     (active → ¬stop → c.suspend o r = c)) ∧
    (let fault := fun reason : ChargeFault => { c with
       state := .fault, fault := reason, ic := 0, termination := none, causes := ⟨false, false, false⟩ }
     (active ∨ c.state = .suspended → o.vreg + 150 < r.vbat → c.overvoltage o r = fault .overvolt) ∧
     (¬(active ∨ c.state = .suspended) ∨ r.vbat ≤ o.vreg + 150 → c.overvoltage o r = c) ∧
     (let spent := (c.state = .precharge ∧ o.prechargeMinutes * 60000000 ≤ c.prechargeTimer) ∨
        (counting ∧ o.totalMinutes * 60000000 ≤ c.totalTimer)
      (spent → c.timerLimits o = fault .timer) ∧ (¬spent → c.timerLimits o = c))) ∧
    (∀ current : Int,
      (c.state = .qualify → c.progress o current r stamp =
        if r.vbat < 3000 then { c with state := .precharge, prechargeTimer := 0 } else { c with state := .fast }) ∧
      (c.state = .precharge → c.progress o current r stamp = if 3000 ≤ r.vbat then { c with state := .fast } else c) ∧
      (c.state = .fast → c.progress o current r stamp = if v ≤ r.vbat then { c with state := .topoff } else c) ∧
      (c.state = .topoff →
        let meets := current ≤ o.terminationCurrent ∧ v ≤ r.vbat + 20 ∧ r.inputCurrent ≤ (c.inputLimit o : Int) ∧
          c.sagThreshold o ≤ c.vin r
        (¬meets → c.progress o current r stamp = { c with termination := none }) ∧
        (meets → c.termination = none → c.progress o current r stamp = { c with termination := some stamp }) ∧
        (∀ start : Stamp, meets → c.termination = some start → (stamp - start).toInt < 60000000 →
          c.progress o current r stamp = c) ∧
        (∀ start : Stamp, meets → c.termination = some start → 60000000 ≤ (stamp - start).toInt →
          c.progress o current r stamp = { c with state := .full, ic := 0 })) ∧
      (c.state = .full → c.progress o current r stamp =
        if r.vbat + 100 < v then { c with state := .fast, totalTimer := 0, termination := none } else c) ∧
      (c.state = .noBattery ∨ c.state = .idle ∨ c.state = .suspended ∨ c.state = .fault →
        c.progress o current r stamp = c)) ∧
    (let own := if c.state = .precharge then o.prechargeCurrent else if c.state = .fast ∨ c.state = .topoff then o.icc else 0
     let banded := if c.band = .normal then own else if c.band = .cool ∨ c.band = .warm then own / 2 else 0
     let cap := if c.recording then min banded o.recordingCap else banded
     c.recap o = { c with cap := cap, ic := min c.ic cap }) ∧
    (let strained := (c.inputLimit o : Int) < r.inputCurrent ∨ c.vin r < c.sagThreshold o
     let room := r.inputCurrent + 100 ≤ (c.inputLimit o : Int) ∧ c.sagThreshold o + 200 ≤ c.vin r ∧
       (c.state = .topoff → r.vbat + 20 < v)
     let moved := if strained then c.ic - 100 else if room then c.ic + 50 else c.ic
     c.step o r = { c with
       ic := min (if c.state = .topoff ∧ v < r.vbat then moved - 50 else moved) c.cap }) ∧
    (let clamped := max (-5000) (min 5000 r.current)
     (c.source = .usb → c.inputLimit o = c.usbLimit ∧ c.sagThreshold o = 4500 ∧ c.vin r = r.vinUsb) ∧
     (c.source = .aux → c.inputLimit o = o.auxLimit ∧ c.sagThreshold o = o.auxSag ∧ c.vin r = r.vinAux) ∧
     (∀ d : Charge, c.news d = true ↔ c.usb.state ≠ d.usb.state ∨ c.aux.state ≠ d.aux.state ∨ c.source ≠ d.source ∨
       c.state ≠ d.state) ∧
     ∀ (g : Gauge) (full : Bool),
       let told := fun h : Gauge => if full then h.full o else h
       let raises := fun h : Gauge => full = true ∨ (r.temperature.isSome = true ∧ (h.state = .unset ∨ h.wasOpen = true ∨
         (r.vbat ≤ o.emptyVoltage ∧ clamped < 0)))
       ((g.work o r stamp full true).1 = told (g.account o r stamp) ∧
         ((g.work o r stamp full true).2 = true ↔ raises g)) ∧
       (g.work o r stamp full false).1 = (told g).account o r stamp ∧
         ((g.work o r stamp full false).2 = true ↔ raises (told g)))

/-- SET_INPUT_LIMIT: the limit taken is clamped and stepped, with CLAMPED exactly when that changed it, and the steps that follow a limit
below the input current back off by 100 mA (R165). -/
def Obligations.SetInputLimit : Prop :=
  (∀ (s : State) (slot milliamps : Nat) (stamp : Stamp),
    s.media.exch.nextRequest .charge = some ⟨slot, .setInputLimit milliamps, stamp⟩ →
    let t := s.modExch fun e => e.requestTakenBy .charge
    let raised := max 100 (min 3000 milliamps)
    let limit := raised - raised % 50
    exec .setInputLimit s = .next (({ t with charge := { s.charge with usbLimit := limit } } : State).answer slot
      { Answer.done with clamped := decide (limit ≠ milliamps) }) ∧ 100 ≤ limit ∧ limit ≤ 3000 ∧ limit % 50 = 0) ∧
  (∀ (c : Charge) (o : ChargeOptions) (r : Readings), c.source = .usb → (c.usbLimit : Int) < r.inputCurrent →
    (c.step o r).ic ≤ c.ic - 100 ∧ (c.state ≠ .topoff → (c.step o r).ic = min (c.ic - 100) c.cap))

/-- CLEAR_CHARGE_FAULT: FAULT becomes QUALIFY with the reason NONE, its timers afresh, and CHARGE raised; any other state is left; a cell
still too high is in FAULT OVERVOLT again after one measurement (R155, R160). -/
def Obligations.ClearChargeFault : Prop :=
  (∀ (s : State) (slot : Nat) (stamp : Stamp), s.media.exch.nextRequest .charge = some ⟨slot, .clearChargeFault, stamp⟩ →
    let t := s.modExch fun e => e.requestTakenBy .charge
    (s.charge.state = .fault → exec .clearChargeFault s = .next ((({ t with charge := { s.charge with
      state := .qualify, fault := .none, ic := 0, cap := 0, totalTimer := 0, termination := none } } :
        State).raise .charge).answer slot .done)) ∧
    (s.charge.state ≠ .fault → exec .clearChargeFault s = .next (t.answer slot .done))) ∧
  (∀ (c : Charge) (o : ChargeOptions) (r : Readings) (stamp : Stamp), c.state = .qualify → r.temperature.isSome = true →
    o.vreg + 150 < r.vbat → (c.measure o r stamp).state = .fault ∧ (c.measure o r stamp).fault = .overvolt) ∧
  (∀ (c : Charge) (o : ChargeOptions) (r : Readings) (current : Int) (stamp : Stamp), c.state = .qualify → r.vbat < 3000 →
    (c.progress o current r stamp).state = .precharge ∧ (c.progress o current r stamp).prechargeTimer = 0)

/-- Counting loses no charge: Q and its carry take exactly current × time, with the part of a millisecond kept, but at an end of the
range: a sum below 0 leaves Q at 0, one above the capacity leaves it at the capacity, each with no carry; with no last stamp nothing
is counted (R170). The estimate by interpolation in the open-circuit table, what a measurement makes of Q, by its readings, the two
anchors, and a load of another capacity (R171 to R173). -/
def Obligations.GaugeCount : Prop :=
  ∀ (g : Gauge) (o : ChargeOptions) (current interval : Int), 0 ≤ interval → g.carry.natAbs < 3600 →
    let d := g.count o current interval
    let micros := interval.toNat + g.remainder
    let sum := g.q + (current * (micros / 1000 : Nat) + g.carry).tdiv 3600
    d = { g with q := d.q, carry := d.carry, remainder := micros % 1000 } ∧
      d.carry.natAbs < 3600 ∧ 0 ≤ d.q ∧ d.q ≤ (o.capacity * 1000 : Nat) ∧
      (sum < 0 → d.q = 0 ∧ d.carry = 0) ∧ ((o.capacity * 1000 : Nat) < sum → d.q = (o.capacity * 1000 : Nat) ∧ d.carry = 0) ∧
      (0 ≤ sum → sum ≤ (o.capacity * 1000 : Nat) →
        d.q = sum ∧ d.q * 3600 + d.carry = g.q * 3600 + g.carry + current * (micros / 1000 : Nat)) ∧
  (∀ (vbat : Nat) (stamp : Stamp), strictlyRising o.openCircuit = true → o.openCircuit.length = 11 →
    let v := fun i : Nat => o.openCircuit.getD i 0
    let e := g.estimate o vbat stamp
    e = { g with q := e.q, carry := 0, state := .estimated, lastStamp := some stamp } ∧ (vbat ≤ v 0 → e.q = 0) ∧
      (v 10 ≤ vbat → e.q = (o.capacity * 1000 : Nat)) ∧
      ∀ i, i < 10 → v i ≤ vbat → vbat < v (i + 1) → e.q =
        (o.capacity * (100 * i * (v (i + 1) - v i) + 100 * (vbat - v i)) / (v (i + 1) - v i) : Nat)) ∧
  (∀ (r : Readings) (stamp : Stamp),
    let read := r.temperature.isSome = true
    let estimated := read ∧ (g.state = .unset ∨ g.wasOpen = true)
    let clamped := max (-5000) (min 5000 r.current)
    let anchored := fun h : Gauge => if r.vbat ≤ o.emptyVoltage ∧ clamped < 0 then
      { h with q := 0, carry := 0, state := .anchored } else h
    (¬read → g.account o r stamp = { g with
      lastStamp := some stamp, wasOpen := true, remainder := if g.lastStamp = none then 0 else g.remainder }) ∧
    (estimated → g.account o r stamp = anchored { g.estimate o r.vbat stamp with wasOpen := false }) ∧
    (∀ last : Stamp, read → ¬estimated → g.lastStamp = some last → g.account o r stamp =
      anchored { g.count o clamped (stamp - last).toInt with lastStamp := some stamp, wasOpen := false }) ∧
    (read → ¬estimated → g.lastStamp = none → g.account o r stamp =
      anchored { g with remainder := 0, lastStamp := some stamp, wasOpen := false }) ∧
    g.full o = { g with q := (o.capacity * 1000 : Nat), carry := 0, state := .anchored }) ∧
  (∀ before : ChargeOptions,
    (before.capacity = o.capacity → g.newCapacity before o = g) ∧
    (before.capacity ≠ o.capacity → 0 ≤ g.q → g.newCapacity before o = { g with
      state := if g.state = .unset then .unset else .estimated
      q := min g.q (o.capacity * 1000 : Nat)
      carry := if g.q ≤ (o.capacity * 1000 : Nat) then g.carry else 0 }))

/-- The reserve is issued in RUN with no source at or below the reserve level in force, that of the last measurement, once, at a
measurement, a report of the source or a change of power state to RUN; it is cleared by a selection, or by a measurement above the
level plus 20 per mille. A second low measurement in a row sends CUTOFF, once; a selection sets the run to 0 and takes the lock off.
CUTOFF locks turn-ons; in RUN it enters SHUTTING with its 1,000 ms, in SHUTTING it brings the close limit forward (R126, R171, R174,
R175, R184, R185). -/
def Obligations.ReserveAndCutoff : Prop :=
  (∀ s : State, s.gauge.state ≠ .unset → s.gauge.q / (s.options.capacity : Int) ≤ s.gauge.reserveLevel → s.power.state = .run →
    s.gauge.sourceSelected = false →
    (s.gauge.reserve = false → s.reserveTest = ({ s with
      gauge := { s.gauge with reserve := true }
      power := { s.power with reserveHeld := true }
      media := ({ s.media with writer := { s.media.writer with reserveHeld := true } } : Media).closeBegin s.env .reserve } :
        State).raise .gauge) ∧
    (s.gauge.reserve = true → s.reserveTest = s)) ∧
  (∀ s : State,
    let cleared := ({ s with
      gauge := { s.gauge with reserve := false }
      power := { s.power with reserveHeld := false }
      media := { s.media with writer := { s.media.writer with reserveHeld := false } } } : State).raise .gauge
    let above := s.gauge.state ≠ .unset ∧ (s.gauge.reserveLevel : Int) + 20 < s.gauge.q / (s.options.capacity : Int)
    (s.gauge.reserve = true → above → s.reserveStep = cleared) ∧
    (s.gauge.reserve = true → ¬above → s.reserveStep = s) ∧
    (s.gauge.reserve = false → s.reserveStep = s.reserveTest) ∧
    (s.charge.source ≠ .none →
      let selected := fun t : State => ({ t with
        gauge := { t.gauge with sourceSelected := true, cutoffRun := 0 }
        power := { t.power with cutoffLock := false } } : State)
      (s.gauge.reserve = true → s.sourceReport = selected cleared) ∧
      (s.gauge.reserve = false → s.sourceReport = selected s)) ∧
    (∀ after : PowerState, let x := s.setPower after
      let holds := after = .run ∧ s.gauge.state ≠ .unset ∧ s.gauge.sourceSelected = false ∧
        s.gauge.q / (s.options.capacity : Int) ≤ s.gauge.reserveLevel
      (s.gauge.reserve = false → holds → x.gauge.reserve = true ∧ x.power.reserveHeld = true ∧
        x.media.writer.reserveHeld = true ∧ x.media.exch.flagSet .gauge = true ∧ x.power.state = .run ∧
        (s.media.writer.state = .recording →
          x.media.writer.state = .closing ∧ x.media.writer.closeCause = some .reserve)) ∧
      (s.gauge.reserve = true ∨ ¬holds → x.gauge.reserve = s.gauge.reserve ∧ x.power.reserveHeld = s.power.reserveHeld ∧
        x.media.writer.reserveHeld = s.media.writer.reserveHeld)) ∧
    (s.charge.source = .none →
      s.sourceReport = ({ s with gauge := { s.gauge with sourceSelected := false } } : State).reserveTest)) ∧
  (∀ (s : State) (r : Readings),
    let low := r.vbat < s.options.cutoffVoltage ∧ s.gauge.sourceSelected = false ∧ r.temperature.isSome = true
    let runs := fun n : Nat => ({ s with gauge := { s.gauge with cutoffRun := n } } : State)
    (¬low → s.cutoffStep r = runs 0) ∧
    (low → s.gauge.cutoffRun = 0 → s.cutoffStep r = runs 1) ∧
    (low → s.gauge.cutoffRun = 1 → s.cutoffStep r = ((runs 2).raise .gauge).cutoff) ∧
    (low → s.gauge.cutoffRun = 2 → s.cutoffStep r = runs 2)) ∧
  (∀ s : State,
    (s.power.state = .run → let x := s.cutoff
      x.power.state = .shutting ∧ x.power.cutoffLock = true ∧ x.power.cause = .cutoff ∧
        x.power.record = { s.power.record with lastShutdown := .cutoff } ∧
        x.power.closeTarget = some (stampAdd s.clock.count 1000000) ∧ x.power.key.hold = none ∧
        (s.media.writer.state = .recording →
          x.media.writer.state = .closing ∧ x.media.writer.closeCause = some .shutdown) ∧
        x.clock.count = s.clock.count ∧ x.motion = s.motion ∧ x.charge = s.charge) ∧
    (∀ t : Stamp, s.power.state = .shutting → s.power.closeTarget = some t →
      let soon := stampAdd s.clock.count 1000000
      s.cutoff = { s with power := { s.power with
        cutoffLock := true, closeTarget := some (if 0 < (t - soon).toInt then soon else t) } }) ∧
    (s.power.state = .standby ∨ s.power.state = .waking ∨ s.power.state = .dormant →
      s.cutoff = { s with power := { s.power with cutoffLock := true } }))

/-- SUPPLY_WARNING_ASSERT and SUPPLY_WARNING_REMOVE: the writer HALTED, no write run left, the rail cut in RUN and SHUTTING with
SUPPLY as the last shutdown cause in RUN, and GAUGE raised, which stands in STANDBY, DORMANT and WAKING and is cleared by the rail
cut of RUN and SHUTTING, which ends motion intake, at the end of a burst that is in flight, and keeps the profile, the bias and a
transfer in flight, the select line of one in flight as it is by the model's choice (log 69) (R31, R129, R147, R176, R185, R191); a
removal only raises GAUGE. A writer that halts keeps its tables with the open clip OPEN, its drop count raised by each host chunk
admitted; every held edition receives ABANDONED, the waiting requests and a read-back are answered FAILED(SUPPLY), MOTION chunks are
returned, and a mount or format in progress ends without a volume (R100, R129). The order against the rail cut is the model's (logs
6 and 58), and so is that an assertion repeated changes nothing (log 3). -/
def Obligations.SupplyWarning : Prop :=
  (∀ s : State,
    (s.gauge.warning = false →
      let t := ({ s with gauge := { s.gauge with warning := true } } : State).raise .gauge
      let m := t.media.halt ⟨s.clock.count, true⟩
      let u : State := { t with media := { m with card := m.card.supplyWarning s.clock.count } }
      (s.power.state = .standby ∨ s.power.state = .dormant ∨ s.power.state = .waking →
        exec .supplyWarningAssert s = .next u.settle) ∧
      (s.power.state = .shutting → exec .supplyWarningAssert s = .next u.cutRail.settle) ∧
      (s.power.state = .run → exec .supplyWarningAssert s = .next ({ u with power := { u.power with
        record := { u.power.record with lastShutdown := .supply } } } : State).cutRail.settle)) ∧
    (s.gauge.warning = false → ∃ x : State, exec .supplyWarningAssert s = .next x.settle ∧ x.gauge.warning = true ∧
      x.clock.count = s.clock.count ∧ x.media.writer.state = .halted ∧
      (∀ r : Run, x.media.card.run = some r → r.claim.data = none) ∧
      (s.power.state = .run ∨ s.power.state = .shutting →
        (x.power.state = .standby ∨ x.power.state = .dormant) ∧ x.media.exch.state = .stopped ∧
          x.media.card.state = .absent ∧ x.media.exch.flagSet .gauge = false ∧
        (s.motion.state ≠ .running → x.motion = s.motion ∧ x.integ = s.integ) ∧
        (s.motion.state = .running → s.motion.activity = .burst →
          x.motion = { s.motion with stopWaiting := true } ∧ x.integ = s.integ) ∧
        (s.motion.state = .running → s.motion.activity ≠ .burst → x.motion = { s.motion with
            state := .ready, stopWaiting := false, missed := 0, prevStamp := none, seedWaiting := false, stillRun := 0
            stopSlots := [] } ∧
          x.integ = { s.integ with state := .idle } ∧ x.media.steady.state = .idle ∧ x.media.steady.frames = [] ∧
          x.incident.shockRun = 0 ∧ x.incident.runPeak = 0)) ∧
      (s.power.state = .run → x.power.record = { s.power.record with lastShutdown := .supply }) ∧
      (s.power.state = .standby ∨ s.power.state = .dormant ∨ s.power.state = .waking →
        x.power = s.power ∧ x.media.exch.flagSet .gauge = true)) ∧
    (s.gauge.warning = true →
      exec .supplyWarningAssert s = .next s.settle ∧
      exec .supplyWarningRemove s =
        .next (({ s with gauge := { s.gauge with warning := false } } : State).raise .gauge).settle) ∧
    (s.gauge.warning = false → exec .supplyWarningRemove s = .next s.settle)) ∧
  ∀ (m : Media) (env : Env),
    let w := m.writer
    let x := m.halt env
    let answered := fun (slot : Nat) (a : Answer) => ∀ k : Working, m.exch.working.getD slot none = some k →
      ∃ t ∈ x.exch.transfers, t.purpose = .record (answerRecord slot k.edition k.kind a) .head
    (w.state = .halted → x = m) ∧
    (w.state ≠ .halted →
      x.writer.state = .halted ∧ x.writer.held = [] ∧ x.writer.parked = [] ∧ x.writer.queue = [] ∧ x.writer.wip = none ∧
      x.writer.waiting = [] ∧ x.writer.stopSlots = [] ∧ x.writer.unmounting = none ∧ x.writer.readBack = none ∧
      x.writer.job = none ∧ x.card.volume = none ∧ x.card.chunk = none ∧ x.card.readBack = none ∧
      x.card.run = (m.card.run.map fun r => { r with wanted := false }) ∧
      (w.job ≠ none → x.writer.mounted = false ∧ x.writer.tables = none) ∧
      (w.job = none → x.writer.mounted = w.mounted) ∧
      (w.job = none → w.openIndex = none → x.writer.tables = w.tables) ∧
      (∀ (d : Tables) (i : Nat), w.job = none → w.tables = some d → w.openIndex = some i → x.writer.tables = some { d with
        dir := d.dir.modify i (Option.map fun c => { c with drops := c.drops + hostCount w.admitted }) }) ∧
      (∀ id : BufferId, (∃ k ∈ w.admitted ++ w.parked, k.source = .buffer id) ∨
        (m.steady.filling = some id ∧ (m.steady.buffer id).records ≠ []) → x.steady.buffer id = ⟨.free, []⟩) ∧
      (m.exch.state = .running →
        (∀ h ∈ w.held, ∃ t ∈ x.exch.transfers, t.purpose = .record (receiptRecord h .abandoned) .head) ∧
        (∀ slot ∈ w.waitingSlots ++ w.stopSlots ++ w.unmounting.getD [], answered slot (.failed .supply)) ∧
        (∀ r : ReadBack, w.readBack = some r → answered r.slot { Answer.failed .supply with data := toLe 4 r.copied }) ∧
        (∀ j : VolumeJob, w.job = some j → answered j.slot (.failed .supply))))

/-! ### The Power State Controller (spec/11) -/

/-- The POWER key: its edges and 20 ms debounces in RUN, the 6,000 ms that turn the camera off there, the 1,000 ms that turn it on
in STANDBY, the short press counted, and the press that leaves DORMANT; the hold in RUN enters SHUTTING with cause KEY and its limit
of 2,000 ms, or 1,000 ms with the reserve held. In WAKING and STANDBY a press sets TURN_ON and a key that is UP again lets the part
go to DORMANT; in SHUTTING a press sets no wait. A release abandoned after its hold has expired acts at once as a press held to it.
In DORMANT a debounce that runs ends as elsewhere. The key becomes LONG at the changes of power state that say so, and leaves LONG
by a release. At a change of power state the Ride Clock records the handover that the new state requires, or cancels the pending one
when its path is already in force, and nothing else of it changes but the main oscillator: it is started at the entry to WAKING, and
stopped at once at an entry to DORMANT on the slow path (R4, R5, R7, R179 to R184). That a LONG key wakes DORMANT too, and keeps a
release debounce that was running, is the model's (logs 38 and 27). -/
def Obligations.PowerKey : Prop :=
  ∀ s : State,
    let k := s.power.key
    let now := s.clock.count
    let goes := fun key : Key => ({ s with power := { s.power with key := key } } : State)
    let due := 20000 ≤ (now - k.edge).toInt
    (s.power.state = .run →
      (k.state = .up → exec (.powerKeyEdge true) s =
        .next (goes { k with state := .pressing, edge := now, debouncing := true }).settle) ∧
      (k.state = .pressing → exec (.powerKeyEdge false) s =
        .next (goes { k with state := .up, debouncing := false }).settle) ∧
      (k.state = .down → exec (.powerKeyEdge false) s =
        .next (goes { k with state := .releasing, edge := now, debouncing := true }).settle) ∧
      (k.state = .releasing → k.hold.all (fun h => !h.expired) = true → exec (.powerKeyEdge true) s =
        .next (goes { k with state := .down, debouncing := false }).settle) ∧
      (k.state = .pressing → k.debouncing = true → due → exec .powerDebounceExpiry s =
        .next (goes { k with
          state := .down, press := k.edge, debouncing := false, hold := some ⟨.turnOff, false⟩ }).settle) ∧
      (k.state = .releasing → k.debouncing = true → due → exec .powerDebounceExpiry s =
        .next (({ s with power := { s.power with
          key := { k with state := .up, debouncing := false, hold := none }
          pressCount := s.power.pressCount + 1 } } : State).raise .key).settle) ∧
      (k.state = .down → k.hold = some ⟨.turnOff, false⟩ → 6000000 ≤ (now - k.press).toInt → exec .powerHoldExpiry s =
        .next ((goes { k with state := .long, hold := none, debouncing := false }).enterShutting .key).settle)) ∧
    (s.power.state = .run → let x := s.enterShutting .key
      x.power.state = .shutting ∧ x.power.cause = .key ∧ x.power.record = { s.power.record with lastShutdown := .key } ∧
        x.power.closeTarget = some (stampAdd now (if s.power.reserveHeld then 1000000 else 2000000 : Nat)) ∧
        x.power.key.hold = none ∧ (s.media.writer.state = .recording →
          x.media.writer.state = .closing ∧ x.media.writer.closeCause = some .shutdown) ∧
        x.clock.count = now ∧ x.motion = s.motion ∧ x.charge = s.charge) ∧
    (k.debouncing = false ∨ ¬due → exec .powerDebounceExpiry s = .next s.settle) ∧
    (k.hold = none → exec .powerHoldExpiry s = .next s.settle) ∧
    (s.power.state = .standby → k.state = .down → k.hold = some ⟨.turnOn, false⟩ → 1000000 ≤ (now - k.press).toInt →
      (s.power.cutoffLock = false → s.gauge.warning = false →
        ∃ x : State, exec .powerHoldExpiry s = .next x.settle ∧ x.power.state = .run ∧ x.power.key.state = .long ∧
          x.power.key.hold = none ∧ x.clock.count = now) ∧
      (s.power.cutoffLock = true ∨ s.gauge.warning = true → exec .powerHoldExpiry s =
        .next (goes { k with state := .long, hold := none, debouncing := false }).settle)) ∧
    (k.state = .releasing → ∀ h : Hold, k.hold = some h → h.expired = true →
      let long : Key := { k with state := .long, hold := none, debouncing := false }
      (s.power.state = .run → h.kind = .turnOff →
        exec (.powerKeyEdge true) s = .next ((goes long).enterShutting .key).settle) ∧
      (s.power.state = .standby → h.kind = .turnOn →
        (s.power.cutoffLock = true ∨ s.gauge.warning = true → exec (.powerKeyEdge true) s = .next (goes long).settle) ∧
        (s.power.cutoffLock = false → s.gauge.warning = false →
          ∃ x : State, exec (.powerKeyEdge true) s = .next x.settle ∧ x.power.state = .run ∧ x.power.key = long ∧
            x.clock.count = now)) ∧
      (s.power.state = .waking ∨ s.power.state = .shutting →
        exec (.powerKeyEdge true) s = .next (goes { k with state := .down, debouncing := false }).settle)) ∧
    (s.power.state = .dormant → k.debouncing = true → due →
      (k.state = .long → exec .powerDebounceExpiry s = .next (goes { k with state := .up, debouncing := false }).settle) ∧
      (k.state = .releasing → exec .powerDebounceExpiry s =
        .next (goes { k with state := .up, debouncing := false, hold := none }).settle) ∧
      (k.state = .pressing → exec .powerDebounceExpiry s =
        .next (goes { k with state := .down, press := k.edge, debouncing := false }).settle)) ∧
    (s.power.state = .dormant → k.state = .up → ∃ x : State, exec (.powerKeyEdge true) s = .next x.settle ∧
      x.power.state = .waking ∧ x.power.key = { k with state := .pressing, edge := now, debouncing := true } ∧
      x.power.settleCount = 0 ∧ x.power.settleFast = s.options.fastSettle ∧ x.clock.mainOsc = true ∧ x.clock.count = now) ∧
    (s.power.state = .dormant → k.state = .long → ∃ x : State, exec (.powerKeyEdge true) s = .next x.settle ∧
      x.power.state = .waking ∧ x.power.key = { k with debouncing := false } ∧ x.clock.count = now) ∧
    (s.power.state = .waking ∨ s.power.state = .standby ∨ s.power.state = .shutting →
      let freed := fun (c : Instr) (key : Key) =>
        (s.power.state = .shutting ∨ s.charge.usb.state ≠ .absent ∨ s.charge.aux.state ≠ .absent →
          exec c s = .next (goes key).settle) ∧
        (s.power.state ≠ .shutting → s.charge.usb.state = .absent → s.charge.aux.state = .absent →
          ∃ x : State, exec c s = .next x.settle ∧ x.power.state = .dormant ∧ x.power.key = { key with hold := none } ∧
            x.clock.count = now)
      (k.state = .up → exec (.powerKeyEdge true) s =
        .next (goes { k with state := .pressing, edge := now, debouncing := true }).settle) ∧
      (k.state = .pressing → freed (.powerKeyEdge false) { k with state := .up, debouncing := false }) ∧
      (k.state = .down → exec (.powerKeyEdge false) s =
        .next (goes { k with state := .releasing, edge := now, debouncing := true }).settle) ∧
      (k.state = .releasing → k.hold.all (fun h => !h.expired) = true → exec (.powerKeyEdge true) s =
        .next (goes { k with state := .down, debouncing := false }).settle) ∧
      (k.state = .pressing → k.debouncing = true → due → exec .powerDebounceExpiry s = .next (goes { k with
        state := .down, press := k.edge, debouncing := false
        hold := if s.power.state = .shutting then k.hold else some ⟨.turnOn, false⟩ }).settle) ∧
      (k.state = .releasing → k.debouncing = true → due →
        freed .powerDebounceExpiry { k with state := .up, debouncing := false, hold := none }) ∧
      (k.state = .long → k.debouncing = true → due →
        freed .powerDebounceExpiry { k with state := .up, debouncing := false })) ∧
    (k.state = .long → exec (.powerKeyEdge false) s = .next (goes { k with edge := now, debouncing := true }).settle) ∧
    (k.state = .long → s.power.state ≠ .dormant →
      exec (.powerKeyEdge true) s = .next (goes { k with debouncing := false }).settle) ∧
    (s.power.state = .run → k.state = .long → k.debouncing = true → due →
      exec .powerDebounceExpiry s = .next (goes { k with state := .up, debouncing := false }).settle) ∧
    (∀ h : Hold, k.state = .releasing → k.hold = some h → h.expired = false → (h.kind.micros : Int) ≤ (now - k.press).toInt →
      exec .powerHoldExpiry s = .next (goes { k with hold := some { h with expired := true } }).settle) ∧
    (∀ after : PowerState,
      let x := (s.setPower after).power
      let ends := after = .dormant ∨ after = .shutting ∨ after = .run ∨
        (after = .standby ∧ (s.power.state = .run ∨ s.power.state = .shutting))
      (ends → k.state = .up → x.key = { k with hold := none }) ∧
      (ends → k.state ≠ .up → x.key = { k with
        state := .long, hold := none
        debouncing := k.debouncing && decide (k.state = .releasing ∨ k.state = .long) }) ∧
      (¬ends → x.key = k)) ∧
    (∀ after : PowerState,
      let c := s.clock
      let d := (s.setPower after).clock
      d = { c with handover := d.handover, mainOsc := d.mainOsc } ∧
      (c.path = .fast → d.handover = if after = .dormant then .toSlow else .none) ∧
      (c.path = .slow → d.handover = if after = .dormant then .none else .toFast) ∧
      (after = .waking → d.mainOsc = true) ∧ (after = .dormant → c.path = .slow → d.mainOsc = false) ∧
      (after = .dormant → c.path = .fast → d.mainOsc = c.mainOsc) ∧
      (after ≠ .waking → after ≠ .dormant → d.mainOsc = c.mainOsc))

/-- SHUTDOWN in RUN is answered DONE, enters SHUTTING with its close limit and asks the writer to close; in SHUTTING it is only
answered, and so it is, by the model's choice, in the states where the host cannot send it (log 5). At the close limit the rail goes
off: the link is down, the card's supply gone, the MARK key UP and no hold wait of the POWER key left; intake ends with no answer,
at the end of a burst that is in flight, a transfer in flight runs on, and the profile and the bias stay, with the select line of a
burst or transfer in flight as it is, which is the model's (log 69) (R31, R77, R127, R137, R146, R181, R184, R191). A writer that
becomes IDLE or UNMOUNTED reports it, and a report that stands in SHUTTING once the media blocks have settled ends it clean: the
rail is cut (R107, R184). That it is cut within the same step is the model's (log 31). -/
def Obligations.Shutdown : Prop :=
  (∀ (s : State) (slot : Nat) (stamp : Stamp), s.media.exch.nextRequest .power = some ⟨slot, .shutdown, stamp⟩ →
    let t := s.modExch fun e => e.requestTakenBy .power
    (s.power.state = .run → let x := (t.answer slot .done).enterShutting .request
      exec .shutdown s = .next x.settle ∧
      (∀ k : Working, s.media.exch.working.getD slot none = some k → s.media.exch.state = .running →
        ∃ u ∈ x.media.exch.transfers, u.purpose = .record (answerRecord slot k.edition k.kind .done) .head) ∧
      x.power.state = .shutting ∧
      x.power.cause = .request ∧ x.power.record = { s.power.record with lastShutdown := .request } ∧
      x.power.closeTarget = some (stampAdd s.clock.count (if s.power.reserveHeld then 1000000 else 5000000 : Nat)) ∧
      x.power.key.hold = none ∧ (s.media.writer.state = .recording →
        x.media.writer.state = .closing ∧ x.media.writer.closeCause = some .shutdown) ∧
      (s.media.writer.state = .idle ∨ s.media.writer.state = .unmounted → x.media.writer.idleReport = true) ∧
      x.clock.count = s.clock.count ∧ x.motion = s.motion ∧ x.charge = s.charge) ∧
    (s.power.state ≠ .run → exec .shutdown s = .next (t.answer slot .done).settle)) ∧
  (∀ (s : State) (target : Stamp), s.power.closeTarget = some target →
    (s.power.state = .shutting → 0 ≤ (s.clock.count - target).toInt →
      ∃ x : State, exec .closeLimitExpiry s = .next x.settle ∧
        x.power.state = (if s.charge.usb.state = .absent ∧ s.charge.aux.state = .absent ∧ s.power.key.state = .up
          then .dormant else .standby) ∧ x.power.cause = .none ∧ x.power.closeTarget = none ∧
        x.media.exch.state = .stopped ∧ x.media.exch.control = 0 ∧ x.media.exch.base = 0 ∧ x.media.exch.pickup = none ∧
        x.media.card.state = .absent ∧ x.media.card.detect = false ∧ x.incident.key.state = .up ∧
        x.power.key.hold = none ∧ (x.power.key.state = .up ∨ x.power.key.state = .long) ∧ x.clock.count = s.clock.count ∧
        x.power.record = s.power.record ∧
        (s.motion.state ≠ .running → x.motion = s.motion ∧ x.integ = s.integ) ∧
        (s.motion.state = .running → s.motion.activity = .burst →
          x.motion = { s.motion with stopWaiting := true } ∧ x.integ = s.integ) ∧
        (s.motion.state = .running → s.motion.activity ≠ .burst → x.motion = { s.motion with
            state := .ready, stopWaiting := false, missed := 0, prevStamp := none, seedWaiting := false, stillRun := 0
            stopSlots := [] } ∧
          x.integ = { s.integ with state := .idle } ∧ x.media.steady.state = .idle ∧ x.media.steady.frames = [] ∧
          x.incident.shockRun = 0 ∧ x.incident.runPeak = 0)) ∧
    (s.power.state ≠ .shutting ∨ (s.clock.count - target).toInt < 0 → exec .closeLimitExpiry s = .next s)) ∧
  (∀ s : State, s.power.state = .shutting →
    let t := s.settleMedia
    (t.media.writer.idleReport = false → s.settle = t.clearReport) ∧
    (t.media.writer.idleReport = true → s.settle = t.cutRail.settleMedia.clearReport ∧
      s.settle.power.state = (if s.charge.usb.state = .absent ∧ s.charge.aux.state = .absent ∧ s.power.key.state = .up
          then .dormant else .standby) ∧ s.settle.power.cause = .none ∧ s.settle.power.closeTarget = none)) ∧
  (∀ (m : Media) (st : WriterState), m.enter st = { m with writer := { m.writer with
    state := st
    idleReport := m.writer.idleReport || decide (st = .idle ∨ st = .unmounted)
    recordingReport := m.writer.recordingReport || decide (st = .recording ∨ st = .closing) } }) ∧
  (∀ s : State, s.clearReport = { s with media := { s.media with writer := { s.media.writer with
    idleReport := false, recordingReport := false } } })

/-- STORE_CHARGE_OPTIONS captures the options in force, or is refused while a store runs or the supply warning stands; the end of the
write leaves the block VALID with the bytes captured, or FAILING, and answers (R187). That a failed compare leaves a block that cannot be
read is the model's choice (log 18). -/
def Obligations.StoreOptions : Prop :=
  (∀ (s : State) (slot : Nat) (stamp : Stamp), s.media.exch.nextRequest .power = some ⟨slot, .storeChargeOptions, stamp⟩ →
    let t := s.modExch fun e => e.requestTakenBy .power
    (s.power.storing = none → s.gauge.warning = false → exec .storeChargeOptions s =
      .next { t with power := { s.power with storing := some ⟨storedBlock s.options, some slot⟩ } }) ∧
    (s.power.storing ≠ none ∨ s.gauge.warning = true → exec .storeChargeOptions s =
      .next (t.answer slot .refusedState))) ∧
  (∀ (s : State) (bytes : List Byte) (slot : Option Nat), s.power.storing = some ⟨bytes, slot⟩ →
    exec (.storeWriteComplete true) s = .next (({ s with power := { s.power with
      storing := none, blockStatus := .valid, block := bytes, blockTorn := false } } : State).answerAll slot.toList .done) ∧
    exec (.storeWriteComplete false) s = .next (({ s with power := { s.power with
      storing := none, blockStatus := .failing, blockTorn := true } } : State).answerAll slot.toList (.failed .store)))

/-- What STORE_CHARGE_OPTIONS wrote, a reset reads back: a stored block of options within their ranges is VALID and gives the same
options (R153, R168, R186, R187, R200). -/
def Obligations.StoredBlockReadsBack : Prop :=
  ∀ o : ChargeOptions, Safety.OptionsInRange o → readStore (storedBlock o) false = (.valid, o)

/-- What the Clip Writer wrote on the card, a mount reads back: directory entries, the volume header, segment headers, map entries
and chunks with their check (R86 to R91, R200, spec/12 section 12.10). Each field stands at its place of section 12.10, the codes
are those listed there, each zone sector holds what R85 places in it, and the three checks take their bytes bit by bit through the
generators of R200. The mount tidies what it read: no clip number twice, chains walked in ascending clip number through chainable
segments of no other chain, the entries' fields set from them, segments of no chain freed, a RETIRING one BAD (R97). The recovery
scan judges each chunk and rebuilds the entry; the next clip number ends above every clip present (R98, R99). That a FREE or BAD
segment is read with the link END is the model's (log 52). -/
def Obligations.VolumeRecordsReadBack : Prop :=
  ((∀ c : Clip, Safety.Writable c → parseDirEntry (dirEntryBytes (some c)) = some c) ∧ parseDirEntry (dirEntryBytes none) = none) ∧
  (∀ generation size count nextClip : Nat, generation < 4294967296 → nextClip < 4294967296 →
     size = 2048 ∨ size = 4096 ∨ size = 8192 ∨ size = 16384 → 16 ≤ count → count ≤ 1024 →
     parseHeader (headerSector generation size count nextClip) = some ⟨generation, size, count, nextClip⟩ ∧
       (headerSector generation size count nextClip).length = 512) ∧
  (∀ clip ordinal generation firstSeq clip' ordinal' generation' : Nat, clip < 4294967296 → ordinal < 4294967296 →
     generation < 4294967296 → firstSeq < 4294967296 →
     let sector := segmentHeaderSector clip ordinal generation firstSeq
     (segmentNames sector clip' ordinal' generation' = true ↔ clip' = clip ∧ ordinal' = ordinal ∧ generation' = generation) ∧
       leNat sector 12 4 = firstSeq ∧ sector.length = 512) ∧
  (∀ (count : Nat) (e : MapEntry), count ≤ 1024 → (∀ l : Nat, e.link = some l → l < count) →
     parseMapEntry count e.bytes = e ∧ e.bytes.length = 4) ∧
  (∀ (kind : ChunkKind) (key : Bool) (seq size sector : Nat) (stamp : Stamp) (payload : List Byte), seq < 4294967296 →
     payload ≠ [] → payload.length ≤ min 1048576 ((size - 1) * 512 - 32) →
     sector + (32 + payload.length + 511) / 512 ≤ size →
     let image := chunkImage kind key seq stamp payload
     image.length = 512 * ((32 + payload.length + 511) / 512) ∧ slice image 32 payload.length = payload ∧
       parseChunkHeader image size sector = some ⟨decide (kind = .motion), seq, payload.length, stamp⟩ ∧
       chunkCrcOk image payload.length = true) ∧
  (∀ (g : Geometry) (generation nextClip : Nat) (zone : List Byte),
     let t := readZone g generation nextClip zone
     let raw := fun i => parseDirEntry (slice zone (256 * i) 256)
     t.geometry = g ∧ t.generation = generation ∧ t.nextClip = nextClip ∧
       (∀ i, i < 256 → (t.clipAt i = none ∨ t.clipAt i = raw i) ∧ (t.clipAt i = none ↔ raw i = none ∨
         ∃ (j : Nat) (c d : Clip), j < i ∧ raw i = some c ∧ raw j = some d ∧ d.number = c.number)) ∧
       ∀ s, s < 1024 → let e := parseMapEntry g.segmentCount (slice zone (65536 + 4 * s) 4)
         mapAt t.map s = ⟨e.state, if e.state = .bad ∨ e.state = .free then none else e.link⟩) ∧
  (∀ (map : List MapEntry) (count : Nat) (used : List Nat) (first : Option Nat),
     let chain := walk map count count used first
     let ok := fun s => s < count ∧
       ((mapAt map s).state = .filling ∨ (mapAt map s).state = .filled ∨ (mapAt map s).state = .retiring)
     chain.Nodup ∧ (∀ s ∈ chain, ok s ∧ s ∉ used) ∧ (chain ≠ [] → chain.head? = first) ∧
       (∀ k s u : Nat, chain[k]? = some s → chain[k + 1]? = some u → (mapAt map s).link = some u) ∧
       ∀ u : Nat, (match chain.getLast? with | none => first | some s => (mapAt map s).link) = some u → ok u →
         u ∈ used ∨ u ∈ chain) ∧
  (∀ (t : Tables) (used : List Nat) (i : Nat) (c : Clip), t.clipAt i = some c → t.geometry.segmentCount ≤ t.map.length →
     let chain := walk t.map t.geometry.segmentCount t.geometry.segmentCount used c.first
     let e : Clip := { c with first := chain.head?, last := chain.getLast?, segments := chain.length }
     let u := (tidyEntry (t, used) i).1
     (tidyEntry (t, used) i).2 = used ++ chain ∧ u.clipAt i = some e ∧ u.chain e = chain ∧
       (∀ j, j ≠ i → u.clipAt j = t.clipAt j) ∧ (∀ s, (mapAt u.map s).state = (mapAt t.map s).state) ∧
       ∀ s, s ∉ chain → mapAt u.map s = mapAt t.map s) ∧
  (∀ t : Tables,
     let order := t.byNumber
     let p := order.foldl tidyEntry (t, [])
     (∀ i, i ∈ order ↔ i < 256 ∧ ∃ c, t.clipAt i = some c) ∧
       (order.Pairwise fun i j => ∀ c d : Clip, t.clipAt i = some c → t.clipAt j = some d → c.number ≤ d.number) ∧
       (tidy t).dir = p.1.dir ∧
       ∀ s, s < p.1.map.length → mapAt (tidy t).map s =
         if s < t.geometry.segmentCount ∧ s ∉ p.2 ∧ ((mapAt p.1.map s).state = .filling ∨
           (mapAt p.1.map s).state = .filled ∨ (mapAt p.1.map s).state = .retiring) then
           ⟨if (mapAt p.1.map s).state = .retiring then .bad else .free, none⟩
         else mapAt p.1.map s) ∧
  (∀ (s : Scan) (c : ReadChunk),
     let last := if c.motion = true then s.lastMotion else s.lastHost
     let rises := ∀ l : Nat, last = some l → l < c.seq
     let next := s.sector + (32 + c.length + 511) / 512
     s.judge c false = none ∧ (s.atFirst = true → c.seq ≠ s.firstSeq → s.judge c true = none) ∧
       (s.atFirst = false ∨ c.seq = s.firstSeq →
         (rises → c.motion = true → s.judge c true = some { s with
           sector := next, atFirst := false, bytes := s.bytes + c.length, lastMotion := some c.seq
           motionCount := s.motionCount + 1, motionStamp := some c.stamp }) ∧
         (rises → c.motion = false → s.judge c true = some { s with
           sector := next, atFirst := false, bytes := s.bytes + c.length, lastHost := some c.seq
           hostCount := s.hostCount + 1, hostStamp := some c.stamp }) ∧
         (s.atFirst = true → last = some c.seq → s.judge c true = some { s with sector := next, atFirst := false }) ∧
         (¬rises → s.atFirst = false ∨ last ≠ some c.seq → s.judge c true = none))) ∧
  (∀ (c : Clip) (s : Scan), c.rebuild s = { c with
     state := .recovered, cause := some .recovered, hostCount := s.hostCount, motionCount := s.motionCount
     bytes := s.bytes
     endStamp := some (match s.hostStamp, s.motionStamp with
       | some h, _ => h
       | none, some m => m
       | none, none => c.start) }) ∧
  (∀ t : Tables, (∀ c ∈ t.present, c.number < 4294967295) → t.nextClip ≤ t.nextAfterMount ∧
     (∀ c ∈ t.present, c.number < t.nextAfterMount) ∧
     (t.nextAfterMount = t.nextClip ∨ ∃ c ∈ t.present, t.nextAfterMount = c.number + 1)) ∧
  (∀ c : Clip, c.markers.length ≤ 16 →
     let b := dirEntryBytes (some c)
     let holds := fun items : List (Nat × Nat × Nat) => ∀ x ∈ items, leNat b x.1 x.2.1 = x.2.2 % 256 ^ x.2.1
     let bits := fun l : List Bool => l.foldr (fun x n => 2 * n + (if x then 1 else 0)) 0
     b.length = 256 ∧ dirEntryBytes none = List.replicate 256 0 ∧
       holds [(2, 1, c.state.code), (3, 1, c.cause.elim 0 CloseCause.code), (4, 4, c.number), (8, 8, c.start.toNat),
         (16, 8, c.endStamp.elim 0 BitVec.toNat), (24, 2, c.first.getD 65535), (26, 2, c.last.getD 65535), (28, 2, c.segments),
         (30, 1, bits [c.causes.incident, c.causes.mark, c.causes.request]), (31, 1, bits [c.overflow, c.motionTrack, c.unkeyed]),
         (32, 4, c.hostCount), (36, 4, c.motionCount), (40, 8, c.bytes), (48, 4, c.drops), (52, 4, c.motionDrops),
         (56, 1, c.markers.length)] ∧
       (∀ (j : Nat) (m : Marker), c.markers[j]? = some m → holds [(64 + 9 * j, 8, m.stamp.toNat), (72 + 9 * j, 1, m.kind.code)]) ∧
       ∀ j, j < 2 ∨ (57 ≤ j ∧ j < 64) ∨ 64 + 9 * c.markers.length ≤ j → byteAt b j = 0) ∧
  [ClipState.openClip, .closed, .recovered].map ClipState.code = [1, 2, 3] ∧
  [CloseCause.request, .rollover, .reserve, .full, .starved, .cardFault, .shutdown, .hostReset, .recovered].map CloseCause.code =
    [1, 2, 3, 4, 5, 6, 7, 8, 9] ∧
  [MarkerKind.short, .long, .incident].map MarkerKind.code = [1, 2, 3] ∧
  [SegmentState.free, .filling, .filled, .retiring, .bad].map SegmentState.code = [0, 1, 2, 3, 4] ∧
  [ChunkKind.video, .audio, .motion].map ChunkKind.code = [1, 2, 3] ∧
  (∀ a b c d : Nat,
     let holds := fun (bs : List Byte) (items : List (Nat × Nat)) => ∀ x ∈ items, leNat bs x.1 4 = x.2 % 256 ^ 4
     (let h := headerSector a b c d
      slice h 0 8 = [0x52, 0x49, 0x44, 0x45, 0x56, 0x4F, 0x4C, 0x31] ∧
        holds h [(8, a), (12, b), (16, c), (20, d), (24, (crc32 (slice h 0 24)).toNat)] ∧ ∀ j, 28 ≤ j → byteAt h j = 0) ∧
     (let g := segmentHeaderSector a b c d
      holds g [(0, a), (4, b), (8, c), (12, d), (16, (crc32 (slice g 0 16)).toNat)] ∧ ∀ j, 20 ≤ j → byteAt g j = 0)) ∧
  (∀ e : MapEntry, e.bytes.length = 4 ∧ leNat e.bytes 0 1 = e.state.code ∧ byteAt e.bytes 1 = 0 ∧
     leNat e.bytes 2 2 = e.link.getD 65535 % 65536) ∧
  (∀ (kind : ChunkKind) (key : Bool) (seq : Nat) (stamp : Stamp) (payload : List Byte),
     let image := chunkImage kind key seq stamp payload
     slice image 0 4 = [0x52, 0x43, 0x48, 0x4B] ∧ leNat image 4 1 = kind.code ∧ leNat image 5 1 = (if key then 1 else 0) ∧
       leNat image 6 2 = 0 ∧ leNat image 8 4 = seq % 256 ^ 4 ∧ leNat image 12 4 = payload.length % 256 ^ 4 ∧
       leNat image 16 8 = stamp.toNat ∧ leNat image 24 4 = 0 ∧
       leNat image 28 4 = (crc32 (slice image 0 28 ++ [0, 0, 0, 0] ++ payload)).toNat ∧
       ∀ j, 32 + payload.length ≤ j → byteAt image j = 0) ∧
  (∀ (t : Tables) (z : Nat),
     zoneSector t 0 = headerSector t.generation t.geometry.segmentSize t.geometry.segmentCount t.nextClip ∧
       ((∀ (i : Nat) (c : Clip), t.clipAt i = some c → c.markers.length ≤ 16) → z ≤ 136 → (zoneSector t z).length = 512 ∧
         (1 ≤ z → z ≤ 128 → ∀ i, i = 2 * (z - 1) ∨ i = 2 * (z - 1) + 1 →
           slice (zoneSector t z) (256 * (i % 2)) 256 = dirEntryBytes (t.clipAt i))) ∧
       (129 ≤ z → z ≤ 136 → ∀ s, s / 128 = z - 129 →
         slice (zoneSector t z) (4 * (s % 128)) 4 = (mapAt t.map s).bytes)) ∧
  (let reflected := fun (b : Byte) (r : BitVec 32) (k : Nat) =>
     if r.getLsbD 0 != b.getLsbD k then (r >>> 1) ^^^ 0xEDB88320#32 else r >>> 1
   let straight := fun (b : Byte) (r : BitVec 16) (k : Nat) =>
     if r.getLsbD 15 != b.getLsbD (7 - k) then (r <<< 1) ^^^ 0x1021#16 else r <<< 1
   ~~~crc32 [] = 0xFFFFFFFF#32 ∧ crc16Stored [] = 0xFFFF#16 ∧ crc16Block [] = 0#16 ∧
     ∀ (bs : List Byte) (b : Byte),
       ~~~crc32 (bs ++ [b]) = (List.range 8).foldl (reflected b) (~~~crc32 bs) ∧
       crc16Stored (bs ++ [b]) = (List.range 8).foldl (straight b) (crc16Stored bs) ∧
       crc16Block (bs ++ [b]) = (List.range 8).foldl (straight b) (crc16Block bs))

/-! ### The exchange (spec/12) -/

/-- RUN_START and RUN_STOP: from STOPPED the exchange starts afresh with its first pickup, or is FAULTED when BASE is 0; with no
volume mounted nothing else follows, and with one its 256 entries go to the mirror in index order (R93); RUN_STOP stops pickups;
with the rail OFF neither reaches it (R193, section 12.1). PICKUP_PERIOD_EXPIRY begins a pickup, or holds one while another is in
progress, and so does one still owed after a frame start at its count began a pickup first (R194, in the model's reading of log 65).
That RUN stands at 1 in FAULTED after a start with BASE 0, and that a pickup in progress ends after a stop as it does, are the
model's reading (logs 41 and 9), as are the mirror entries asked for side by side (log 13). -/
def Obligations.PickupsStartStop : Prop :=
  (∀ s : State,
     let e := s.media.exch
     let on := s.power.state = .run ∨ s.power.state = .shutting
     (on → e.state = .stopped → e.baseLo = 0 → e.baseHi = 0 → ∃ x : State, exec .runStart s = .next x.settle ∧
       x.media.exch.state = .faulted ∧ x.media.exch.run = true ∧ x.media.exch.flagSet .exchangeFault = true ∧
       x.media.exch.pickup = none ∧ x.clock = s.clock ∧ x.power = s.power) ∧
     (on → e.state = .stopped → (e.baseLo ≠ 0 ∨ e.baseHi ≠ 0) → e.pickup = none → s.media.writer.mounted = false →
       exec .runStart s = .next ({ s with media := { s.media with exch := { e with
         state := .running, run := true, requestTaken := List.replicate 8 0, chunkTaken := List.replicate 24 0
         reportEdition := 0, pickup := some ⟨s.clock.count, .requests, false⟩, pickupHeld := false
         periodWait := some ⟨s.clock.count, e.periodMicros⟩, periodOwed := false
         transfers := e.transfers ++ [⟨.requestBoard, e.base + 0x200, none, 512, s.clock.count⟩] } } } : State).settle) ∧
     (∀ d : Tables, on → e.state = .stopped → (e.baseLo ≠ 0 ∨ e.baseHi ≠ 0) → e.pickup = none →
       s.media.writer.mounted = true → s.media.writer.tables = some d →
       let began : Media := { s.media with
         writer := { s.media.writer with mirrorDirty := [] }
         exch := { e with
           state := .running, run := true, requestTaken := List.replicate 8 0, chunkTaken := List.replicate 24 0
           reportEdition := 0, pickup := some ⟨s.clock.count, .requests, false⟩, pickupHeld := false
           periodWait := some ⟨s.clock.count, e.periodMicros⟩, periodOwed := false
           transfers := e.transfers ++ [⟨.requestBoard, e.base + 0x200, none, 512, s.clock.count⟩] } }
       let one := fun (x : Media) (i : Nat) => { x with
         writer := { x.writer with mirrorEdition := nextEdition x.writer.mirrorEdition }
         exch := x.exch.writeRecord s.clock.count (mirrorRecord i false (nextEdition x.writer.mirrorEdition) (d.clipAt i)) }
       exec .runStart s = .next ({ s with media := (List.range 256).foldl one began } : State).settle) ∧
     (on → e.state ≠ .stopped → exec .runStart s = .next s.settle) ∧
     (¬on → exec .runStart s = .next s.settle ∧ exec .runStop s = .next s) ∧
     (on → exec .runStop s = .next { s with media := { s.media with exch := { e with
       state := .stopped, run := false, pickup := e.pickup.map fun p => { p with ending := true }, pickupHeld := false
       periodWait := none, periodOwed := false } } })) ∧
  (∀ s : State,
     let e := s.media.exch
     let goes := fun d : Exchange => ({ s with media := { s.media with exch := d } } : State)
     let due := e.periodWait.any fun w => decide ((w.length : Int) ≤ (s.clock.count - w.start).toInt)
     (e.state = .running → e.periodOwed = true ∨ due = true → e.pickup = none → exec .pickupPeriodExpiry s = .next (goes { e with
       pickup := some ⟨s.clock.count, .requests, false⟩, pickupHeld := false
       periodWait := some ⟨s.clock.count, e.periodMicros⟩, periodOwed := e.periodOwed && due
       transfers := e.transfers ++ [⟨.requestBoard, e.base + 0x200, none, 512, s.clock.count⟩] })) ∧
     (∀ p : Pickup, e.state = .running → e.pickup = some p →
       (e.periodOwed = true →
         exec .pickupPeriodExpiry s = .next (goes { e with periodOwed := false, pickupHeld := true })) ∧
       (e.periodOwed = false → due = true →
         exec .pickupPeriodExpiry s = .next (goes { e with periodWait := none, pickupHeld := true }))) ∧
     (e.state ≠ .running ∨ (e.periodOwed = false ∧ due = false) → exec .pickupPeriodExpiry s = .next s))

/-- The register writes: the period code clamped to 1 to 20, the enables, the flags cleared by a 1, BASE while not RUNNING with bits
0 to 11 of BASE_LO ignored; any other write is ignored, as is each with the rail OFF. A read gives the five registers bit by bit,
IDENT with part 41, revision 1 and format 1, and 0 elsewhere; each flag has its bit of ATTN, which its raising sets; the attention
line is asserted while the rail is ON and a flag is set whose enable is set (R190 to R192). -/
def Obligations.RegisterWrites : Prop :=
  ∀ s : State,
    let e := s.media.exch
    let on := s.power.state = .run ∨ s.power.state = .shutting
    let goes := fun d : Exchange => ({ s with media := { s.media with exch := d } } : State)
    (∀ code : BitVec 5, on →
      exec (.pickupPeriodSet code) s = .next (goes { e with period :=
        if code.toNat = 0 then 1 else if 20 < code.toNat then 20 else code })) ∧
    (∀ bits : BitVec 11, on → exec (.attentionEnableSet bits) s = .next (goes { e with enables := bits })) ∧
    (∀ bits : Word32, on → ∃ d : Exchange, exec (.attnClear bits) s = .next (goes d) ∧ d = { e with attn := d.attn } ∧
      ∀ n, n < 11 → d.attn.getLsbD n = (e.attn.getLsbD n && !bits.getLsbD n)) ∧
    (∀ v : Word32, on → e.state ≠ .running →
      exec (.baseWrite .lo v) s = .next (goes { e with baseLo := v &&& 0xFFFFF000#32 }) ∧
      exec (.baseWrite .hi v) s = .next (goes { e with baseHi := v })) ∧
    (∀ (r : BaseRegister) (v : Word32), e.state = .running → exec (.baseWrite r v) s = .next s) ∧
    (∀ (offset width : Nat) (v : Word32), exec (.registerWriteOther offset width v) s = .next s) ∧
    (¬on → ∀ (code : BitVec 5) (bits : BitVec 11) (v : Word32) (r : BaseRegister), exec (.pickupPeriodSet code) s = .next s ∧
      exec (.attentionEnableSet bits) s = .next s ∧ exec (.attnClear v) s = .next s ∧ exec (.baseWrite r v) s = .next s) ∧
    (s.attentionLine = true ↔ on ∧ ∃ n < 11, e.attn.getLsbD n = true ∧ e.enables.getLsbD n = true) ∧
    e.readRegister 0x00 = 0x01010029#32 ∧
    (let control := e.readRegister 0x04
     control.getLsbD 0 = e.run ∧ (∀ n < 5, control.getLsbD (1 + n) = e.period.getLsbD n) ∧
       (∀ n < 11, control.getLsbD (8 + n) = e.enables.getLsbD n) ∧
       ∀ n, n = 6 ∨ n = 7 ∨ 19 ≤ n → control.getLsbD n = false) ∧
    (∀ n, (e.readRegister 0x08).getLsbD n = e.attn.getLsbD n) ∧ e.readRegister 0x0C = e.baseLo ∧
    e.readRegister 0x10 = e.baseHi ∧ (∀ offset : Nat, offset ∉ [0x00, 0x04, 0x08, 0x0C, 0x10] → e.readRegister offset = 0) ∧
    [AttnFlag.answer, .receipt, .correction, .clip, .charge, .gauge, .incident, .mark, .key, .card, .exchangeFault].map
      AttnFlag.index = [0, 1, 2, 3, 4, 5, 6, 7, 8, 9, 10] ∧
    (∀ f g : AttnFlag, e.flagSet f = e.attn.getLsbD f.index ∧ (e.raise f).flagSet g = (e.flagSet g || decide (g = f)) ∧
      e.raise f = { e with attn := (e.raise f).attn })

/-- REQUEST_BOARD_READ_COMPLETE: the eight slots are offered in order and the chunk board's read follows, or, where the pickup was
stopped meanwhile, the writer's notice and the pickup's end, with one held since a new start then beginning; a slot is torn and
counted, not new and passed over, new and handed to its owner, answered REFUSED_PARAM for a choice that names neither value, left
while its request is worked, or counted as taken when that request has its very edition. The slot's bytes give the request by its
kind code, each parameter at its place, and the kind gives its owner. UNKNOWN_KIND is answered so. That an expiry of the period wait
that has fallen is owed as a held pickup begins is the model's reading (log 65) (R193 to R195, R197, section 12.7). -/
def Obligations.RequestBoard : Prop :=
  (∀ (s : State) (n : Nat) (bs : List Byte) (p : Pickup),
    (s.media.exch.transferAt n).map Transfer.purpose = some .requestBoard → s.media.exch.pickup = some p → p.ending = false →
    let offered := (List.range 8).foldl (State.offerRequest p.stamp bs) (s.modExch fun e => e.dropTransfer n)
    exec (.requestBoardReadComplete n bs) s = .next (offered.modExch fun e => { e with
      pickup := some { p with stage := .chunks }
      transfers := e.transfers ++ [⟨.chunkBoard, e.base + 0xF00, none, 768, offered.clock.count⟩] }).settle) ∧
  (∀ (s : State) (n : Nat) (bs : List Byte) (p : Pickup),
    (s.media.exch.transferAt n).map Transfer.purpose = some .requestBoard → s.media.exch.pickup = some p → p.ending = true →
    let offered := (List.range 8).foldl (State.offerRequest p.stamp bs) (s.modExch fun e => e.dropTransfer n)
    let noticed := offered.noticePickup p.stamp
    let now := noticed.clock.count
    exec (.requestBoardReadComplete n bs) s = .next (noticed.modExch fun e => if e.state = .running ∧ e.pickupHeld = true then { e with
        transfers := e.transfers ++ [⟨.requestBoard, e.base + 0x200, none, 512, now⟩]
        pickup := some ⟨now, .requests, false⟩
        pickupHeld := false
        periodWait := some ⟨now, e.periodMicros⟩
        periodOwed := e.periodOwed || waitDue e.periodWait now }
      else { e with pickup := none, pickupHeld := false }).settle) ∧
  (∀ (s : State) (stamp : Stamp) (bytes : List Byte) (slot : Nat),
    let bs := slice bytes (64 * slot) 64
    let edition := editionAt bs 0
    let e := s.media.exch
    let fresh := edition = editionAt bs 62 ∧ edition ≠ 0 ∧ edition ≠ e.requestTaken.getD slot 0
    (edition ≠ editionAt bs 62 →
      s.offerRequest stamp bytes slot = s.modExch fun e => { e with torn := min 65535 (e.torn + 1) }) ∧
    (edition = editionAt bs 62 → edition = 0 ∨ edition = e.requestTaken.getD slot 0 →
      s.offerRequest stamp bytes slot = s) ∧
    (∀ r : Request, fresh → e.working.getD slot none = none → parseRequest bs = .request r →
      s.offerRequest stamp bytes slot = s.modExch fun e => { e with
        requestTaken := e.requestTaken.set slot edition
        working := e.working.set slot (some ⟨edition, (byteAt bs 2).toNat⟩)
        handed := e.handed ++ [⟨slot, r, stamp⟩] }) ∧
    (fresh → e.working.getD slot none = none → parseRequest bs = .badChoice →
      s.offerRequest stamp bytes slot = (s.modExch fun e => { e with
        requestTaken := e.requestTaken.set slot edition
        working := e.working.set slot (some ⟨edition, (byteAt bs 2).toNat⟩) }).answer slot .refusedParam) ∧
    (∀ w : Working, fresh → e.working.getD slot none = some w →
      (w.edition ≠ edition → s.offerRequest stamp bytes slot = s) ∧
      (w.edition = edition → s.offerRequest stamp bytes slot = s.modExch fun e => { e with
        requestTaken := e.requestTaken.set slot edition }))) ∧
  (∀ bs : List Byte,
    let code := (byteAt bs 2).toNat
    let first := (byteAt bs 4).toNat
    let choice := (byteAt bs 8).toNat
    let reads := fun (kind : Nat) (r : Request) => code = kind → parseRequest bs = .request r
    reads 1 (.loadProfile first) ∧ reads 2 (.startMotion (BitVec.ofNat 32 (leNat bs 4 4))) ∧ reads 3 .stopMotion ∧
      reads 4 (.imuTransfer first (slice bs 8 (min 16 first))) ∧ reads 5 .mountVolume ∧ reads 6 .unmountVolume ∧
      reads 7 .formatVolume ∧ reads 8 (.startClip (leNat bs 4 4)) ∧ (first = 0 → reads 9 (.stopClip none)) ∧
      (first = 1 → reads 9 (.stopClip (some (leNat bs 8 4)))) ∧
      (∀ b : Bool, choice = (if b then 1 else 0) →
        reads 10 (.setProtection (leNat bs 4 4) b) ∧ reads 11 (.deleteClip (leNat bs 4 4) b)) ∧
      reads 12 (.readBack (leNat bs 4 4) (leNat bs 8 8) (leNat bs 16 4) (leNat bs 24 8)) ∧
      reads 13 (.setInputLimit (leNat bs 4 2)) ∧ reads 14 .clearChargeFault ∧ reads 15 .storeChargeOptions ∧
      reads 16 .shutdown ∧ (code = 0 ∨ 16 < code → parseRequest bs = .request (.unknown code)) ∧
      ((code = 9 ∧ 1 < first) ∨ (code = 10 ∧ 1 < choice) ∨ (code = 11 ∧ 1 < choice) ↔ parseRequest bs = .badChoice)) ∧
  (∀ (n clip offset length address : Nat) (w : Word32) (out : List Byte) (last : Option Nat) (b : Bool),
    (∀ r ∈ [Request.loadProfile n, .unknown n], r.owner = .exchange) ∧
    (∀ r ∈ [Request.startMotion w, .stopMotion, .imuTransfer n out], r.owner = .motion) ∧
    (∀ r ∈ [Request.mountVolume, .unmountVolume, .formatVolume, .startClip n, .stopClip last, .setProtection clip b,
      .deleteClip clip b, .readBack clip offset length address], r.owner = .writer) ∧
    (∀ r ∈ [Request.setInputLimit n, .clearChargeFault], r.owner = .charge) ∧
    ∀ r ∈ [Request.storeChargeOptions, .shutdown], r.owner = .power) ∧
  (∀ (s : State) (slot code : Nat) (stamp : Stamp),
    s.media.exch.nextRequest .exchange = some ⟨slot, .unknown code, stamp⟩ →
    exec .unknownKind s = .next ((s.modExch fun e => e.requestTakenBy .exchange).answer slot .unknownKind))

/-- CHUNK_BOARD_READ_COMPLETE: the 24 slots are offered in order, the writer has its notice, and the report page's head is written,
but in a pickup that was stopped meanwhile, which ends without a page, one held since a new start then beginning (R108, R193 to
R195, R199). A new slot whose very edition is held counts as taken, and one whose slot holds another edition waits. A slot that is
new and not held is taken: it is malformed, refused, stale, parked, or admitted at the expected sequence, where a key-wait skips it,
a key chunk past the clip's length rolls over behind a flush, and parked chunks that now follow are treated in turn, unless the last
sequence asked for has passed and the close begins (R109, R110, R112, R122). The notice raises the gap count, and at the gap wait
the missing sequences are jumped over and counted as drops (R111). A drop counted puts the entry's sector on the update list (R87).
That the page's items are all taken as its head is issued, and that an edition whose receipt is being written is still held, are the
model's (logs 67 and 12), and so is that an expiry that has fallen is owed as a held pickup begins (log 65). -/
def Obligations.ChunkBoard : Prop :=
  (∀ (s : State) (n : Nat) (bs : List Byte) (p : Pickup),
    (s.media.exch.transferAt n).map Transfer.purpose = some .chunkBoard → s.media.exch.pickup = some p → p.ending = false →
    let offered := (List.range 24).foldl (State.offerChunk p.stamp bs) (s.modExch fun e => e.dropTransfer n)
    let noticed := offered.noticePickup p.stamp
    exec (.chunkBoardReadComplete n bs) s = .next (noticed.modExch fun e => { e with
      pickup := some { p with stage := .report }
      reportEdition := nextEdition e.reportEdition
      transfers := e.transfers ++ [⟨.record (noticed.reportRecord p.stamp) .head, e.base + 0x1800,
        some (toLe 2 (nextEdition e.reportEdition).toNat), 2, noticed.clock.count⟩] }).settle) ∧
  (∀ (s : State) (n : Nat) (bs : List Byte) (p : Pickup),
    (s.media.exch.transferAt n).map Transfer.purpose = some .chunkBoard → s.media.exch.pickup = some p → p.ending = true →
    let offered := (List.range 24).foldl (State.offerChunk p.stamp bs) (s.modExch fun e => e.dropTransfer n)
    let noticed := offered.noticePickup p.stamp
    let now := noticed.clock.count
    exec (.chunkBoardReadComplete n bs) s = .next (noticed.modExch fun e => if e.state = .running ∧ e.pickupHeld = true then { e with
        transfers := e.transfers ++ [⟨.requestBoard, e.base + 0x200, none, 512, now⟩]
        pickup := some ⟨now, .requests, false⟩
        pickupHeld := false
        periodWait := some ⟨now, e.periodMicros⟩
        periodOwed := e.periodOwed || waitDue e.periodWait now }
      else { e with pickup := none, pickupHeld := false }).settle) ∧
  (∀ (s : State) (stamp : Stamp) (bytes : List Byte) (slot : Nat),
    let bs := slice bytes (32 * slot) 32
    let edition := editionAt bs 0
    let e := s.media.exch
    (edition ≠ editionAt bs 30 →
      s.offerChunk stamp bytes slot = s.modExch fun e => { e with torn := min 65535 (e.torn + 1) }) ∧
    (edition = editionAt bs 30 → edition = 0 ∨ edition = e.chunkTaken.getD slot 0 → s.offerChunk stamp bytes slot = s) ∧
    (edition = editionAt bs 30 → edition ≠ 0 → edition ≠ e.chunkTaken.getD slot 0 → s.media.heldEdition slot = none →
      let t := s.modExch fun e => { e with chunkTaken := e.chunkTaken.set slot edition }
      let posted : PostedChunk := ⟨edition,
        if byteAt bs 2 = 1 then some .video else if byteAt bs 2 = 2 then some .audio else none, byteAt bs 3 != 0,
        leNat bs 4 4, leNat bs 8 4, stampAt bs 12, leNat bs 20 8⟩
      s.offerChunk stamp bytes slot = { t with media := t.media.takeChunk s.env stamp slot posted }) ∧
    (∀ held : Edition, edition = editionAt bs 30 → edition ≠ 0 → edition ≠ e.chunkTaken.getD slot 0 →
      s.media.heldEdition slot = some held →
      (held ≠ edition → s.offerChunk stamp bytes slot = s) ∧
      (held = edition → s.offerChunk stamp bytes slot = s.modExch fun e => { e with
        chunkTaken := e.chunkTaken.set slot edition }))) ∧
  (∀ (m : Media) (env : Env) (pickup : Stamp) (slot : Nat) (b : PostedChunk),
    let w := m.writer
    let h : HeldSlot := ⟨slot, b.edition, b.seq⟩
    h ∉ w.held →
    let largest := fun size : Nat => min 1048576 ((size - 1) * 512 - 32)
    let malformed := b.length = 0 ∨ b.address % 4 ≠ 0 ∨ b.kind = none ∨
      (w.mounted = false ∧ 1048576 < b.length) ∨
      ∃ d : Tables, w.mounted = true ∧ w.tables = some d ∧ largest d.geometry.segmentSize < b.length
    let parked := ∃ d ∈ w.parked, d.seq = b.seq
    let now := fun status : ReceiptStatus => { m with exch := m.exch.writeRecord env.now (receiptRecord h status) }
    let taken : Media := { m with writer := { w with held := w.held ++ [h] } }
    (malformed → (w.mounted = true → w.tables ≠ none) → m.takeChunk env pickup slot b = now .malformed) ∧
    (¬malformed → (w.mounted = true → w.tables ≠ none) →
      (w.state ≠ .recording → m.takeChunk env pickup slot b = now .refused) ∧
      (w.state = .recording → b.seq < w.expected ∨ parked → m.takeChunk env pickup slot b = now .stale) ∧
      (∀ k : ChunkKind, b.kind = some k → w.state = .recording → ¬parked →
        let c : Chunk := ⟨k, b.key, b.seq, b.stamp, b.length, .slot slot b.edition b.address, false⟩
        (b.seq = w.expected → m.takeChunk env pickup slot b =
          ((taken.admitOne env pickup c).checkStop env).treatParked env pickup) ∧
        (w.expected < b.seq → w.parked.Pairwise (fun x y => x.seq < y.seq) → m.takeChunk env pickup slot b = { taken with
          writer := { taken.writer with
            parked := w.parked.filter (fun d => decide (d.seq < b.seq)) ++
              (c :: w.parked.filter fun d => decide (b.seq < d.seq))
            gapCount := if w.parked = [] then 0 else w.gapCount
            gapFresh := w.gapFresh || decide (w.parked = []) } })))) ∧
  (∀ (m : Media) (env : Env) (pickup : Stamp) (c : Chunk),
    let w := m.writer
    let skipped := w.keyWait = true ∧ c.kind = .video ∧ c.key = false
    let keyed := c.kind = .video ∧ c.key = true
    let rolls := keyed ∧ (w.limits.clipSeconds : Int) * 1000000 ≤ (c.stamp - w.admissionStart).toInt
    (∀ (h : HeldSlot) (address i : Nat) (d : Tables) (e : Clip), skipped → c.source = .slot h.slot h.edition address →
      h.seq = c.seq → w.held.contains h = true → w.mounted = true → w.tables = some d → d.openIndex = some i →
      d.clipAt i = some e → m.admitOne env pickup c = { m with
        writer := { w with
          held := w.held.filter fun x => decide (x ≠ h)
          tables := some { d with dir := d.dir.modify i (Option.map fun e => { e with drops := e.drops + 1 }) }
          updates := addOnce w.updates (1 + i / 2)
          mirrorDirty := addOnce w.mirrorDirty i
          expected := w.expected + 1 }
        exch := m.exch.writeRecord env.now (receiptRecord h .skipped) }) ∧
    (¬skipped →
      let queued := fun (m : Media) (opens : Bool) (start : Stamp) => { m with writer := { m.writer with
        queue := m.writer.queue ++ [{ c with opensClip := opens }]
        admissionStart := start
        keyWait := w.keyWait && !decide keyed
        expected := w.expected + 1
        starvation := some ⟨pickup, w.limits.starvationSeconds * 1000000⟩ } }
      (¬rolls → m.admitOne env pickup c = queued m false w.admissionStart) ∧
      (rolls → m.admitOne env pickup c = queued m.flush true c.stamp))) ∧
  (∀ (m : Media) (env : Env),
    ((∀ l : Nat, m.writer.stopPending = some l → m.writer.expected ≤ l) → m.checkStop env = m) ∧
    (∀ l : Nat, m.writer.stopPending = some l → l < m.writer.expected → m.checkStop env = m.closeBegin env .request)) ∧
  (∀ (m : Media) (env : Env) (pickup : Stamp),
    let w := m.writer
    (w.state ≠ .recording ∨ w.parked = [] → m.treatParked env pickup = m) ∧
    (∀ (c : Chunk) (rest : List Chunk), w.state = .recording → w.parked = c :: rest → c.seq ≠ w.expected →
      m.treatParked env pickup = { m with writer := { w with gapCount := 0, gapFresh := true } }) ∧
    (∀ (c : Chunk) (rest : List Chunk), w.state = .recording → w.parked = c :: rest → c.seq = w.expected →
      m.treatParked env pickup = ((({ m with writer := { w with parked := rest } } : Media).admitOne env pickup c).checkStop
        env).treatParked env pickup) ∧
    (w.state ≠ .recording ∨ w.parked = [] ∨ w.gapFresh = true →
      m.pickupComplete env pickup = { m with writer := { w with gapFresh := false } }) ∧
    (∀ (c : Chunk) (rest : List Chunk), w.state = .recording → w.parked = c :: rest → w.gapFresh = false →
      (w.gapCount + 1 < w.limits.gapWait → m.pickupComplete env pickup =
        { m with writer := { w with gapCount := w.gapCount + 1, gapFresh := false } }) ∧
      (∀ (i : Nat) (d : Tables) (e : Clip), w.limits.gapWait ≤ w.gapCount + 1 → w.expected < c.seq → w.mounted = true →
        w.tables = some d → d.openIndex = some i → d.clipAt i = some e →
        let jumped : Media := { m with writer := { w with
          gapCount := w.gapCount + 1
          tables := some { d with dir := d.dir.modify i (Option.map fun e =>
            { e with drops := e.drops + (c.seq - w.expected) }) }
          updates := addOnce w.updates (1 + i / 2)
          mirrorDirty := addOnce w.mirrorDirty i
          expected := c.seq
          keyWait := true } }
        let x := (jumped.checkStop env).treatParked env pickup
        m.pickupComplete env pickup = { x with writer := { x.writer with gapFresh := false } })))

/-- RECORD_WRITE_COMPLETE: a record is written head, body, tail while the exchange runs, and its flag follows the tail; an answer's
slot is free with it. The rest of a record is skipped while the exchange does not run; the report page of a pickup that was stopped
is cut short, and the pickup ends with the page (R192, R193, R194, R196, R197). CLIP follows the last mirror entry still being
written after a directory sector's write, and none that was not asked for by one: that is the model's (log 13), and so is that the
exchange is looked at as a part ends: the parts left are skipped where it is then not running (log 40), and a record other than the
page is written on, at BASE as it then stands, where it was stopped and started again meanwhile (log 77); and that an expiry of the
period wait that has fallen is owed as the held pickup begins, the model's reading (log 65). -/
def Obligations.RecordWrites : Prop :=
  (∀ (s : State) (n : Nat) (r : Record) (part : RecordPart),
    (s.media.exch.transferAt n).map Transfer.purpose = some (.record r part) →
    let t := s.modExch fun e => e.dropTransfer n
    let part_ := fun (next : RecordPart) (at_ : Nat) (bytes : List Byte) => t.modExch fun e => { e with
      transfers := e.transfers ++ [⟨.record r next, e.base + at_, some bytes, bytes.length, s.clock.count⟩] }
    let ended := t.modExch fun e => if e.state = .running ∧ e.pickupHeld = true then { e with
        transfers := e.transfers ++ [⟨.requestBoard, e.base + 0x200, none, 512, s.clock.count⟩]
        pickup := some ⟨s.clock.count, .requests, false⟩
        pickupHeld := false
        periodWait := some ⟨s.clock.count, e.periodMicros⟩
        periodOwed := e.periodOwed || waitDue e.periodWait s.clock.count }
      else { e with pickup := none, pickupHeld := false }
    let cut := ∃ p : Pickup, s.media.exch.pickup = some p ∧ p.ending = true
    (s.media.exch.state = .running → r.kind ≠ .report ∨ ¬cut →
      (part = .head → exec (.recordWriteComplete n) s = .next (part_ .body (r.offset + r.head.length) r.body)) ∧
      (part = .body → exec (.recordWriteComplete n) s = .next (part_ .tail (r.offset + r.tailAt) r.head))) ∧
    (part = .head ∨ part = .body →
      (r.kind = .report → s.media.exch.state ≠ .running ∨ cut → exec (.recordWriteComplete n) s = .next ended) ∧
      (∀ slot : Nat, r.kind = .answer slot → s.media.exch.state ≠ .running → exec (.recordWriteComplete n) s =
        .next (t.modExch fun e => { e with working := e.working.set slot none })) ∧
      (r.kind ≠ .report → (∀ slot : Nat, r.kind ≠ .answer slot) → s.media.exch.state ≠ .running →
        exec (.recordWriteComplete n) s = .next t)) ∧
    (part = .tail →
      (∀ slot : Nat, r.kind = .answer slot → exec (.recordWriteComplete n) s =
        .next ((t.modExch fun e => { e with working := e.working.set slot none }).raise .answer)) ∧
      (∀ slot : Nat, r.kind = .receipt slot → exec (.recordWriteComplete n) s = .next (t.raise .receipt)) ∧
      (∀ slot : Nat, r.kind = .correction slot → exec (.recordWriteComplete n) s = .next (t.raise .correction)) ∧
      (∀ i : Nat, r.kind = .mirror i true →
        let sibling := ∃ x ∈ t.media.exch.transfers, ∃ (j : Nat) (q : Record) (part : RecordPart),
          x.purpose = .record q part ∧ q.kind = .mirror j true ∧ j / 2 = i / 2
        (¬sibling → exec (.recordWriteComplete n) s = .next (t.raise .clip)) ∧
        (sibling → exec (.recordWriteComplete n) s = .next t)) ∧
      (∀ i : Nat, r.kind = .mirror i false → exec (.recordWriteComplete n) s = .next t) ∧
      (r.kind = .report → exec (.recordWriteComplete n) s = .next ended))) ∧
  (∀ (e : Exchange) (r : Record) (now : Stamp),
    (e.state = .running → e.writeRecord now r = { e with transfers := e.transfers ++
      [⟨.record r .head, e.base + r.offset, some r.head, r.head.length, now⟩] }) ∧
    (∀ slot : Nat, e.state ≠ .running → r.kind = .answer slot →
      e.writeRecord now r = { e with working := e.working.set slot none }) ∧
    (e.state ≠ .running → (∀ slot : Nat, r.kind ≠ .answer slot) → e.writeRecord now r = e))

/-- An answer goes to the slot of a request still worked: its head is written at the slot's place with the request's edition, or the
slot is free while the exchange does not run; its 60 body bytes hold the kind, the outcome, the notes, the reason and the data
(R196, R197). The bytes of a receipt, of a correction entry and of a mirror entry, each with its place (R62, R93, R112, R196,
spec/12 section 12.10); that an entry's body ends with its last band is the model's (log 49). The bytes of a motion record, and of a
MOTION chunk's payload (R64). The bytes of the report page, item by item, every other byte 0, with the code of each state, kind and
cause (R30, R45, R67, R82, R105, R135, R148, R166, R177, R189, R199); the bytes of an item with no value at the time are free, a
sector in flight counts as listed, an edition whose receipt is being written as held, V_reg is that of the options in force, and the
mirror edition stands also while no volume is mounted: these are the model's (logs 25, 28, 12, 56 and 76). -/
def Obligations.AnswerWritten : Prop :=
  (∀ (s : State) (slot : Nat) (a : Answer),
    (s.media.exch.working.getD slot none = none → s.answer slot a = s) ∧
    (∀ w : Working, s.media.exch.working.getD slot none = some w →
      (s.media.exch.state = .running → s.answer slot a = s.modExch fun e => { e with transfers := e.transfers ++
        [⟨.record ⟨.answer slot, 0x400 + 64 * slot, toLe 2 w.edition.toNat, a.body w.kind, 62⟩ .head,
          e.base + (0x400 + 64 * slot), some (toLe 2 w.edition.toNat), 2, s.clock.count⟩] }) ∧
      (s.media.exch.state ≠ .running → s.answer slot a = s.modExch fun e => { e with
        working := e.working.set slot none }))) ∧
  (∀ (a : Answer) (kind : Nat), kind < 256 → a.data.length ≤ 54 →
    (a.body kind).length = 60 ∧ (byteAt (a.body kind) 0).toNat = kind ∧
      (byteAt (a.body kind) 1).toNat = a.outcome.code ∧
      (byteAt (a.body kind) 2).toNat = (if a.clamped then 1 else 0) + (if a.alreadyClosing then 2 else 0) ∧
      (byteAt (a.body kind) 3).toNat = a.reason.elim 0 FailReason.code ∧
      ∀ i < a.data.length, byteAt (a.body kind) (6 + i) = byteAt a.data i) ∧
  [AnswerOutcome.done, .refusedState, .refusedParam, .failed, .unknownKind].map AnswerOutcome.code = [1, 2, 3, 4, 5] ∧
  [FailReason.torn, .noCard, .card, .areaTooLarge, .unformatted, .supply, .directoryFull, .link, .clipGone, .store].map
    FailReason.code = [1, 2, 3, 4, 5, 6, 7, 8, 9, 10] ∧
  (∀ (h : HeldSlot) (st : ReceiptStatus), h.seq < 4294967296 →
    let r := receiptRecord h st
    r.kind = .receipt h.slot ∧ r.offset = 0x1200 + 16 * h.slot ∧ r.head = toLe 2 h.edition.toNat ∧ r.tailAt = 14 ∧
      r.body.length = 12 ∧ byteAt r.body 0 = BitVec.ofNat 8 st.code ∧ leNat r.body 2 4 = h.seq ∧
      ∀ i ∈ [1, 6, 7, 8, 9, 10, 11], byteAt r.body i = 0) ∧
  [ReceiptStatus.written, .malformed, .refused, .stale, .skipped, .fetchFailed, .cardFailed, .abandoned].map
    ReceiptStatus.code = [1, 2, 3, 4, 5, 6, 7, 8] ∧
  (∀ (n : Word32) (f : EntryFlags) (centre : Stamp) (bands : List Band), bands.length ≤ 16 →
    let r := correctionRecord n f centre bands
    r.kind = .correction (n.toNat % 8) ∧ r.offset = 0x700 + 256 * (n.toNat % 8) ∧ r.head = toLe 4 n.toNat ∧ r.tailAt = 252 ∧
      r.body.length = 12 + 8 * bands.length ∧ byteAt r.body 2 = BitVec.ofNat 8 bands.length ∧ byteAt r.body 3 = 0 ∧
      stampAt r.body 4 = centre ∧
      (let bit := fun k : Nat => (BitVec.ofNat 16 (leNat r.body 0 2)).getLsbD k
       (List.range 16).map bit = [f.skipped, f.paramsHeld, f.sheetClamped, f.pathSeeded, f.marginHit.yaw, f.marginHit.pitch,
         f.marginHit.roll, f.short, f.held, f.gap, f.sat, f.missed, false, false, false, false]) ∧
      ∀ (j : Nat) (b : Band), bands[j]? = some b →
        (-32768 ≤ b.x → b.x < 32768 → leInt r.body (12 + 8 * j) 2 = b.x) ∧
        (-32768 ≤ b.y → b.y < 32768 → leInt r.body (14 + 8 * j) 2 = b.y) ∧
        (-32768 ≤ b.r → b.r < 32768 → leInt r.body (16 + 8 * j) 2 = b.r) ∧
        leNat r.body (18 + 8 * j) 2 = (if b.clamp then 1 else 0) + (if b.short then 2 else 0) + (if b.held then 4 else 0)) ∧
  (∀ (i : Nat) (follows : Bool) (edition : Edition) (c : Option Clip),
    let r := mirrorRecord i follows edition c
    r.kind = .mirror i follows ∧ r.offset = 0x2000 + 256 * i ∧ r.head = toLe 2 edition.toNat ∧ r.tailAt = 254 ∧
      r.body.length = 252 ∧ ∀ k < 252, byteAt r.body k = byteAt (dirEntryBytes c) (2 + k)) ∧
  (∀ r : MotionRecord, r.bands.length ≤ 16 →
    let b := r.bytes
    let signed := fun (width : Nat) (v : Int) => (BitVec.ofInt (8 * width) v).toNat
    let axes := fun (place : Nat) (a : Axes Int) => leNat b place 4 = signed 4 a.yaw ∧
      leNat b (place + 4) 4 = signed 4 a.pitch ∧ leNat b (place + 8) 4 = signed 4 a.roll
    b.length = 40 + 8 * r.bands.length ∧ leNat b 0 4 = r.frame.toNat ∧
      (List.range 16).map (BitVec.ofNat 16 (leNat b 4 2)).getLsbD = [r.flags.skipped, r.flags.paramsHeld, r.flags.sheetClamped,
        r.flags.pathSeeded, r.flags.marginHit.yaw, r.flags.marginHit.pitch, r.flags.marginHit.roll, r.flags.short,
        r.flags.held, r.flags.gap, r.flags.sat, r.flags.missed, false, false, false, false] ∧
      leNat b 6 1 = r.bands.length ∧ byteAt b 7 = 0 ∧ leNat b 8 8 = r.centre.toNat ∧ axes 16 r.theta ∧ axes 28 r.path ∧
      ∀ (j : Nat) (x : Band), r.bands[j]? = some x → leNat b (40 + 8 * j) 2 = signed 2 x.x ∧
        leNat b (42 + 8 * j) 2 = signed 2 x.y ∧ leNat b (44 + 8 * j) 2 = signed 2 x.r ∧
        leNat b (46 + 8 * j) 2 = (if x.clamp then 1 else 0) + (if x.short then 2 else 0) + (if x.held then 4 else 0)) ∧
  (∀ rs : List MotionRecord, rs.length < 4294967296 →
    let size := fun l : List MotionRecord => (l.map fun r => 40 + 8 * r.bands.length).sum
    (motionPayload rs).length = 4 + size rs ∧ leNat (motionPayload rs) 0 4 = rs.length ∧
      ∀ (k : Nat) (r : MotionRecord), rs[k]? = some r →
        slice (motionPayload rs) (4 + size (rs.take k)) (40 + 8 * r.bands.length) = r.bytes) ∧
  (∀ (s : State) (pickup : Stamp), s.incident.list.length ≤ 8 → s.options.openCircuit.length = 11 →
    let r := s.reportRecord pickup
    let page := r.head ++ r.body
    let edition := (nextEdition s.media.exch.reportEdition).toNat
    let e := s.media.exch
    let y := s.media.steady
    let w := s.media.writer
    let c := s.media.card
    let g := s.gauge
    let i := s.incident
    let p := s.power
    let h := s.charge
    let holds := fun items : List (Nat × Nat × Nat) => ∀ x ∈ items, leNat page x.1 x.2.1 = x.2.2 % 256 ^ x.2.1
    let signed := fun (width : Nat) (v : Int) => (BitVec.ofInt (8 * width) v).toNat
    let axes := fun (place : Nat) (a : Axes Int) => ([(place, 4, signed 4 a.yaw), (place + 4, 4, signed 4 a.pitch),
      (place + 8, 4, signed 4 a.roll)] : List (Nat × Nat × Nat))
    let flag := fun b : Bool => (if b then 1 else 0 : Nat)
    let host := (w.queue.filter fun k => decide (k.kind ≠ .motion)).length
    let free := fun place n : Nat => ∀ k < n, byteAt page (place + k) = Config.unstatedReportByte (place + k) edition
    r.kind = .report ∧ r.offset = 0x1800 ∧ r.head = toLe 2 edition ∧ r.tailAt = 1022 ∧ r.body.length = 1020 ∧
    (∀ k ∈ [(2, 8), (19, 24), (44, 48), (54, 56), (76, 80), (121, 124), (144 + 32 * i.list.length, 400), (427, 428), (475, 476),
      (521, 522), (597, 600), (611, 612), (622, 624), (645, 648), (656, 1022)], ∀ j, k.1 ≤ j → j < k.2 → byteAt page j = 0) ∧
    holds ([(8, 8, pickup.toNat), (16, 2, e.torn), (18, 1, e.working.countP Option.isSome),
      (24, 1, s.motion.state.code), (25, 1, s.motion.learning.code), (26, 2, s.motion.stampFaults)] ++
      axes 28 s.motion.bias ++ [(40, 4, s.motion.lostTotal), (48, 1, s.integ.state.code),
      (49, 1, s.integ.history.length), (50, 2, s.integ.gapTotal), (52, 2, s.integ.satTotal),
      (56, 8, s.integ.history.getLast?.elim 0 fun x => x.stamp.toNat)] ++ axes 64 s.integ.theta) ∧
    holds ([(80, 1, y.state.code), (81, 1, y.frames.length), (82, 1, flag y.seeded), (83, 1, flag y.lastComputed.isSome),
      (84, 4, y.frameCounter.toNat), (88, 4, y.lastComputed.elim 0 BitVec.toNat)] ++ axes 92 y.path ++
      [(104, 2, y.skippedTotal), (106, 2, y.heldTotal), (108, 2, y.dropTotal), (110, 1, y.bufA.state.code),
      (111, 1, y.bufB.state.code)]) ∧
    holds [(112, 1, i.window.code), (113, 1, i.shockRun), (114, 1, i.settings.runLength),
      (115, 1, i.settings.windowSeconds), (116, 1, i.settings.lookbackSeconds), (117, 1, i.list.length),
      (118, 1, i.key.state.code), (119, 1, i.capture.kind.code), (120, 1, i.capture.presses.toNat),
      (124, 4, i.settings.threshold), (128, 8, if i.window = .incident then i.windowEnd.toNat else 0),
      (136, 8, i.capture.stamp.toNat)] ∧
    (∀ (j : Nat) (x : IncidentEntry), i.list[j]? = some x → holds [(144 + 32 * j, 2, x.number.toNat),
      (146 + 32 * j, 1, x.outcome.code), (147 + 32 * j, 1, x.extensions), (148 + 32 * j, 4, x.peak),
      (152 + 32 * j, 8, x.stamp.toNat), (160 + 32 * j, 8, x.endStamp.toNat), (168 + 32 * j, 4, x.protectedClip.getD 0),
      (172 + 32 * j, 4, x.lookbackClip.getD 0)]) ∧
    holds [(400, 1, flag w.mounted), (401, 1, w.state.code), (402, 1, w.profile.gapWait),
      (403, 1, w.profile.starvationSeconds), (404, 4, w.profile.firstSector), (408, 4, w.profile.segmentSize),
      (412, 2, w.profile.segmentCount), (414, 2, w.profile.clipSeconds), (450, 2, w.mirrorEdition.toNat)] ∧
    (w.mounted = false ∨ w.tables = none → (∀ j, 416 ≤ j → j < 450 → byteAt page j = 0) ∧ leNat page 452 4 = 0) ∧
    (∀ t : Tables, w.mounted = true → w.tables = some t →
      let segments := fun st : SegmentState =>
        (t.map.take t.geometry.segmentCount).countP fun x => decide (x.state = st)
      let flying := ∃ f : VolumeFlight, w.flight = some f ∧ f.sector ∉ w.updates
      holds [(416, 4, t.geometry.firstSector), (420, 4, t.geometry.segmentSize), (424, 2, t.geometry.segmentCount),
        (428, 4, t.generation), (432, 4, t.nextClip), (436, 2, segments .free), (438, 2, segments .filling),
        (440, 2, segments .filled), (442, 2, segments .retiring), (444, 2, segments .bad), (446, 2, t.present.length),
        (448, 2, t.present.countP fun k => k.causes.any), (452, 4, w.openClip.elim 0 Clip.number)] ∧
      (flying → holds [(426, 1, w.updates.length + 1)]) ∧ (¬flying → holds [(426, 1, w.updates.length)])) ∧
    holds [(456, 8, w.expected), (464, 1, flag w.keyWait), (465, 1, w.gapCount), (466, 1, s.media.heldCount),
      (467, 1, w.parked.length), (468, 1, host), (469, 1, w.queue.length - host),
      (470, 1, w.wip.elim 0 fun x => x.stage.code), (472, 1, flag w.stopPending.isSome), (473, 1, flag w.reserveHeld),
      (474, 1, flag w.readBack.isSome), (480, 8, w.lastCompletion.toNat)] ∧
    (∀ x : WriteInProgress, w.wip = some x → holds [(471, 1, flag x.rewrite)]) ∧ (w.wip = none → free 471 1) ∧
    (∀ l : Nat, w.stopPending = some l → holds [(476, 4, l)]) ∧ (w.stopPending = none → free 476 4) ∧
    (∀ x : ReadBack, w.readBack = some x → holds [(488, 4, x.left)]) ∧ (w.readBack = none → free 488 4) ∧
    holds [(492, 1, c.state.code), (493, 1, flag c.detect), (494, 1, c.run.elim 0 fun x => x.cls.code),
      (495, 1, flag c.volume.isSome + 2 * flag c.chunk.isSome + 4 * flag c.readBack.isSome), (496, 8, c.capacity),
      (504, 2, c.readErrors), (506, 2, c.writeErrors), (508, 2, c.timeouts), (510, 2, c.removals)] ∧
    holds [(512, 1, h.usb.state.code), (513, 1, h.aux.state.code), (514, 1, h.source.code), (515, 1, h.state.code),
      (517, 1, flag h.causes.cold + 2 * flag h.causes.hot + 4 * flag h.causes.die), (518, 1, h.fault.code),
      (519, 1, h.band.code), (520, 1, flag h.recording), (522, 2, effectiveVreg s.options h.band), (524, 2, h.ic),
      (526, 2, h.cap), (530, 2, h.usbLimit), (536, 4, h.prechargeTimer / 1000), (540, 4, h.totalTimer / 1000)] ∧
    slice page 544 53 = chargeFields s.options ∧
    (∀ x : ChargeState, h.returnState = some x → holds [(516, 1, x.code)]) ∧ (h.returnState = none → free 516 1) ∧
    holds [(600, 4, signed 4 g.q), (604, 2, if g.state = .unset then 0 else signed 2 (g.stateOfCharge s.options)),
      (606, 1, g.state.code), (607, 1, flag g.reserve), (608, 1, g.cutoffRun), (609, 1, flag g.warning)] ∧
    (∀ x : Machine.Measurement, g.last = some x → holds [(528, 2, signed 2 h.inputCurrent), (532, 2, x.readings.vinUsb),
      (534, 2, x.readings.vinAux), (610, 1, signed 1 (x.readings.temperature.getD (-128))),
      (612, 2, signed 2 x.readings.current), (614, 2, x.readings.vbat), (616, 2, signed 2 x.readings.die),
      (618, 2, x.readings.vinUsb), (620, 2, x.readings.vinAux), (624, 8, x.stamp.toNat)]) ∧
    (g.last = none → free 528 2 ∧ free 532 4 ∧ free 610 1 ∧ free 612 10 ∧ leNat page 624 8 = 0) ∧
    holds [(632, 1, p.state.code), (633, 1, p.key.state.code), (634, 1, p.pressCount.toNat), (635, 1, p.cause.code),
      (636, 1, flag p.reserveHeld), (637, 1, flag p.cutoffLock), (638, 1, p.origin.code), (639, 1, p.blockStatus.code),
      (640, 1, flag p.storing.isSome), (641, 1, p.record.lastKind.code), (642, 1, p.record.warmCount),
      (643, 1, p.record.supplyCount), (644, 1, p.record.lastShutdown.code),
      (648, 8, p.closeTarget.elim 0 BitVec.toNat)]) ∧
  ([MotionState.off, .ready, .running].map MotionState.code = [0, 1, 2] ∧
    [Learning.settling, .learning, .suspended].map Learning.code = [0, 1, 2] ∧
    [IntegratorState.idle, .seeding, .integrating].map IntegratorState.code = [0, 1, 2] ∧
    [EngineState.idle, .active].map EngineState.code = [0, 1] ∧
    [BufferState.free, .filling, .queued].map BufferState.code = [0, 1, 2] ∧
    [WindowState.quiet, .incident].map WindowState.code = [0, 1] ∧
    [KeyState.up, .pressing, .down, .releasing, .long].map KeyState.code = [0, 1, 2, 3, 4] ∧
    [CaptureKind.none, .pressed, .short, .long].map CaptureKind.code = [0, 1, 2, 3] ∧
    [LookbackOutcome.pending, .noClip, .notNeeded, .kept, .lost, .dropped].map LookbackOutcome.code = [0, 1, 2, 3, 4, 5] ∧
    [WriterState.unmounted, .mounting, .formatting, .idle, .recording, .closing, .cardLost, .cardFault, .halted].map
      WriterState.code = [0, 1, 2, 3, 4, 5, 6, 7, 8] ∧
    [WriteStage.allocating, .fetching, .writing].map WriteStage.code = [1, 2, 3] ∧
    [CardState.absent, .identifying, .ready, .busy, .fault].map CardState.code = [0, 1, 2, 3, 4] ∧
    [ClaimClass.volume, .chunk, .readBack].map ClaimClass.code = [1, 2, 3] ∧
    [InputState.absent, .qualifying, .present].map InputState.code = [0, 1, 2] ∧
    [Source.none, .usb, .aux].map Source.code = [0, 1, 2] ∧
    [ChargeState.noBattery, .idle, .qualify, .precharge, .fast, .topoff, .full, .suspended, .fault].map ChargeState.code =
      [0, 1, 2, 3, 4, 5, 6, 7, 8] ∧
    [ChargeFault.none, .timer, .overvolt].map ChargeFault.code = [0, 1, 2] ∧
    [TempBand.coldStop, .cool, .normal, .warm, .hotStop].map TempBand.code = [0, 1, 2, 3, 4] ∧
    [GaugeState.unset, .estimated, .anchored].map GaugeState.code = [0, 1, 2] ∧
    [PowerState.run, .shutting, .standby, .dormant, .waking].map PowerState.code = [0, 1, 2, 3, 4] ∧
    [ShutdownCause.none, .request, .key, .cutoff, .supply].map ShutdownCause.code = [0, 1, 2, 3, 4] ∧
    [BlockStatus.valid, .blank, .failing].map BlockStatus.code = [0, 1, 2] ∧
    [OptionsOrigin.stored, .defaults, .loaded].map OptionsOrigin.code = [0, 1, 2] ∧
    [ResetKind.cold, .supply, .warm].map ResetKind.code = [0, 1, 2])

/-- LINK_TRANSFER_FAILED and LINK_TRANSFER_UNANSWERED: a failed transfer of the exchange area, or any left unanswered for 50 ms,
makes a running exchange FAULTED with nothing in flight; a failed fetch or read-back copy is its owner's alone: the chunk receives
FETCH_FAILED and counts as a drop, the read-back is answered FAILED(LINK) with the bytes copied; at a fault the parked set goes
uncounted, each queued host chunk and one being fetched counts as a drop, MOTION chunks and a chunk being written stay, key-wait
becomes YES, no receipt is written, a sheet read ends with the held values, a section read frees its request, and a read-back being
copied ends (R50, R87, R117, R130, R134, R190, R193). While the exchange does not run, a transfer that fails is its owner's alone: a
pickup whose board read it was ends with its notice, a sheet read ends with the held values, a section read frees its request, and
the rest of a record is skipped. Five points are the model's: that a transfer of the area that fails, or any left unanswered, while
the exchange does not run leaves its state and is taken by its owner so (log 59); that a host chunk in ALLOCATING at a fault stays
the write in progress and counts as no drop there (log 23); that a fault empties the held slots at once, the edition of a chunk in
WRITING among them (log 53); that every answer part way written as the exchange fails frees its slot, whichever transfer failed (log
40); and that an expiry of the period wait that is owed is dropped by a fault (log 65). -/
def Obligations.LinkFailures : Prop :=
  (∀ (s : State) (n : Nat) (t : Transfer), s.media.exch.transferAt n = some t →
    let faulted := fun (c : Instr) => ∃ x : State, exec c s = .next x.settle ∧ x.media.exch.state = .faulted ∧
      x.media.exch.flagSet .exchangeFault = true ∧ x.media.exch.transfers = [] ∧ x.media.exch.pickup = none ∧
      x.media.exch.periodWait = none ∧ x.media.exch.periodOwed = false ∧ x.media.writer.held = [] ∧
      x.media.writer.parked = [] ∧
      x.clock = s.clock ∧ x.motion = s.motion ∧ x.power = s.power ∧
      ∃ f : Exchange,
        let e := s.media.exch
        f = ({ e with
          state := .faulted, pickup := none, pickupHeld := false, periodWait := none, periodOwed := false, transfers := []
          working := f.working } : Exchange).raise .exchangeFault ∧
        (∀ slot : Nat,
          let freed := ∃ u ∈ e.transfers, (∃ k, u.purpose = .profileSection slot k) ∨
            ∃ (r : Record) (part : RecordPart), u.purpose = .record r part ∧ r.kind = .answer slot
          (freed → f.working.getD slot none = none) ∧ (¬freed → f.working.getD slot none = e.working.getD slot none)) ∧
        (let y := ({ s.media with exch := f } : Media).writerFault s.env
         let pending := ∃ u ∈ e.transfers, u.purpose = .sheet true
         (¬pending → x = { s with media := y }) ∧
         (∀ (g : Frame) (rest : List Frame), pending → y.steady.headStage = .reading → y.steady.frames = g :: rest →
           let k := HeadFigures.of g.start y.steady.heldSheet true false
           k.ready s.orientation s.clock.count = false → x = { s with media := { y with steady := { y.steady with
             headStage := .waiting, head := some k, heldTotal := min 65535 (y.steady.heldTotal + 1) } } }))
    let unanswered := 50000 ≤ (s.clock.count - t.issued).toInt
    (s.media.exch.state = .running → t.purpose.inArea = true → faulted (.linkTransferFailed n)) ∧
    (s.media.exch.state = .running → unanswered → faulted (.linkTransferUnanswered n)) ∧
    (¬unanswered → exec (.linkTransferUnanswered n) s = .next s.settle) ∧
    (∀ p : WriteInProgress, t.purpose = .payload true → s.media.writer.wip = some p → p.stage = .fetching →
      exec (.linkTransferFailed n) s = .next ({ s with media := ({ s.media with
        exch := s.media.exch.dropTransfer n } : Media).fetchFailed s.env } : State).settle) ∧
    (t.purpose = .payload false ∨ t.purpose = .readBackWrite false →
      exec (.linkTransferFailed n) s = .next (s.modExch fun e => e.dropTransfer n).settle) ∧
    (t.purpose = .readBackWrite true →
      exec (.linkTransferFailed n) s = .next ({ s with media := ({ s.media with
        exch := s.media.exch.dropTransfer n } : Media).pieceLost s.env } : State).settle) ∧
    (s.media.exch.state ≠ .running → unanswered → t.purpose = .payload true → exec (.linkTransferUnanswered n) s =
      .next ({ s with media := ({ s.media with
        exch := s.media.exch.dropTransfer n } : Media).fetchFailed s.env } : State).settle) ∧
    (s.media.exch.state ≠ .running → unanswered → t.purpose = .readBackWrite true → exec (.linkTransferUnanswered n) s =
      .next ({ s with media := ({ s.media with
        exch := s.media.exch.dropTransfer n } : Media).pieceLost s.env } : State).settle) ∧
    (s.media.exch.state ≠ .running →
      let d := s.modExch fun e => e.dropTransfer n
      let ends := fun x : State => (t.purpose.inArea = true → exec (.linkTransferFailed n) s = .next x.settle) ∧
        (unanswered → exec (.linkTransferUnanswered n) s = .next x.settle)
      (t.purpose = .payload false ∨ t.purpose = .readBackWrite false ∨ t.purpose = .sheet false → ends d) ∧
      (t.purpose = .requestBoard ∨ t.purpose = .chunkBoard →
        (d.media.exch.pickup = none → ends d) ∧
        (∀ p : Pickup, d.media.exch.pickup = some p → ends (d.noticePickup p.stamp).endPickup)) ∧
      (t.purpose = .sheet true → ends { d with media := d.media.sheetEnd d.env d.orientation none }) ∧
      (∀ (g : Frame) (rest : List Frame), d.media.steady.headStage = .reading → d.media.steady.frames = g :: rest →
        let k := HeadFigures.of g.start d.media.steady.heldSheet true false
        k.ready d.orientation s.clock.count = false →
          d.media.sheetEnd d.env d.orientation none = { d.media with steady := { d.media.steady with
            headStage := .waiting, head := some k, heldTotal := min 65535 (d.media.steady.heldTotal + 1) } }) ∧
      (∀ slot k : Nat, t.purpose = .profileSection slot k →
        ends (d.modExch fun e => { e with working := e.working.set slot none })) ∧
      (∀ (r : Record) (part : RecordPart), t.purpose = .record r part →
        (∀ slot : Nat, r.kind = .answer slot → ends (d.modExch fun e => { e with working := e.working.set slot none })) ∧
        (r.kind = .report → ends d.endPickup) ∧
        (∀ h : Nat, r.kind = .receipt h ∨ r.kind = .correction h ∨ (∃ b, r.kind = .mirror h b) → ends d)))) ∧
  (∀ (m : Media) (env : Env) (p : WriteInProgress) (h : HeldSlot) (address i : Nat) (d : Tables) (e : Clip),
    m.writer.wip = some p → p.stage = .fetching → p.chunk.source = .slot h.slot h.edition address → h.seq = p.chunk.seq →
    m.writer.held.contains h = true → m.writer.mounted = true → m.writer.tables = some d → d.openIndex = some i →
    d.clipAt i = some e →
    m.fetchFailed env = { m with
      writer := { m.writer with
        held := m.writer.held.filter fun x => decide (x ≠ h)
        tables := some { d with dir := d.dir.modify i (Option.map fun e => { e with drops := e.drops + 1 }) }
        updates := addOnce m.writer.updates (1 + i / 2)
        mirrorDirty := addOnce m.writer.mirrorDirty i
        wip := none
        keyWait := true }
      exch := m.exch.writeRecord env.now (receiptRecord h .fetchFailed) }) ∧
  (∀ (m : Media) (env : Env), m.exch.state ≠ .running →
    let w := m.writer
    let x := m.writerFault env
    let fetching := w.wip.any fun p => decide (p.stage = .fetching)
    let copying := w.readBack.any fun r => decide (r.stage = .writing)
    let dropped := hostCount w.queue + if fetching then 1 else 0
    x.writer.state = w.state ∧ x.writer.expected = w.expected ∧ x.writer.keyWait = true ∧ x.writer.parked = [] ∧
      x.writer.held = [] ∧ x.writer.queue = (w.queue.filter fun k => decide (k.kind = .motion)) ∧
      x.writer.wip = (if fetching then none else w.wip) ∧ x.writer.readBack = (if copying then none else w.readBack) ∧
      (∀ (d : Tables) (i : Nat), w.tables = some d → w.openIndex = some i →
        x.writer.tables = some { d with dir := d.dir.modify i (Option.map fun c => { c with drops := c.drops + dropped }) } ∧
        x.writer.updates = if dropped = 0 then w.updates else addOnce w.updates (1 + i / 2)) ∧
      (w.openIndex = none → x.writer.tables = w.tables ∧ x.writer.updates = w.updates) ∧
      x.exch.transfers = m.exch.transfers.map (fun t => if copying then { t with purpose := t.purpose.withoutCopy } else t) ∧
      (∀ slot : Nat, x.exch.working.getD slot none =
        if w.readBack.any (fun r => decide (r.stage = .writing ∧ r.slot = slot)) then none
        else m.exch.working.getD slot none)) ∧
  (∀ (m : Media) (env : Env) (r : ReadBack), m.writer.readBack = some r → r.stage = .writing →
    m.pieceLost env = ({ m with
      writer := { m.writer with readBack := none }
      card := m.card.withdraw .readBack
      exch := m.exch.mapPurposes Purpose.withoutCopy } : Media).answer env r.slot
        { Answer.failed .link with data := toLe 4 r.copied })

/-! ### What every step keeps -/

/-- Every step keeps the position of the prescaler group in 0 to 127 and the fraction in 0 to 511 (R2, R3), and Q within the battery's
capacity, and its carry, time remainder and cut-off run in their ranges (R170, R175). -/
def Obligations.StepsKeepClockAndGaugeInRange : Prop :=
  (∀ s t : State, Safety.ClockInRange s → step s = .next t → Safety.ClockInRange t) ∧
  (∀ s t : State, Safety.GaugeInRange s → step s = .next t → Safety.GaugeInRange t)

/-- Every step keeps the charge current within the current cap, and the cap within the cap of the charge state and, while a clip is
recorded, the recording cap (R161, R164); and the source in force the one that R152 selects. -/
def Obligations.StepsKeepChargeWithinCaps : Prop :=
  ∀ s t : State, Safety.ChargeWithinCaps s → step s = .next t → Safety.ChargeWithinCaps t

/-- Every step keeps the exchange STOPPED, its registers 0, no pickup, and the detect level EMPTY, as long as the rail is OFF (R137,
R191). -/
def Obligations.StepsKeepLinkDown : Prop :=
  ∀ s t : State, Safety.LinkDownWithRail s → step s = .next t → Safety.LinkDownWithRail t

/-- Every step keeps each axis of the orientation, and of every entry of the history, in its range, with what that rests on: the
profile's values, the bias and the agreement of the integrator with the intake (R15, R16, R25, R28, R37, R39, R40). -/
def Obligations.StepsKeepOrientationInRange : Prop :=
  ∀ s t : State, Safety.OrientationInRange s → step s = .next t → Safety.OrientationInRange t

/-- The state after reset meets each of the invariants. -/
def Obligations.ResetMeetsInvariants : Prop :=
  Safety.ClockInRange State.reset ∧ Safety.ChargeWithinCaps State.reset ∧ Safety.GaugeInRange State.reset ∧
    Safety.LinkDownWithRail State.reset ∧ Safety.OrientationInRange State.reset
end

