-- ==== Sys2Proof/Laws/Ops.lean ====
section
/-! SUPPORT. What the shared operations over stamps, waits, keys, lists and bytes answer, for proofs to cite instead of unfolding
them. -/

namespace Sys2Proof.Machine

/-! ### Stamps and waits -/

theorem stampLater_iff (a b : Stamp) : stampLater a b = true ↔ 0 < (a - b).toInt := by
  exact decide_eq_true_iff

theorem not_stampLater_iff (a b : Stamp) : stampLater a b = false ↔ (a - b).toInt ≤ 0 := by
  rw [← Bool.not_eq_true, stampLater_iff, not_lt]

theorem reached_iff (count start : Stamp) (n : Nat) : reached count start n = true ↔ (n : Int) ≤ (count - start).toInt := by
  exact decide_eq_true_iff

theorem not_reached_iff (count start : Stamp) (n : Nat) : reached count start n = false ↔ (count - start).toInt < (n : Int) := by
  rw [← Bool.not_eq_true, reached_iff, not_le]

@[simp] theorem waitDue_none (count : Stamp) : waitDue none count = false := rfl

@[simp] theorem waitDue_some (w : Wait) (count : Stamp) : waitDue (some w) count = reached count w.start w.length := rfl

/-! ### The rail and the running exchange -/

theorem State.railOn_iff (s : State) : s.railOn = true ↔ s.power.state = .run ∨ s.power.state = .shutting := by
  unfold State.railOn PowerState.rail; cases s.power.state <;> simp

theorem State.not_railOn_iff (s : State) :
    s.railOn = false ↔ s.power.state = .standby ∨ s.power.state = .dormant ∨ s.power.state = .waking := by
  unfold State.railOn PowerState.rail; cases s.power.state <;> simp

theorem Exchange.running_iff (e : Exchange) : e.running = true ↔ e.state = .running := by
  simp [Exchange.running]

theorem Exchange.not_running_iff (e : Exchange) : e.running = false ↔ e.state ≠ .running := by
  simp [Exchange.running]

/-! ### Lists and bytes -/

@[simp] theorem slice_length (bs : List Byte) (at_ n : Nat) : (slice bs at_ n).length = n := by
  simp [slice]

@[simp] theorem toLe_length (n v : Nat) : (toLe n v).length = n := by
  induction n generalizing v with
  | zero => rfl
  | succ n ih => simp [toLe, ih]

theorem leNat_toLe (n v : Nat) (rest : List Byte) (h : v < 256 ^ n) : leNat (toLe n v ++ rest) 0 n = v := by
  have go : ∀ (n v : Nat) (before rest : List Byte), v < 256 ^ n → leNat (before ++ (toLe n v ++ rest)) before.length n = v := by
    intro n
    induction n with
    | zero => intro v before rest h; simp at h; simp [leNat, h]
    | succ n ih =>
      intro v before rest h
      have hb : byteAt (before ++ (toLe (n + 1) v ++ rest)) before.length = BitVec.ofNat 8 v := by
        simp [byteAt, toLe]
      have hr := ih (v / 256) (before ++ [BitVec.ofNat 8 v]) rest (by rw [Nat.div_lt_iff_lt_mul (by decide)]; rw [pow_succ] at h; exact h)
      simp only [List.append_assoc, List.cons_append, List.nil_append, List.length_append, List.length_cons,
        List.length_nil] at hr
      simp only [leNat, hb]
      rw [show toLe (n + 1) v = BitVec.ofNat 8 v :: toLe n (v / 256) from rfl]
      simp only [List.cons_append]
      rw [hr, BitVec.toNat_ofNat]
      omega
  simpa using go n v [] rest h

@[simp] theorem appendBounded_length {α : Type} (top : Nat) (l : List α) (x : α) :
    (appendBounded top l x).length = min top (l.length + 1) := by
  simp [appendBounded]; omega

theorem mem_appendBounded {α : Type} {top : Nat} {l : List α} {x y : α} (h : y ∈ appendBounded top l x) : y ∈ l ∨ y = x := by
  simpa using List.mem_of_mem_drop h

theorem mem_addOnce {l : List Nat} {x y : Nat} : y ∈ addOnce l x ↔ y ∈ l ∨ y = x := by
  unfold addOnce; split <;> simp_all

/-! ### Numbers -/

theorem bump_le (top n : Nat) : bump top n ≤ top :=
  Nat.min_le_left _ _

theorem clampInt_bounds {lo hi : Int} (h : lo ≤ hi) (x : Int) : lo ≤ clampInt lo hi x ∧ clampInt lo hi x ≤ hi := by
  unfold clampInt; omega

theorem clampNat_bounds {lo hi : Nat} (h : lo ≤ hi) (x : Nat) : lo ≤ clampNat lo hi x ∧ clampNat lo hi x ≤ hi := by
  unfold clampNat; omega

/-- A truncated quotient with its remainder gives the number back, the remainder below the divisor. -/
theorem truncDiv_spec (n : Int) {d : Int} (h : 0 < d) :
    truncDiv n d * d + (n - truncDiv n d * d) = n ∧ -d < n - truncDiv n d * d ∧ n - truncDiv n d * d < d := by
  have e : n - truncDiv n d * d = n.tmod d := by rw [truncDiv, Int.tmod_def]; ring
  rw [e]
  have a := Int.tmod_lt_of_pos n h
  have b := Int.tmod_lt_of_pos (-n) h
  rw [Int.neg_tmod] at b
  exact ⟨by rw [← e]; ring, by omega, a⟩

/-- A plain sum within one turn of its range comes into it. -/
theorem wrapAngle_bounds {x : Int} (h1 : -540000000 ≤ x) (h2 : x < 540000000) : -180000000 ≤ wrapAngle x ∧ wrapAngle x < 180000000 := by
  unfold wrapAngle; split <;> [skip; split] <;> omega

end Sys2Proof.Machine
end

