-- ==== Sys2Proof/Laws/Layout.lean ====
section
/-! SUPPORT. What `layoutFrom` gives of a record whose fields stand at their places, byte by byte, and that the items of the report
page stand so. -/

namespace Sys2Proof.Machine

/-! ### Reading numbers back -/

theorem byteAt_append_left (a b : List Byte) {i : Nat} (h : i < a.length) : byteAt (a ++ b) i = byteAt a i := by
  simp [byteAt, List.getD_eq_getElem?_getD, List.getElem?_append_left h]

theorem byteAt_append_right (a b : List Byte) (i : Nat) : byteAt (a ++ b) (a.length + i) = byteAt b i := by
  simp [byteAt, List.getD_eq_getElem?_getD, List.getElem?_append_right]

/-- A number is read from the bytes at its place alone. -/
theorem leNat_congr {a b : List Byte} {i j n : Nat} (h : ∀ k < n, byteAt a (i + k) = byteAt b (j + k)) :
    leNat a i n = leNat b j n := by
  induction n generalizing i j with
  | zero => rfl
  | succ n ih =>
    have h0 := h 0 (by omega)
    have hr : leNat a (i + 1) n = leNat b (j + 1) n :=
      ih fun k hk => by simpa [Nat.add_assoc, Nat.add_comm, Nat.add_left_comm] using h (k + 1) (by omega)
    simp only [Nat.add_zero] at h0
    simp only [leNat, h0, hr]

/-- What the low bytes of a number read back as. -/
theorem leNat_toLe_mod (n v : Nat) : leNat (toLe n v) 0 n = v % 256 ^ n := by
  have low : ∀ n v, toLe n (v % 256 ^ n) = toLe n v := by
    intro n
    induction n with
    | zero => intro v; rfl
    | succ n ih =>
      intro v
      have hd : v % 256 ^ (n + 1) / 256 = v / 256 % 256 ^ n := by rw [pow_succ, Nat.mul_comm, Nat.mod_mul_right_div_self]
      have hm : BitVec.ofNat 8 (v % 256 ^ (n + 1)) = BitVec.ofNat 8 v := by
        apply BitVec.eq_of_toNat_eq
        simp only [BitVec.toNat_ofNat]
        exact Nat.mod_mod_of_dvd v ⟨256 ^ n, by rw [pow_succ]; ring⟩
      rw [toLe, toLe, hd, ih, hm]
  have h := leNat_toLe n (v % 256 ^ n) [] (Nat.mod_lt _ (by positivity))
  rwa [List.append_nil, low] at h

/-! ### Fields at their places -/

/-- The fields stand one after another from `pos`, none before the end of the one before it, and the last ends within `size`. -/
def Fits (size : Nat) : Nat → List (Nat × List Byte) → Prop
  | pos, [] => pos ≤ size
  | pos, (at_, bs) :: rest => pos ≤ at_ ∧ Fits size (at_ + bs.length) rest

theorem Fits.le {size : Nat} {items : List (Nat × List Byte)} {pos : Nat} (h : Fits size pos items) : pos ≤ size := by
  induction items generalizing pos with
  | nil => exact h
  | cons x rest ih => have := ih h.2; have := h.1; omega

theorem Fits.place_ge {size : Nat} {items : List (Nat × List Byte)} {pos : Nat} (h : Fits size pos items) {x : Nat × List Byte}
    (hx : x ∈ items) : pos ≤ x.1 := by
  induction items generalizing pos with
  | nil => simp at hx
  | cons y rest ih =>
    rcases List.mem_cons.1 hx with rfl | hx
    · exact h.1
    · have := ih h.2 hx; have := h.1; omega

theorem layoutFrom_length {size pos : Nat} {items : List (Nat × List Byte)} (h : Fits size pos items) :
    (layoutFrom size pos items).length = size - pos := by
  induction items generalizing pos with
  | nil => simp [layoutFrom]
  | cons x rest ih =>
    have := h.2.le
    have := h.1
    simp only [layoutFrom, List.length_append, List.length_replicate, ih h.2]
    omega

/-- A byte of a field that stands at its place. -/
theorem layoutFrom_byte {size pos : Nat} {items : List (Nat × List Byte)} (h : Fits size pos items) {x : Nat × List Byte}
    (hx : x ∈ items) {k : Nat} (hk : k < x.2.length) : byteAt (layoutFrom size pos items) (x.1 - pos + k) = byteAt x.2 k := by
  induction items generalizing pos with
  | nil => simp at hx
  | cons y rest ih =>
    have h1 := h.1
    have gap : ∀ i, byteAt (layoutFrom size pos (y :: rest)) (y.1 - pos + i)
        = byteAt (y.2 ++ layoutFrom size (y.1 + y.2.length) rest) i := by
      intro i
      have := byteAt_append_right (List.replicate (y.1 - pos) 0) (y.2 ++ layoutFrom size (y.1 + y.2.length) rest) i
      rwa [List.length_replicate] at this
    rcases List.mem_cons.1 hx with rfl | hx
    · rw [gap, byteAt_append_left _ _ hk]
    · have hp := h.2.place_ge hx
      rw [show x.1 - pos + k = y.1 - pos + (y.2.length + (x.1 - (y.1 + y.2.length) + k)) by omega, gap, byteAt_append_right]
      exact ih h.2 hx

/-- A byte that no field takes. -/
theorem layoutFrom_gap {size pos : Nat} {items : List (Nat × List Byte)} (h : Fits size pos items) {i : Nat}
    (hi : ∀ x ∈ items, i < x.1 - pos ∨ x.1 - pos + x.2.length ≤ i) : byteAt (layoutFrom size pos items) i = 0 := by
  induction items generalizing pos i with
  | nil => simp only [layoutFrom, byteAt, List.getD_eq_getElem?_getD, List.getElem?_replicate]; split <;> rfl
  | cons y rest ih =>
    have h1 := h.1
    rcases hi y (by simp) with hl | hr
    · rw [layoutFrom, byteAt_append_left _ _ (by simpa using hl)]
      simp [byteAt, hl]
    · have e := byteAt_append_right (List.replicate (y.1 - pos) 0 ++ y.2) (layoutFrom size (y.1 + y.2.length) rest)
        (i - (y.1 - pos + y.2.length))
      rw [List.length_append, List.length_replicate, List.append_assoc, Nat.add_sub_cancel' hr] at e
      rw [layoutFrom, e]
      apply ih h.2
      intro x hx
      have hp := h.2.place_ge hx
      rcases hi x (by simp [hx]) with hx | hx <;> omega

/-- A number that stands at a field's place. -/
theorem layoutFrom_leNat {size pos : Nat} {items : List (Nat × List Byte)} (h : Fits size pos items) {at_ n v : Nat}
    (hx : (at_, toLe n v) ∈ items) : leNat (layoutFrom size pos items) (at_ - pos) n = v % 256 ^ n := by
  rw [← leNat_toLe_mod]
  apply leNat_congr
  intro k hk
  rw [Nat.zero_add]
  exact layoutFrom_byte h hx (by simpa using hk)

/-! ### The report page -/

theorem incidentBytes_length (l : List IncidentEntry) : (l.flatMap IncidentEntry.bytes).length = 32 * l.length := by
  induction l with
  | nil => rfl
  | cons e l ih => simp [ih, IncidentEntry.bytes, stampBytes]; omega

theorem chargeFields_length {o : ChargeOptions} (h : o.openCircuit.length = 11) : (chargeFields o).length = 53 := by
  simp [chargeFields, toLeInt, h]

/-- The items of the report page stand at their places, an incident list of eight and an open-circuit table of eleven being full. -/
theorem reportItems_fit (s : State) (pickup : Stamp) (hl : s.incident.list.length ≤ 8)
    (ho : s.options.openCircuit.length = 11) :
    Fits 1022 2 (s.reportMotion pickup ++ (s.reportSteady ++ (s.reportIncident ++ (s.reportVolume ++ (s.reportRecording
      ++ (s.reportCard ++ (s.reportCharge ++ (s.reportGauge ++ s.reportPower)))))))) := by
  have hv : ∀ rest, Fits 1022 452 rest → Fits 1022 400 (s.reportVolume ++ rest) := by
    intro rest hr
    unfold State.reportVolume
    dsimp only
    split <;> simp [Fits, Tables.report, hr]
  have hr : ∀ rest, Fits 1022 492 rest → Fits 1022 452 (s.reportRecording ++ rest) := by
    intro rest hr
    unfold State.reportRecording State.unstated
    dsimp only
    split <;> split <;> split <;> simp [Fits, stampBytes, hr]
  have hc : ∀ rest, Fits 1022 597 rest → Fits 1022 512 (s.reportCharge ++ rest) := by
    intro rest hr
    unfold State.reportCharge State.unstated
    dsimp only
    split <;> split <;> simp [Fits, toLeInt, chargeFields_length ho, hr]
  have hg : ∀ rest, Fits 1022 632 rest → Fits 1022 600 (s.reportGauge ++ rest) := by
    intro rest hr
    unfold State.reportGauge State.reportMeasurement State.unstated
    dsimp only
    split <;> split <;> simp [Fits, toLeInt, stampBytes, hr]
  have hcard : ∀ rest, Fits 1022 512 rest → Fits 1022 492 (s.reportCard ++ rest) := by
    intro rest hr; simp [State.reportCard, Fits, hr]
  have hi : ∀ rest, Fits 1022 400 rest → Fits 1022 112 (s.reportIncident ++ rest) := by
    intro rest hr
    have := incidentBytes_length s.incident.list
    have up : ∀ rest : List (Nat × List Byte), ∀ p q, p ≤ q → Fits 1022 q rest → Fits 1022 p rest := by
      intro rest p q hpq h
      cases rest with
      | nil => simp only [Fits] at h ⊢; omega
      | cons x rest => exact ⟨hpq.trans h.1, h.2⟩
    simp only [State.reportIncident, List.cons_append, List.nil_append, Fits, toLe_length, stampBytes, this]
    exact ⟨by decide, by decide, by decide, by decide, by decide, by decide, by decide, by decide, by decide, by decide,
      by decide, by decide, by decide, up _ _ 400 (by omega) hr⟩
  have hs : ∀ rest, Fits 1022 112 rest → Fits 1022 76 (s.reportSteady ++ rest) := by
    intro rest hr; simp [State.reportSteady, Fits, axesBytes, toLeInt, hr]
  have hp : Fits 1022 632 s.reportPower := by
    simp [State.reportPower, Fits, stampBytes]
  have hm : ∀ rest, Fits 1022 76 rest → Fits 1022 2 (s.reportMotion pickup ++ rest) := by
    intro rest hr; simp [State.reportMotion, Fits, axesBytes, toLeInt, stampBytes, hr]
  have up : ∀ rest : List (Nat × List Byte), Fits 1022 600 rest → Fits 1022 597 rest := by
    intro rest h
    cases rest with
    | nil => simp only [Fits] at h ⊢; omega
    | cons x rest => exact ⟨by have := h.1; omega, h.2⟩
  exact hm _ (hs _ (hi _ (hv _ (hr _ (hcard _ (hc _ (up _ (hg _ hp))))))))

end Sys2Proof.Machine
end

