-- ==== Sys2Proof/Laws/PerInstr.lean ====
section
/-! SUPPORT. Per command: no word of the table spells it, since spec/opcode_table.json gives no row any bits. -/

namespace Sys2Proof.Laws.NoTableWord

/-- No word of the table spells the command. -/
def Statement (i : Instr) : Prop :=
  ∀ nbits w : Nat, decodeTableWord nbits w ≠ some i

theorem fastPulse : Statement .fastPulse :=
  fun _ _ => nofun

theorem slowTick : Statement .slowTick :=
  fun _ _ => nofun

theorem settleComplete : Statement .settleComplete :=
  fun _ _ => nofun

theorem coldReset (usbInWindow auxInWindow supplyLow : Bool) : Statement (.coldReset usbInWindow auxInWindow supplyLow) :=
  fun _ _ => nofun

theorem supplyReset (usbInWindow auxInWindow supplyLow : Bool) : Statement (.supplyReset usbInWindow auxInWindow supplyLow) :=
  fun _ _ => nofun

theorem warmReset : Statement .warmReset :=
  fun _ _ => nofun

theorem loadProfile : Statement .loadProfile :=
  fun _ _ => nofun

theorem sectionReadComplete (transfer : Nat) (bytes : List Byte) : Statement (.sectionReadComplete transfer bytes) :=
  fun _ _ => nofun

theorem startMotion : Statement .startMotion :=
  fun _ _ => nofun

theorem stopMotion : Statement .stopMotion :=
  fun _ _ => nofun

theorem imuTransfer : Statement .imuTransfer :=
  fun _ _ => nofun

theorem transferEnd (inBytes : List Byte) : Statement (.transferEnd inBytes) :=
  fun _ _ => nofun

theorem dataReadyEdge : Statement .dataReadyEdge :=
  fun _ _ => nofun

theorem burstEnd (inBytes : List Byte) (incidentFirst : Bool) : Statement (.burstEnd inBytes incidentFirst) :=
  fun _ _ => nofun

theorem frameStart : Statement .frameStart :=
  fun _ _ => nofun

theorem sheetReadComplete (transfer : Nat) (bytes : List Byte) : Statement (.sheetReadComplete transfer bytes) :=
  fun _ _ => nofun

theorem headFrameTimeout : Statement .headFrameTimeout :=
  fun _ _ => nofun

theorem windowExpiry : Statement .windowExpiry :=
  fun _ _ => nofun

theorem protectionRequest : Statement .protectionRequest :=
  fun _ _ => nofun

theorem protectionAnswer : Statement .protectionAnswer :=
  fun _ _ => nofun

theorem markKeyEdge (down : Bool) : Statement (.markKeyEdge down) :=
  fun _ _ => nofun

theorem markDebounceExpiry : Statement .markDebounceExpiry :=
  fun _ _ => nofun

theorem markHoldExpiry : Statement .markHoldExpiry :=
  fun _ _ => nofun

theorem marker : Statement .marker :=
  fun _ _ => nofun

theorem markProtection : Statement .markProtection :=
  fun _ _ => nofun

theorem mountVolume : Statement .mountVolume :=
  fun _ _ => nofun

theorem unmountVolume : Statement .unmountVolume :=
  fun _ _ => nofun

theorem formatVolume : Statement .formatVolume :=
  fun _ _ => nofun

theorem setProtection : Statement .setProtection :=
  fun _ _ => nofun

theorem deleteClip : Statement .deleteClip :=
  fun _ _ => nofun

theorem payloadFetchComplete (transfer : Nat) (bytes : List Byte) : Statement (.payloadFetchComplete transfer bytes) :=
  fun _ _ => nofun

theorem startClip : Statement .startClip :=
  fun _ _ => nofun

theorem stopClip : Statement .stopClip :=
  fun _ _ => nofun

theorem starvationExpiry : Statement .starvationExpiry :=
  fun _ _ => nofun

theorem readBack : Statement .readBack :=
  fun _ _ => nofun

theorem readBackWriteComplete (transfer : Nat) : Statement (.readBackWriteComplete transfer) :=
  fun _ _ => nofun

theorem detectEdge (present : Bool) : Statement (.detectEdge present) :=
  fun _ _ => nofun

theorem detectDebounceExpiry : Statement .detectDebounceExpiry :=
  fun _ _ => nofun

theorem identificationTimeout : Statement .identificationTimeout :=
  fun _ _ => nofun

theorem cardCommandResponse (response status : Byte) : Statement (.cardCommandResponse response status) :=
  fun _ _ => nofun

theorem cardResponseMissing : Statement .cardResponseMissing :=
  fun _ _ => nofun

theorem readBlockReceived (mark : Byte) (data : List Byte) (check : BitVec 16) : Statement (.readBlockReceived mark data check) :=
  fun _ _ => nofun

theorem readSectorTimeout : Statement .readSectorTimeout :=
  fun _ _ => nofun

theorem writeBlockAnswer (answer : Byte) : Statement (.writeBlockAnswer answer) :=
  fun _ _ => nofun

theorem cardBusyEnd : Statement .cardBusyEnd :=
  fun _ _ => nofun

theorem cardBusyTimeout : Statement .cardBusyTimeout :=
  fun _ _ => nofun

theorem inputEntersWindow (input : Input) : Statement (.inputEntersWindow input) :=
  fun _ _ => nofun

theorem inputLeavesWindow (input : Input) : Statement (.inputLeavesWindow input) :=
  fun _ _ => nofun

theorem qualifyWaitExpiry (input : Input) : Statement (.qualifyWaitExpiry input) :=
  fun _ _ => nofun

theorem lossDebounceExpiry (input : Input) : Statement (.lossDebounceExpiry input) :=
  fun _ _ => nofun

theorem gaugeMeasurement (readings : Readings) (gaugeFirst : Bool) : Statement (.gaugeMeasurement readings gaugeFirst) :=
  fun _ _ => nofun

theorem setInputLimit : Statement .setInputLimit :=
  fun _ _ => nofun

theorem clearChargeFault : Statement .clearChargeFault :=
  fun _ _ => nofun

theorem supplyWarningAssert : Statement .supplyWarningAssert :=
  fun _ _ => nofun

theorem supplyWarningRemove : Statement .supplyWarningRemove :=
  fun _ _ => nofun

theorem powerKeyEdge (down : Bool) : Statement (.powerKeyEdge down) :=
  fun _ _ => nofun

theorem powerDebounceExpiry : Statement .powerDebounceExpiry :=
  fun _ _ => nofun

theorem powerHoldExpiry : Statement .powerHoldExpiry :=
  fun _ _ => nofun

theorem shutdown : Statement .shutdown :=
  fun _ _ => nofun

theorem closeLimitExpiry : Statement .closeLimitExpiry :=
  fun _ _ => nofun

theorem storeChargeOptions : Statement .storeChargeOptions :=
  fun _ _ => nofun

theorem storeWriteComplete (matched : Bool) : Statement (.storeWriteComplete matched) :=
  fun _ _ => nofun

theorem runStart : Statement .runStart :=
  fun _ _ => nofun

theorem runStop : Statement .runStop :=
  fun _ _ => nofun

theorem pickupPeriodSet (code : BitVec 5) : Statement (.pickupPeriodSet code) :=
  fun _ _ => nofun

theorem attentionEnableSet (enables : BitVec 11) : Statement (.attentionEnableSet enables) :=
  fun _ _ => nofun

theorem attnClear (bits : Word32) : Statement (.attnClear bits) :=
  fun _ _ => nofun

theorem baseWrite (register : BaseRegister) (value : Word32) : Statement (.baseWrite register value) :=
  fun _ _ => nofun

theorem registerWriteOther (offset width : Nat) (value : Word32) : Statement (.registerWriteOther offset width value) :=
  fun _ _ => nofun

theorem pickupPeriodExpiry : Statement .pickupPeriodExpiry :=
  fun _ _ => nofun

theorem requestBoardReadComplete (transfer : Nat) (bytes : List Byte) : Statement (.requestBoardReadComplete transfer bytes) :=
  fun _ _ => nofun

theorem unknownKind : Statement .unknownKind :=
  fun _ _ => nofun

theorem chunkBoardReadComplete (transfer : Nat) (bytes : List Byte) : Statement (.chunkBoardReadComplete transfer bytes) :=
  fun _ _ => nofun

theorem recordWriteComplete (transfer : Nat) : Statement (.recordWriteComplete transfer) :=
  fun _ _ => nofun

theorem linkTransferFailed (transfer : Nat) : Statement (.linkTransferFailed transfer) :=
  fun _ _ => nofun

theorem linkTransferUnanswered (transfer : Nat) : Statement (.linkTransferUnanswered transfer) :=
  fun _ _ => nofun

end Sys2Proof.Laws.NoTableWord
end

