-- ==== Sys2Proof/Laws/State.lean ====
section
/-! SUPPORT. One lemma per field for each named update of the state and of the media blocks, true by `rfl`, so that no proof
unfolds a record update. -/

namespace Sys2Proof.Machine

/-! ### Updates of the state -/

@[simp] theorem State.modMedia_clock (s : State) (f : Media → Media) : (s.modMedia f).clock = s.clock := rfl
@[simp] theorem State.modMedia_motion (s : State) (f : Media → Media) : (s.modMedia f).motion = s.motion := rfl
@[simp] theorem State.modMedia_integ (s : State) (f : Media → Media) : (s.modMedia f).integ = s.integ := rfl
@[simp] theorem State.modMedia_incident (s : State) (f : Media → Media) : (s.modMedia f).incident = s.incident := rfl
@[simp] theorem State.modMedia_media (s : State) (f : Media → Media) : (s.modMedia f).media = f s.media := rfl
@[simp] theorem State.modMedia_charge (s : State) (f : Media → Media) : (s.modMedia f).charge = s.charge := rfl
@[simp] theorem State.modMedia_gauge (s : State) (f : Media → Media) : (s.modMedia f).gauge = s.gauge := rfl
@[simp] theorem State.modMedia_power (s : State) (f : Media → Media) : (s.modMedia f).power = s.power := rfl
@[simp] theorem State.modMedia_options (s : State) (f : Media → Media) : (s.modMedia f).options = s.options := rfl
@[simp] theorem State.modMedia_pending (s : State) (f : Media → Media) : (s.modMedia f).pending = s.pending := rfl

@[simp] theorem State.modExch_clock (s : State) (f : Exchange → Exchange) : (s.modExch f).clock = s.clock := rfl
@[simp] theorem State.modExch_motion (s : State) (f : Exchange → Exchange) : (s.modExch f).motion = s.motion := rfl
@[simp] theorem State.modExch_integ (s : State) (f : Exchange → Exchange) : (s.modExch f).integ = s.integ := rfl
@[simp] theorem State.modExch_incident (s : State) (f : Exchange → Exchange) : (s.modExch f).incident = s.incident := rfl
@[simp] theorem State.modExch_media (s : State) (f : Exchange → Exchange) : (s.modExch f).media = s.media.modExch f := rfl
@[simp] theorem State.modExch_charge (s : State) (f : Exchange → Exchange) : (s.modExch f).charge = s.charge := rfl
@[simp] theorem State.modExch_gauge (s : State) (f : Exchange → Exchange) : (s.modExch f).gauge = s.gauge := rfl
@[simp] theorem State.modExch_power (s : State) (f : Exchange → Exchange) : (s.modExch f).power = s.power := rfl
@[simp] theorem State.modExch_options (s : State) (f : Exchange → Exchange) : (s.modExch f).options = s.options := rfl
@[simp] theorem State.modExch_pending (s : State) (f : Exchange → Exchange) : (s.modExch f).pending = s.pending := rfl

@[simp] theorem State.modPower_clock (s : State) (f : Power → Power) : (s.modPower f).clock = s.clock := rfl
@[simp] theorem State.modPower_motion (s : State) (f : Power → Power) : (s.modPower f).motion = s.motion := rfl
@[simp] theorem State.modPower_integ (s : State) (f : Power → Power) : (s.modPower f).integ = s.integ := rfl
@[simp] theorem State.modPower_incident (s : State) (f : Power → Power) : (s.modPower f).incident = s.incident := rfl
@[simp] theorem State.modPower_media (s : State) (f : Power → Power) : (s.modPower f).media = s.media := rfl
@[simp] theorem State.modPower_charge (s : State) (f : Power → Power) : (s.modPower f).charge = s.charge := rfl
@[simp] theorem State.modPower_gauge (s : State) (f : Power → Power) : (s.modPower f).gauge = s.gauge := rfl
@[simp] theorem State.modPower_power (s : State) (f : Power → Power) : (s.modPower f).power = f s.power := rfl
@[simp] theorem State.modPower_options (s : State) (f : Power → Power) : (s.modPower f).options = s.options := rfl
@[simp] theorem State.modPower_pending (s : State) (f : Power → Power) : (s.modPower f).pending = s.pending := rfl

@[simp] theorem State.modGauge_clock (s : State) (f : Gauge → Gauge) : (s.modGauge f).clock = s.clock := rfl
@[simp] theorem State.modGauge_motion (s : State) (f : Gauge → Gauge) : (s.modGauge f).motion = s.motion := rfl
@[simp] theorem State.modGauge_integ (s : State) (f : Gauge → Gauge) : (s.modGauge f).integ = s.integ := rfl
@[simp] theorem State.modGauge_incident (s : State) (f : Gauge → Gauge) : (s.modGauge f).incident = s.incident := rfl
@[simp] theorem State.modGauge_media (s : State) (f : Gauge → Gauge) : (s.modGauge f).media = s.media := rfl
@[simp] theorem State.modGauge_charge (s : State) (f : Gauge → Gauge) : (s.modGauge f).charge = s.charge := rfl
@[simp] theorem State.modGauge_gauge (s : State) (f : Gauge → Gauge) : (s.modGauge f).gauge = f s.gauge := rfl
@[simp] theorem State.modGauge_power (s : State) (f : Gauge → Gauge) : (s.modGauge f).power = s.power := rfl
@[simp] theorem State.modGauge_options (s : State) (f : Gauge → Gauge) : (s.modGauge f).options = s.options := rfl
@[simp] theorem State.modGauge_pending (s : State) (f : Gauge → Gauge) : (s.modGauge f).pending = s.pending := rfl

@[simp] theorem State.modCharge_clock (s : State) (f : Charge → Charge) : (s.modCharge f).clock = s.clock := rfl
@[simp] theorem State.modCharge_motion (s : State) (f : Charge → Charge) : (s.modCharge f).motion = s.motion := rfl
@[simp] theorem State.modCharge_integ (s : State) (f : Charge → Charge) : (s.modCharge f).integ = s.integ := rfl
@[simp] theorem State.modCharge_incident (s : State) (f : Charge → Charge) : (s.modCharge f).incident = s.incident := rfl
@[simp] theorem State.modCharge_media (s : State) (f : Charge → Charge) : (s.modCharge f).media = s.media := rfl
@[simp] theorem State.modCharge_charge (s : State) (f : Charge → Charge) : (s.modCharge f).charge = f s.charge := rfl
@[simp] theorem State.modCharge_gauge (s : State) (f : Charge → Charge) : (s.modCharge f).gauge = s.gauge := rfl
@[simp] theorem State.modCharge_power (s : State) (f : Charge → Charge) : (s.modCharge f).power = s.power := rfl
@[simp] theorem State.modCharge_options (s : State) (f : Charge → Charge) : (s.modCharge f).options = s.options := rfl
@[simp] theorem State.modCharge_pending (s : State) (f : Charge → Charge) : (s.modCharge f).pending = s.pending := rfl

@[simp] theorem State.modMotion_clock (s : State) (f : MotionPort → MotionPort) : (s.modMotion f).clock = s.clock := rfl
@[simp] theorem State.modMotion_motion (s : State) (f : MotionPort → MotionPort) : (s.modMotion f).motion = f s.motion := rfl
@[simp] theorem State.modMotion_integ (s : State) (f : MotionPort → MotionPort) : (s.modMotion f).integ = s.integ := rfl
@[simp] theorem State.modMotion_incident (s : State) (f : MotionPort → MotionPort) : (s.modMotion f).incident = s.incident := rfl
@[simp] theorem State.modMotion_media (s : State) (f : MotionPort → MotionPort) : (s.modMotion f).media = s.media := rfl
@[simp] theorem State.modMotion_charge (s : State) (f : MotionPort → MotionPort) : (s.modMotion f).charge = s.charge := rfl
@[simp] theorem State.modMotion_gauge (s : State) (f : MotionPort → MotionPort) : (s.modMotion f).gauge = s.gauge := rfl
@[simp] theorem State.modMotion_power (s : State) (f : MotionPort → MotionPort) : (s.modMotion f).power = s.power := rfl
@[simp] theorem State.modMotion_options (s : State) (f : MotionPort → MotionPort) : (s.modMotion f).options = s.options := rfl
@[simp] theorem State.modMotion_pending (s : State) (f : MotionPort → MotionPort) : (s.modMotion f).pending = s.pending := rfl

@[simp] theorem State.modIncident_clock (s : State) (f : Incident → Incident) : (s.modIncident f).clock = s.clock := rfl
@[simp] theorem State.modIncident_motion (s : State) (f : Incident → Incident) : (s.modIncident f).motion = s.motion := rfl
@[simp] theorem State.modIncident_integ (s : State) (f : Incident → Incident) : (s.modIncident f).integ = s.integ := rfl
@[simp] theorem State.modIncident_incident (s : State) (f : Incident → Incident) : (s.modIncident f).incident = f s.incident := rfl
@[simp] theorem State.modIncident_media (s : State) (f : Incident → Incident) : (s.modIncident f).media = s.media := rfl
@[simp] theorem State.modIncident_charge (s : State) (f : Incident → Incident) : (s.modIncident f).charge = s.charge := rfl
@[simp] theorem State.modIncident_gauge (s : State) (f : Incident → Incident) : (s.modIncident f).gauge = s.gauge := rfl
@[simp] theorem State.modIncident_power (s : State) (f : Incident → Incident) : (s.modIncident f).power = s.power := rfl
@[simp] theorem State.modIncident_options (s : State) (f : Incident → Incident) : (s.modIncident f).options = s.options := rfl
@[simp] theorem State.modIncident_pending (s : State) (f : Incident → Incident) : (s.modIncident f).pending = s.pending := rfl

@[simp] theorem State.raise_clock (s : State) (f : AttnFlag) : (s.raise f).clock = s.clock := rfl
@[simp] theorem State.raise_motion (s : State) (f : AttnFlag) : (s.raise f).motion = s.motion := rfl
@[simp] theorem State.raise_integ (s : State) (f : AttnFlag) : (s.raise f).integ = s.integ := rfl
@[simp] theorem State.raise_incident (s : State) (f : AttnFlag) : (s.raise f).incident = s.incident := rfl
@[simp] theorem State.raise_media (s : State) (f : AttnFlag) : (s.raise f).media = s.media.raise f := rfl
@[simp] theorem State.raise_charge (s : State) (f : AttnFlag) : (s.raise f).charge = s.charge := rfl
@[simp] theorem State.raise_gauge (s : State) (f : AttnFlag) : (s.raise f).gauge = s.gauge := rfl
@[simp] theorem State.raise_power (s : State) (f : AttnFlag) : (s.raise f).power = s.power := rfl
@[simp] theorem State.raise_options (s : State) (f : AttnFlag) : (s.raise f).options = s.options := rfl
@[simp] theorem State.raise_pending (s : State) (f : AttnFlag) : (s.raise f).pending = s.pending := rfl

@[simp] theorem State.answer_clock (s : State) (slot : Nat) (a : Answer) : (s.answer slot a).clock = s.clock := rfl
@[simp] theorem State.answer_motion (s : State) (slot : Nat) (a : Answer) : (s.answer slot a).motion = s.motion := rfl
@[simp] theorem State.answer_integ (s : State) (slot : Nat) (a : Answer) : (s.answer slot a).integ = s.integ := rfl
@[simp] theorem State.answer_incident (s : State) (slot : Nat) (a : Answer) : (s.answer slot a).incident = s.incident := rfl
@[simp] theorem State.answer_media (s : State) (slot : Nat) (a : Answer) : (s.answer slot a).media = s.media.answer s.env slot a := rfl
@[simp] theorem State.answer_charge (s : State) (slot : Nat) (a : Answer) : (s.answer slot a).charge = s.charge := rfl
@[simp] theorem State.answer_gauge (s : State) (slot : Nat) (a : Answer) : (s.answer slot a).gauge = s.gauge := rfl
@[simp] theorem State.answer_power (s : State) (slot : Nat) (a : Answer) : (s.answer slot a).power = s.power := rfl
@[simp] theorem State.answer_options (s : State) (slot : Nat) (a : Answer) : (s.answer slot a).options = s.options := rfl
@[simp] theorem State.answer_pending (s : State) (slot : Nat) (a : Answer) : (s.answer slot a).pending = s.pending := rfl

@[simp] theorem State.answerAll_clock (s : State) (slots : List Nat) (a : Answer) : (s.answerAll slots a).clock = s.clock := rfl
@[simp] theorem State.answerAll_motion (s : State) (slots : List Nat) (a : Answer) : (s.answerAll slots a).motion = s.motion := rfl
@[simp] theorem State.answerAll_integ (s : State) (slots : List Nat) (a : Answer) : (s.answerAll slots a).integ = s.integ := rfl
@[simp] theorem State.answerAll_incident (s : State) (slots : List Nat) (a : Answer) : (s.answerAll slots a).incident = s.incident := rfl
@[simp] theorem State.answerAll_media (s : State) (slots : List Nat) (a : Answer) : (s.answerAll slots a).media = s.media.answerAll s.env slots a := rfl
@[simp] theorem State.answerAll_charge (s : State) (slots : List Nat) (a : Answer) : (s.answerAll slots a).charge = s.charge := rfl
@[simp] theorem State.answerAll_gauge (s : State) (slots : List Nat) (a : Answer) : (s.answerAll slots a).gauge = s.gauge := rfl
@[simp] theorem State.answerAll_power (s : State) (slots : List Nat) (a : Answer) : (s.answerAll slots a).power = s.power := rfl
@[simp] theorem State.answerAll_options (s : State) (slots : List Nat) (a : Answer) : (s.answerAll slots a).options = s.options := rfl
@[simp] theorem State.answerAll_pending (s : State) (slots : List Nat) (a : Answer) : (s.answerAll slots a).pending = s.pending := rfl

@[simp] theorem State.withPending_clock (s : State) (p : List Instr) : (s.withPending p).clock = s.clock := rfl
@[simp] theorem State.withPending_motion (s : State) (p : List Instr) : (s.withPending p).motion = s.motion := rfl
@[simp] theorem State.withPending_integ (s : State) (p : List Instr) : (s.withPending p).integ = s.integ := rfl
@[simp] theorem State.withPending_incident (s : State) (p : List Instr) : (s.withPending p).incident = s.incident := rfl
@[simp] theorem State.withPending_media (s : State) (p : List Instr) : (s.withPending p).media = s.media := rfl
@[simp] theorem State.withPending_charge (s : State) (p : List Instr) : (s.withPending p).charge = s.charge := rfl
@[simp] theorem State.withPending_gauge (s : State) (p : List Instr) : (s.withPending p).gauge = s.gauge := rfl
@[simp] theorem State.withPending_power (s : State) (p : List Instr) : (s.withPending p).power = s.power := rfl
@[simp] theorem State.withPending_options (s : State) (p : List Instr) : (s.withPending p).options = s.options := rfl
@[simp] theorem State.withPending_pending (s : State) (p : List Instr) : (s.withPending p).pending = p := rfl

/-! ### Updates of the media blocks -/

@[simp] theorem Media.modExch_exch (m : Media) (f : Exchange → Exchange) : (m.modExch f).exch = f m.exch := rfl
@[simp] theorem Media.modExch_card (m : Media) (f : Exchange → Exchange) : (m.modExch f).card = m.card := rfl
@[simp] theorem Media.modExch_writer (m : Media) (f : Exchange → Exchange) : (m.modExch f).writer = m.writer := rfl
@[simp] theorem Media.modExch_steady (m : Media) (f : Exchange → Exchange) : (m.modExch f).steady = m.steady := rfl

@[simp] theorem Media.modCard_exch (m : Media) (f : Card → Card) : (m.modCard f).exch = m.exch := rfl
@[simp] theorem Media.modCard_card (m : Media) (f : Card → Card) : (m.modCard f).card = f m.card := rfl
@[simp] theorem Media.modCard_writer (m : Media) (f : Card → Card) : (m.modCard f).writer = m.writer := rfl
@[simp] theorem Media.modCard_steady (m : Media) (f : Card → Card) : (m.modCard f).steady = m.steady := rfl

@[simp] theorem Media.modWriter_exch (m : Media) (f : Writer → Writer) : (m.modWriter f).exch = m.exch := rfl
@[simp] theorem Media.modWriter_card (m : Media) (f : Writer → Writer) : (m.modWriter f).card = m.card := rfl
@[simp] theorem Media.modWriter_writer (m : Media) (f : Writer → Writer) : (m.modWriter f).writer = f m.writer := rfl
@[simp] theorem Media.modWriter_steady (m : Media) (f : Writer → Writer) : (m.modWriter f).steady = m.steady := rfl

@[simp] theorem Media.modSteady_exch (m : Media) (f : Steady → Steady) : (m.modSteady f).exch = m.exch := rfl
@[simp] theorem Media.modSteady_card (m : Media) (f : Steady → Steady) : (m.modSteady f).card = m.card := rfl
@[simp] theorem Media.modSteady_writer (m : Media) (f : Steady → Steady) : (m.modSteady f).writer = m.writer := rfl
@[simp] theorem Media.modSteady_steady (m : Media) (f : Steady → Steady) : (m.modSteady f).steady = f m.steady := rfl

@[simp] theorem Media.setCard_exch (m : Media) (c : Card) : (m.setCard c).exch = m.exch := rfl
@[simp] theorem Media.setCard_card (m : Media) (c : Card) : (m.setCard c).card = c := rfl
@[simp] theorem Media.setCard_writer (m : Media) (c : Card) : (m.setCard c).writer = m.writer := rfl
@[simp] theorem Media.setCard_steady (m : Media) (c : Card) : (m.setCard c).steady = m.steady := rfl

@[simp] theorem Media.raise_exch (m : Media) (f : AttnFlag) : (m.raise f).exch = m.exch.raise f := rfl
@[simp] theorem Media.raise_card (m : Media) (f : AttnFlag) : (m.raise f).card = m.card := rfl
@[simp] theorem Media.raise_writer (m : Media) (f : AttnFlag) : (m.raise f).writer = m.writer := rfl
@[simp] theorem Media.raise_steady (m : Media) (f : AttnFlag) : (m.raise f).steady = m.steady := rfl

@[simp] theorem Media.enter_exch (m : Media) (st : WriterState) : (m.enter st).exch = m.exch := rfl
@[simp] theorem Media.enter_card (m : Media) (st : WriterState) : (m.enter st).card = m.card := rfl
@[simp] theorem Media.enter_writer (m : Media) (st : WriterState) : (m.enter st).writer = m.writer.enter st := rfl
@[simp] theorem Media.enter_steady (m : Media) (st : WriterState) : (m.enter st).steady = m.steady := rfl

@[simp] theorem Media.setBuffer_exch (m : Media) (id : BufferId) (b : MotionBuffer) : (m.setBuffer id b).exch = m.exch := rfl
@[simp] theorem Media.setBuffer_card (m : Media) (id : BufferId) (b : MotionBuffer) : (m.setBuffer id b).card = m.card := rfl
@[simp] theorem Media.setBuffer_writer (m : Media) (id : BufferId) (b : MotionBuffer) : (m.setBuffer id b).writer = m.writer := rfl
@[simp] theorem Media.setBuffer_steady (m : Media) (id : BufferId) (b : MotionBuffer) : (m.setBuffer id b).steady = m.steady.setBuffer id b := rfl

@[simp] theorem Media.answer_exch (m : Media) (env : Env) (slot : Nat) (a : Answer) : (m.answer env slot a).exch = m.exch.answer env.now slot a := rfl
@[simp] theorem Media.answer_card (m : Media) (env : Env) (slot : Nat) (a : Answer) : (m.answer env slot a).card = m.card := rfl
@[simp] theorem Media.answer_writer (m : Media) (env : Env) (slot : Nat) (a : Answer) : (m.answer env slot a).writer = m.writer := rfl
@[simp] theorem Media.answer_steady (m : Media) (env : Env) (slot : Nat) (a : Answer) : (m.answer env slot a).steady = m.steady := rfl

/-! ### Views -/

@[simp] theorem State.env_now (s : State) : s.env.now = s.now := rfl
@[simp] theorem State.env_warn (s : State) : s.env.warn = s.gauge.warning := rfl

/-! ### Flags -/

@[simp] theorem Exchange.raise_state (e : Exchange) (f : AttnFlag) : (e.raise f).state = e.state := rfl
@[simp] theorem Exchange.raise_run (e : Exchange) (f : AttnFlag) : (e.raise f).run = e.run := rfl
@[simp] theorem Exchange.raise_period (e : Exchange) (f : AttnFlag) : (e.raise f).period = e.period := rfl
@[simp] theorem Exchange.raise_enables (e : Exchange) (f : AttnFlag) : (e.raise f).enables = e.enables := rfl
@[simp] theorem Exchange.raise_baseLo (e : Exchange) (f : AttnFlag) : (e.raise f).baseLo = e.baseLo := rfl
@[simp] theorem Exchange.raise_baseHi (e : Exchange) (f : AttnFlag) : (e.raise f).baseHi = e.baseHi := rfl
@[simp] theorem Exchange.raise_requestTaken (e : Exchange) (f : AttnFlag) : (e.raise f).requestTaken = e.requestTaken := rfl
@[simp] theorem Exchange.raise_chunkTaken (e : Exchange) (f : AttnFlag) : (e.raise f).chunkTaken = e.chunkTaken := rfl
@[simp] theorem Exchange.raise_working (e : Exchange) (f : AttnFlag) : (e.raise f).working = e.working := rfl
@[simp] theorem Exchange.raise_handed (e : Exchange) (f : AttnFlag) : (e.raise f).handed = e.handed := rfl
@[simp] theorem Exchange.raise_pickup (e : Exchange) (f : AttnFlag) : (e.raise f).pickup = e.pickup := rfl
@[simp] theorem Exchange.raise_pickupHeld (e : Exchange) (f : AttnFlag) : (e.raise f).pickupHeld = e.pickupHeld := rfl
@[simp] theorem Exchange.raise_periodWait (e : Exchange) (f : AttnFlag) : (e.raise f).periodWait = e.periodWait := rfl
@[simp] theorem Exchange.raise_periodOwed (e : Exchange) (f : AttnFlag) : (e.raise f).periodOwed = e.periodOwed := rfl
@[simp] theorem Exchange.raise_transfers (e : Exchange) (f : AttnFlag) : (e.raise f).transfers = e.transfers := rfl
@[simp] theorem Exchange.raise_reportEdition (e : Exchange) (f : AttnFlag) : (e.raise f).reportEdition = e.reportEdition := rfl
@[simp] theorem Exchange.raise_torn (e : Exchange) (f : AttnFlag) : (e.raise f).torn = e.torn := rfl
@[simp] theorem Exchange.raise_attn (e : Exchange) (f : AttnFlag) : (e.raise f).attn = e.attn ||| f.mask := rfl

/-! ### The card's exchanges -/

@[simp] theorem Card.begin_exchanges (c : Card) : c.begin.exchanges = c.exchanges + 1 := rfl
@[simp] theorem Card.begin_state (c : Card) : c.begin.state = c.state := rfl
@[simp] theorem Card.begin_detect (c : Card) : c.begin.detect = c.detect := rfl
@[simp] theorem Card.begin_detectLine (c : Card) : c.begin.detectLine = c.detectLine := rfl
@[simp] theorem Card.begin_debounce (c : Card) : c.begin.debounce = c.debounce := rfl
@[simp] theorem Card.begin_capacity (c : Card) : c.begin.capacity = c.capacity := rfl
@[simp] theorem Card.begin_fast (c : Card) : c.begin.fast = c.fast := rfl
@[simp] theorem Card.begin_run (c : Card) : c.begin.run = c.run := rfl
@[simp] theorem Card.begin_volume (c : Card) : c.begin.volume = c.volume := rfl
@[simp] theorem Card.begin_chunk (c : Card) : c.begin.chunk = c.chunk := rfl
@[simp] theorem Card.begin_readBack (c : Card) : c.begin.readBack = c.readBack := rfl
@[simp] theorem Card.begin_ident (c : Card) : c.begin.ident = c.ident := rfl
@[simp] theorem Card.begin_identWait (c : Card) : c.begin.identWait = c.identWait := rfl
@[simp] theorem Card.begin_recovery (c : Card) : c.begin.recovery = c.recovery := rfl
@[simp] theorem Card.begin_readErrors (c : Card) : c.begin.readErrors = c.readErrors := rfl
@[simp] theorem Card.begin_writeErrors (c : Card) : c.begin.writeErrors = c.writeErrors := rfl
@[simp] theorem Card.begin_timeouts (c : Card) : c.begin.timeouts = c.timeouts := rfl
@[simp] theorem Card.begin_removals (c : Card) : c.begin.removals = c.removals := rfl
@[simp] theorem Card.begin_stopOwed (c : Card) : c.begin.stopOwed = c.stopOwed := rfl
@[simp] theorem Card.begin_outcomes (c : Card) : c.begin.outcomes = c.outcomes := rfl

end Sys2Proof.Machine
end

