-- ==== Sys2Proof/Laws/Settle.lean ====
section
/-! SUPPORT. What follows within a step (log 31) leaves most of the media blocks alone: the registers and the pickup of the
exchange, the engine but for its motion buffers, the Card Port but for its run, its claims, their outcomes and the exchanges begun. One lemma per
shared operation says so of it; `rest` is what they leave. -/

namespace Sys2Proof.Machine

/-! ### The part that is left alone -/

def Exchange.rest (e : Exchange) : Exchange :=
  { e with transfers := [], working := e.working.map fun _ => none }

def Steady.rest (s : Steady) : Steady :=
  { s with bufA := .empty, bufB := .empty }

def Card.rest (c : Card) : Card :=
  { c with state := .absent, run := none, volume := none, chunk := none, readBack := none, exchanges := 0, outcomes := [] }

/-- The exchange, the engine and the Card Port without what the Clip Writer's work moves. -/
def Media.rest (m : Media) : Exchange × Steady × Card :=
  (m.exch.rest, m.steady.rest, m.card.rest)

theorem Media.rest_eq {m n : Media} (he : m.exch.rest = n.exch.rest) (hs : m.steady.rest = n.steady.rest)
    (hc : m.card.rest = n.card.rest) : m.rest = n.rest := by
  simp [Media.rest, he, hs, hc]

/-! ### The exchange's part -/

@[simp] theorem Exchange.issue_rest (e : Exchange) (now : Stamp) (p : Purpose) (a : Nat) (o : Option (List Byte)) (n : Nat) :
    (e.issue now p a o n).rest = e.rest := rfl
@[simp] theorem Exchange.issuePart_rest (e : Exchange) (now : Stamp) (r : Record) (p : RecordPart) :
    (e.issuePart now r p).rest = e.rest := rfl
@[simp] theorem Exchange.freeSlot_rest (e : Exchange) (slot : Nat) : (e.freeSlot slot).rest = e.rest := by
  simp [Exchange.rest, Exchange.freeSlot, List.map_const']
@[simp] theorem Exchange.mapPurposes_rest (e : Exchange) (f : Purpose → Purpose) : (e.mapPurposes f).rest = e.rest := rfl
@[simp] theorem Exchange.recordDone_rest (e : Exchange) (k : RecordKind) : (e.recordDone k).rest = e.rest := by
  cases k <;> simp [Exchange.recordDone]
@[simp] theorem Exchange.writeRecord_rest (e : Exchange) (now : Stamp) (r : Record) : (e.writeRecord now r).rest = e.rest := by
  unfold Exchange.writeRecord; split <;> simp
@[simp] theorem Exchange.answer_rest (e : Exchange) (now : Stamp) (slot : Nat) (a : Answer) :
    (e.answer now slot a).rest = e.rest := by
  unfold Exchange.answer; split <;> simp

/-! ### The card's part -/

@[simp] theorem Card.setPlace_rest (c : Card) (cls : ClaimClass) (k : Option Claim) : (c.setPlace cls k).rest = c.rest := by
  cases cls <;> rfl
@[simp] theorem Card.deliver_rest (c : Card) (cls : ClaimClass) (o : RunOutcome) (got : List Byte) (t : Stamp) :
    (c.deliver cls o got t).rest = c.rest := rfl
@[simp] theorem Card.takeOutcome_rest (c : Card) : c.takeOutcome.rest = c.rest := rfl
@[simp] theorem Card.hand_rest (c : Card) (env : Env) (cls : ClaimClass) (k : Claim) : (c.hand env cls k).rest = c.rest := by
  unfold Card.hand; split <;> (try split) <;> simp
@[simp] theorem Card.withdraw_rest (c : Card) (cls : ClaimClass) : (c.withdraw cls).rest = c.rest := by
  cases cls <;> rfl
@[simp] theorem Card.withdrawAll_rest (c : Card) : c.withdrawAll.rest = c.rest := by
  simp [Card.withdrawAll]
@[simp] theorem Card.begin_rest (c : Card) : c.begin.rest = c.rest := rfl
@[simp] theorem Card.startRun_rest (c : Card) (env : Env) (cls : ClaimClass) (k : Claim) :
    (c.startRun env cls k).rest = c.rest := by
  simp only [Card.startRun]; split <;> rfl
theorem Card.arbitrate_rest {c d : Card} {env : Env} (h : c.arbitrate env = some d) : d.rest = c.rest := by
  unfold Card.arbitrate at h
  split at h
  · split at h
    · cases h
    · rename_i cls claim _
      simp only at h
      split at h
      · cases h; simp
      · cases h; simp
  · cases h

/-! ### The named updates -/

@[simp] theorem Media.modWriter_rest (m : Media) (f : Writer → Writer) : (m.modWriter f).rest = m.rest := rfl
@[simp] theorem Media.enter_rest (m : Media) (st : WriterState) : (m.enter st).rest = m.rest := rfl
@[simp] theorem Media.answer_rest (m : Media) (env : Env) (slot : Nat) (a : Answer) : (m.answer env slot a).rest = m.rest := by
  simp [Media.rest, Media.answer]
@[simp] theorem Media.exch_rest (m : Media) : m.exch.rest = m.rest.1 := rfl
@[simp] theorem Media.card_rest (m : Media) : m.card.rest = m.rest.2.2 := rfl
@[simp] theorem Media.modExch_rest (m : Media) (f : Exchange → Exchange) :
    (m.modExch f).rest = ((f m.exch).rest, m.rest.2) := rfl
@[simp] theorem Media.modCard_rest (m : Media) (f : Card → Card) :
    (m.modCard f).rest = (m.rest.1, m.rest.2.1, (f m.card).rest) := rfl
@[simp] theorem Media.setCard_rest (m : Media) (c : Card) : (m.setCard c).rest = (m.rest.1, m.rest.2.1, c.rest) := rfl
@[simp] theorem Media.setBuffer_rest (m : Media) (id : BufferId) (b : MotionBuffer) : (m.setBuffer id b).rest = m.rest := by
  cases id <;> rfl
@[simp] theorem Media.returnBuffer_rest (m : Media) (id : BufferId) : (m.returnBuffer id).rest = m.rest := by
  simp [Media.returnBuffer]

/-! ### Folds -/

theorem foldl_rest {α : Type} (f : Media → α → Media) (h : ∀ m a, (f m a).rest = m.rest) (l : List α) (m : Media) :
    (l.foldl f m).rest = m.rest := by
  induction l generalizing m with
  | nil => rfl
  | cons a l ih => simp [ih, h]

@[simp] theorem Media.answerAll_rest (m : Media) (env : Env) (slots : List Nat) (a : Answer) :
    (m.answerAll env slots a).rest = m.rest :=
  foldl_rest _ (fun m slot => m.answer_rest env slot a) slots m


/-! ### The Clip Writer's operations -/

@[simp] theorem Media.handOver_rest (m : Media) (id : BufferId) :
    (m.handOver id).rest = m.rest := by
  simp only [Media.handOver]; (repeat' split) <;> simp
@[simp] theorem Media.flush_rest (m : Media) :
    m.flush.rest = m.rest := by
  simp only [Media.flush]; (repeat' split) <;> simp
@[simp] theorem Media.receipt_rest (m : Media) (env : Env) (st : ReceiptStatus) (h : HeldSlot) :
    (m.receipt env st h).rest = m.rest := by
  simp only [Media.receipt]; (repeat' split) <;> simp
@[simp] theorem Media.finish_rest (m : Media) (env : Env) (st : ReceiptStatus) (c : Chunk) :
    (m.finish env st c).rest = m.rest := by
  unfold Media.finish; split <;> simp
@[simp] theorem Media.finishAll_rest (m : Media) (env : Env) (st : ReceiptStatus) (cs : List Chunk) :
    (m.finishAll env st cs).rest = m.rest := by
  exact foldl_rest _ (fun m c => m.finish_rest env st c) cs m
@[simp] theorem Media.dropAdmitted_rest (m : Media) (env : Env) (st : ReceiptStatus) :
    (m.dropAdmitted env st).rest = m.rest := by
  simp [Media.dropAdmitted]
@[simp] theorem Media.dropParked_rest (m : Media) (env : Env) (st : ReceiptStatus) :
    (m.dropParked env st).rest = m.rest := by
  simp [Media.dropParked]
@[simp] theorem Media.closeBegin_rest (m : Media) (env : Env) (cause : CloseCause) :
    (m.closeBegin env cause).rest = m.rest := by
  simp only [Media.closeBegin]; (repeat' split) <;> simp
@[simp] theorem Media.checkStop_rest (m : Media) (env : Env) :
    (m.checkStop env).rest = m.rest := by
  simp only [Media.checkStop]; (repeat' split) <;> simp
@[simp] theorem Media.admitOne_rest (m : Media) (env : Env) (pickup : Stamp) (c : Chunk) :
    (m.admitOne env pickup c).rest = m.rest := by
  simp only [Media.admitOne]; (repeat' split) <;> simp
@[simp] theorem Media.admitParked_rest (env : Env) (pickup : Stamp) (n : Nat) (m : Media) :
    (Media.admitParked env pickup n m).rest = m.rest := by
  induction n generalizing m with
  | zero => rfl
  | succ n ih =>
    simp only [Media.admitParked]
    (repeat' split) <;> simp [ih]
@[simp] theorem Media.treatParked_rest (m : Media) (env : Env) (pickup : Stamp) :
    (m.treatParked env pickup).rest = m.rest := by
  simp [Media.treatParked]
@[simp] theorem Media.treat_rest (m : Media) (env : Env) (pickup : Stamp) (c : Chunk) :
    (m.treat env pickup c).rest = m.rest := by
  simp [Media.treat]
@[simp] theorem Media.takeChunk_rest (m : Media) (env : Env) (pickup : Stamp) (slot : Nat) (p : PostedChunk) :
    (m.takeChunk env pickup slot p).rest = m.rest := by
  simp only [Media.takeChunk]; (repeat' split) <;> simp
@[simp] theorem Media.jump_rest (m : Media) (env : Env) (pickup : Stamp) :
    (m.jump env pickup).rest = m.rest := by
  simp only [Media.jump]; (repeat' split) <;> simp
@[simp] theorem Media.pickupComplete_rest (m : Media) (env : Env) (pickup : Stamp) :
    (m.pickupComplete env pickup).rest = m.rest := by
  simp only [Media.pickupComplete]; (repeat' split) <;> simp
@[simp] theorem Media.handChunk_rest (m : Media) (env : Env) (p : WriteInProgress) (payload : List Byte) :
    (m.handChunk env p payload).rest = m.rest := by
  simp only [Media.handChunk]; (repeat' split) <;> simp
@[simp] theorem Media.placeChunk_rest (m : Media) (env : Env) (p : WriteInProgress) :
    (m.placeChunk env p).rest = m.rest := by
  simp only [Media.placeChunk]; (repeat' split) <;> simp
@[simp] theorem Media.volumeFull_rest (m : Media) (env : Env) :
    (m.volumeFull env).rest = m.rest := by
  simp [Media.volumeFull]
@[simp] theorem Media.allocateFor_rest (m : Media) (env : Env) (i : Nat) (p : WriteInProgress) :
    (m.allocateFor env i p).rest = m.rest := by
  simp only [Media.allocateFor]; (repeat' split) <;> simp
@[simp] theorem Media.beginItem_rest (m : Media) (env : Env) (i : Nat) (c : Chunk) :
    (m.beginItem env i c).rest = m.rest := by
  simp only [Media.beginItem]; (repeat' split) <;> simp
@[simp] theorem Media.rolloverFull_rest (m : Media) (env : Env) (i : Nat) (sectors : List Nat) (key : Chunk) :
    (m.rolloverFull env i sectors key).rest = m.rest := by
  simp [Media.rolloverFull]
@[simp] theorem Media.rollover_rest (m : Media) (env : Env) (i : Nat) (c : Chunk) :
    (m.rollover env i c).rest = m.rest := by
  simp only [Media.rollover]; (repeat' split) <;> simp
theorem Media.startWrite_rest {m n : Media} {env : Env} (h : m.startWrite env = some n) :
    n.rest = m.rest := by
  simp only [Media.startWrite] at h; (repeat' split at h)
  all_goals simp at h
  all_goals (try subst h)
  all_goals simp
theorem Media.allocationDone_rest {m n : Media} {env : Env} (h : m.allocationDone env = some n) :
    n.rest = m.rest := by
  simp only [Media.allocationDone] at h; (repeat' split at h)
  all_goals simp at h
  all_goals (try subst h)
  all_goals simp
@[simp] theorem Media.payloadRead_rest (m : Media) (env : Env) (bytes : List Byte) :
    (m.payloadRead env bytes).rest = m.rest := by
  simp only [Media.payloadRead]; (repeat' split) <;> simp
@[simp] theorem Media.fetchFailed_rest (m : Media) (env : Env) :
    (m.fetchFailed env).rest = m.rest := by
  simp only [Media.fetchFailed]; (repeat' split) <;> simp
@[simp] theorem Media.chunkWritten_rest (m : Media) (env : Env) (p : WriteInProgress) (completion : Stamp) :
    (m.chunkWritten env p completion).rest = m.rest := by
  simp only [Media.chunkWritten]; (repeat' split) <;> simp
@[simp] theorem Media.failWaiting_rest (m : Media) (env : Env) (r : FailReason) :
    (m.failWaiting env r).rest = m.rest := by
  simp [Media.failWaiting]
@[simp] theorem Media.endReadBack_rest (m : Media) (env : Env) (a : Answer) :
    (m.endReadBack env a).rest = m.rest := by
  simp only [Media.endReadBack]; (repeat' split) <;> simp
@[simp] theorem Media.endJob_rest (m : Media) (env : Env) (a : Answer) :
    (m.endJob env a).rest = m.rest := by
  simp only [Media.endJob]; (repeat' split) <;> simp
@[simp] theorem Media.faultEntry_rest (m : Media) (env : Env) :
    (m.faultEntry env).rest = m.rest := by
  simp only [Media.faultEntry]; (repeat' split) <;> simp
@[simp] theorem Media.enterCardFault_rest (m : Media) (env : Env) :
    (m.enterCardFault env).rest = m.rest := by
  simp [Media.enterCardFault]
@[simp] theorem Media.chunkFailed_rest (m : Media) (env : Env) (p : WriteInProgress) :
    (m.chunkFailed env p).rest = m.rest := by
  simp only [Media.chunkFailed]; (repeat' split) <;> simp
@[simp] theorem Media.mirror_rest (env : Env) (follows : Bool) (l : List Nat) (m : Media) :
    (Media.mirror env follows l m).rest = m.rest :=
  foldl_rest _ (fun m i => by simp) l m
@[simp] theorem Media.mirrorAll_rest (m : Media) (env : Env) :
    (m.mirrorAll env).rest = m.rest := by
  simp [Media.mirrorAll]
@[simp] theorem Media.mirrorSector_rest (m : Media) (env : Env) (z : Nat) :
    (m.mirrorSector env z).rest = m.rest := by
  simp only [Media.mirrorSector]; (repeat' split) <;> simp
@[simp] theorem Media.issueUpdate_rest (m : Media) (env : Env) (t : Tables) (z : Nat) (retried : Bool) :
    (m.issueUpdate env t z retried).rest = m.rest := by
  simp [Media.issueUpdate]
theorem Media.nextUpdate_rest {m n : Media} {env : Env} (h : m.nextUpdate env = some n) :
    n.rest = m.rest := by
  simp only [Media.nextUpdate] at h; (repeat' split at h)
  all_goals simp at h
  all_goals (try subst h)
  all_goals simp
@[simp] theorem Media.fire_rest (m : Media) (env : Env) (k : WaitKey) :
    (m.fire env k).rest = m.rest := by
  simp only [Media.fire]; (repeat' split) <;> simp
@[simp] theorem Media.sectorWritten_rest (m : Media) (env : Env) (f : VolumeFlight) :
    (m.sectorWritten env f).rest = m.rest := by
  simp only [Media.sectorWritten]
  rw [foldl_rest _ (fun m k => m.fire_rest env k)]
  simp
@[simp] theorem Media.awaitSectors_rest (m : Media) (env : Env) (slot : Nat) (sectors : List Nat) :
    (m.awaitSectors env slot sectors).rest = m.rest := by
  simp only [Media.awaitSectors]; (repeat' split) <;> simp
@[simp] theorem Media.finishUnmount_rest (m : Media) (env : Env) (slots : List Nat) (a : Answer) :
    (m.finishUnmount env slots a).rest = m.rest := by
  simp [Media.finishUnmount]
@[simp] theorem Media.updateFailed_rest (m : Media) (env : Env) :
    (m.updateFailed env).rest = m.rest := by
  simp only [Media.updateFailed]; (repeat' split) <;> simp
@[simp] theorem Media.updateOutcome_rest (m : Media) (env : Env) (f : VolumeFlight) (o : RunOutcome) :
    (m.updateOutcome env f o).rest = m.rest := by
  simp only [Media.updateOutcome]; (repeat' split) <;> simp
@[simp] theorem Media.dropVolume_rest (m : Media) :
    m.dropVolume.rest = m.rest := by
  simp [Media.dropVolume]
@[simp] theorem Media.abandonJob_rest (m : Media) (env : Env) (st : WriterState) (a : Answer) :
    (m.abandonJob env st a).rest = m.rest := by
  simp [Media.abandonJob]
@[simp] theorem Media.handVolume_rest (m : Media) (env : Env) (c : Claim) :
    (m.handVolume env c).rest = m.rest := by
  simp [Media.handVolume]
@[simp] theorem Media.format_rest (m : Media) (env : Env) (slot : Nat) :
    (m.format env slot).rest = m.rest := by
  simp only [Media.format]; (repeat' split) <;> simp
@[simp] theorem Media.installFormat_rest (m : Media) (env : Env) (slot : Nat) (g : Geometry) (generation : Nat) :
    (m.installFormat env slot g generation).rest = m.rest := by
  rw [Media.installFormat, Media.answer_rest, Media.enter_rest, Media.mirrorAll_rest, Media.modWriter_rest]
@[simp] theorem Media.formatStep_rest (m : Media) (env : Env) (slot step : Nat) (g : Geometry) (generation : Nat) (got : List Byte) :
    (m.formatStep env slot step g generation got).rest = m.rest := by
  unfold Media.formatStep
  split <;> simp only [Media.handVolume_rest, Media.modWriter_rest, Media.installFormat_rest]
@[simp] theorem Media.mount_rest (m : Media) (env : Env) (slot : Nat) :
    (m.mount env slot).rest = m.rest := by
  simp only [Media.mount]; (repeat' split) <;> simp
@[simp] theorem Media.mountFinishScan_rest (m : Media) (slot : Nat) (recovered : List Nat) :
    (m.mountFinishScan slot recovered).rest = m.rest := by
  simp [Media.mountFinishScan]
@[simp] theorem Media.readSegment_rest (m : Media) (env : Env) (slot : Nat) (t : Tables) (s : Scan) (seg : Nat) (todo recovered : List Nat) :
    (m.readSegment env slot t s seg todo recovered).rest = m.rest := by
  simp [Media.readSegment]
@[simp] theorem Media.scanClips_rest (env : Env) (slot : Nat) (l recovered : List Nat) (m : Media) :
    (Media.scanClips env slot l recovered m).rest = m.rest := by
  induction l generalizing m recovered with
  | nil => simp [Media.scanClips]
  | cons i l ih =>
    simp only [Media.scanClips]
    (repeat' split) <;> simp [ih]
@[simp] theorem Media.segmentEnd_rest (m : Media) (env : Env) (slot : Nat) (s : Scan) (todo recovered : List Nat) :
    (m.segmentEnd env slot s todo recovered).rest = m.rest := by
  simp only [Media.segmentEnd]; (repeat' split) <;> simp
@[simp] theorem Media.readChunkAt_rest (m : Media) (env : Env) (slot : Nat) (s : Scan) (todo recovered : List Nat) :
    (m.readChunkAt env slot s todo recovered).rest = m.rest := by
  simp only [Media.readChunkAt]; (repeat' split) <;> simp
@[simp] theorem Media.segmentHeaderRead_rest (m : Media) (env : Env) (slot : Nat) (s : Scan) (todo recovered : List Nat) (got : List Byte) :
    (m.segmentHeaderRead env slot s todo recovered got).rest = m.rest := by
  simp only [Media.segmentHeaderRead]; (repeat' split) <;> simp
@[simp] theorem Media.chunkRead_rest (m : Media) (env : Env) (slot : Nat) (s : Scan) (c : ReadChunk) (todo recovered : List Nat) (bytes : List Byte) :
    (m.chunkRead env slot s c todo recovered bytes).rest = m.rest := by
  simp only [Media.chunkRead]; (repeat' split) <;> simp
@[simp] theorem Media.chunkFirstRead_rest (m : Media) (env : Env) (slot : Nat) (s : Scan) (todo recovered : List Nat) (got : List Byte) :
    (m.chunkFirstRead env slot s todo recovered got).rest = m.rest := by
  simp only [Media.chunkFirstRead]; (repeat' split) <;> simp
@[simp] theorem Media.chunkRestRead_rest (m : Media) (env : Env) (slot : Nat) (s : Scan) (todo recovered : List Nat) (got : List Byte) :
    (m.chunkRestRead env slot s todo recovered got).rest = m.rest := by
  simp only [Media.chunkRestRead]; (repeat' split) <;> simp
@[simp] theorem Media.headerRead_rest (m : Media) (env : Env) (slot : Nat) (got : List Byte) :
    (m.headerRead env slot got).rest = m.rest := by
  simp only [Media.headerRead]; (repeat' split) <;> simp
@[simp] theorem Media.zoneRead_rest (m : Media) (env : Env) (slot : Nat) (got : List Byte) :
    (m.zoneRead env slot got).rest = m.rest := by
  simp only [Media.zoneRead]; (repeat' split) <;> simp
@[simp] theorem Media.mountStep_rest (m : Media) (env : Env) (slot : Nat) (stage : MountStage) (scan : Option Scan) (todo recovered : List Nat) (got : List Byte) :
    (m.mountStep env slot stage scan todo recovered got).rest = m.rest := by
  simp only [Media.mountStep]; (repeat' split) <;> simp
theorem Media.mountDone_rest {m n : Media} {env : Env} (h : m.mountDone env = some n) :
    n.rest = m.rest := by
  unfold Media.mountDone at h
  split at h
  · rw [← Option.some.inj h, Media.answer_rest, Media.enter_rest, Media.mirrorAll_rest, Media.modWriter_rest]
  · cases h
@[simp] theorem Media.jobOutcome_rest (m : Media) (env : Env) (j : VolumeJob) (o : RunOutcome) (got : List Byte) :
    (m.jobOutcome env j o got).rest = m.rest := by
  simp only [Media.jobOutcome]; (repeat' split) <;> simp
@[simp] theorem Media.unmount_rest (m : Media) (env : Env) (slot : Nat) :
    (m.unmount env slot).rest = m.rest := by
  simp only [Media.unmount]; (repeat' split) <;> simp
@[simp] theorem Media.setProtection_rest (m : Media) (env : Env) (slot clip : Nat) (on : Bool) :
    (m.setProtection env slot clip on).rest = m.rest := by
  simp only [Media.setProtection]; (repeat' split) <;> simp
@[simp] theorem Media.deleteClip_rest (m : Media) (env : Env) (slot clip : Nat) (force : Bool) :
    (m.deleteClip env slot clip force).rest = m.rest := by
  simp only [Media.deleteClip]; (repeat' split) <;> simp
@[simp] theorem Media.startClip_rest (m : Media) (env : Env) (slot first : Nat) (pickup : Stamp) :
    (m.startClip env slot first pickup).rest = m.rest := by
  simp only [Media.startClip]; (repeat' split) <;> simp
@[simp] theorem Media.stopClip_rest (m : Media) (env : Env) (slot : Nat) (last : Option Nat) :
    (m.stopClip env slot last).rest = m.rest := by
  simp only [Media.stopClip]; (repeat' split) <;> simp
@[simp] theorem Media.startReadBack_rest (m : Media) (env : Env) (slot clip offset length address : Nat) :
    (m.startReadBack env slot clip offset length address).rest = m.rest := by
  simp only [Media.startReadBack]; (repeat' split) <;> simp
theorem Media.nextPiece_rest {m n : Media} {env : Env} (h : m.nextPiece env = some n) :
    n.rest = m.rest := by
  simp only [Media.nextPiece] at h; (repeat' split at h)
  all_goals simp at h
  all_goals (try subst h)
  all_goals simp
@[simp] theorem Media.pieceOutcome_rest (m : Media) (env : Env) (r : ReadBack) (o : RunOutcome) (got : List Byte) :
    (m.pieceOutcome env r o got).rest = m.rest := by
  simp only [Media.pieceOutcome]; (repeat' split) <;> simp
@[simp] theorem Media.pieceCopied_rest (m : Media) (env : Env) :
    (m.pieceCopied env).rest = m.rest := by
  simp only [Media.pieceCopied]; (repeat' split) <;> simp
@[simp] theorem Media.pieceLost_rest (m : Media) (env : Env) :
    (m.pieceLost env).rest = m.rest := by
  simp only [Media.pieceLost]; (repeat' split) <;> simp
@[simp] theorem Media.abandonHeld_rest (m : Media) (env : Env) :
    (m.abandonHeld env).rest = m.rest := by
  simp only [Media.abandonHeld, Media.flush_rest]
  rw [foldl_rest _ (fun m h => m.receipt_rest env .abandoned h)]
  simp
@[simp] theorem Media.failAll_rest (m : Media) (env : Env) (r : FailReason) :
    (m.failAll env r).rest = m.rest := by
  simp [Media.failAll]
@[simp] theorem Media.cardGone_rest (m : Media) (env : Env) :
    (m.cardGone env).rest = m.rest := by
  simp only [Media.cardGone]; (repeat' split) <;> simp
@[simp] theorem Media.halt_rest (m : Media) (env : Env) :
    (m.halt env).rest = m.rest := by
  simp only [Media.halt]; (repeat' split) <;> simp
@[simp] theorem Media.writerFault_rest (m : Media) (env : Env) :
    (m.writerFault env).rest = m.rest := by
  simp [Media.writerFault]
@[simp] theorem Media.warmBuffer_rest (m : Media) (id : BufferId) :
    (m.warmBuffer id).rest = m.rest := by
  simp only [Media.warmBuffer]; (repeat' split) <;> simp
@[simp] theorem Media.warmDrop_rest (m : Media) :
    m.warmDrop.rest = m.rest := by
  simp [Media.warmDrop]
@[simp] theorem Media.warmUnmount_rest (m : Media) :
    m.warmUnmount.rest = m.rest := by
  simp [Media.warmUnmount]
@[simp] theorem Media.warmWriter_rest (m : Media) (env : Env) :
    (m.warmWriter env).rest = m.rest := by
  simp only [Media.warmWriter]; (repeat' split) <;> simp
theorem Media.closeDrained_rest {m n : Media} (h : m.closeDrained = some n) :
    n.rest = m.rest := by
  simp only [Media.closeDrained] at h; (repeat' split at h)
  all_goals simp at h
  all_goals (try subst h)
  all_goals simp
theorem Media.unmountDrained_rest {m n : Media} {env : Env} (h : m.unmountDrained env = some n) :
    n.rest = m.rest := by
  simp only [Media.unmountDrained] at h; (repeat' split at h)
  · obtain ⟨_, _, rfl⟩ := Option.map_eq_some_iff.mp h; simp
  all_goals simp at h
  all_goals (try subst h)
  all_goals simp
@[simp] theorem Media.take_rest (m : Media) (env : Env) (d : Delivery) :
    (m.take env d).rest = m.rest := by
  simp only [Media.take]; (repeat' split) <;> simp
theorem Media.takeNext_rest {m n : Media} {env : Env} (h : m.takeNext env = some n) :
    n.rest = m.rest := by
  simp only [Media.takeNext] at h; (repeat' split at h)
  all_goals simp at h
  all_goals (try subst h)
  all_goals simp
theorem Media.pieceGone_rest {m n : Media} {env : Env} (h : m.pieceGone env = some n) :
    n.rest = m.rest := by
  simp only [Media.pieceGone] at h; (repeat' split at h)
  all_goals simp at h
  all_goals (try subst h)
  all_goals simp
theorem Media.arbitrate_rest {m n : Media} {env : Env} (h : m.arbitrate env = some n) :
    n.rest = m.rest := by
  obtain ⟨c, hc, rfl⟩ := Option.map_eq_some_iff.mp h
  simp [Card.arbitrate_rest hc]

/-! ### What follows within a step -/

theorem Option.or_eq_some_cases {α : Type} {a b : Option α} {x : α} (h : a.or b = some x) : a = some x ∨ b = some x := by
  cases a <;> simp_all

theorem Media.follow_rest {m n : Media} {env : Env} (h : m.follow env = some n) : n.rest = m.rest := by
  unfold Media.follow at h
  rcases Option.or_eq_some_cases h with h | h
  · rcases Option.or_eq_some_cases h with h | h
    · rcases Option.or_eq_some_cases h with h | h
      · rcases Option.or_eq_some_cases h with h | h
        · rcases Option.or_eq_some_cases h with h | h
          · rcases Option.or_eq_some_cases h with h | h
            · rcases Option.or_eq_some_cases h with h | h
              · rcases Option.or_eq_some_cases h with h | h
                · rcases Option.or_eq_some_cases h with h | h
                  · exact Media.pieceGone_rest h
                  · exact Media.arbitrate_rest h
                · exact Media.takeNext_rest h
              · exact Media.nextUpdate_rest h
            · exact Media.allocationDone_rest h
          · exact Media.startWrite_rest h
        · exact Media.closeDrained_rest h
      · exact Media.unmountDrained_rest h
    · exact Media.mountDone_rest h
  · exact Media.nextPiece_rest h

@[simp] theorem Media.settleFor_rest (env : Env) (n : Nat) (m : Media) : (Media.settleFor env n m).rest = m.rest := by
  induction n generalizing m with
  | zero => rfl
  | succ n ih =>
    unfold Media.settleFor
    split
    · rfl
    · rename_i k h
      rw [ih k, Media.follow_rest h]

/-- What follows within a step leaves the rest of the media blocks alone. -/
@[simp] theorem Media.settle_rest (m : Media) (env : Env) : (m.settle env).rest = m.rest :=
  Media.settleFor_rest env 1024 m

/-! ### Nothing follows -/

/-- When nothing follows, settling changes nothing. -/
theorem Media.settle_of_follow {m : Media} {env : Env} (h : m.follow env = none) : m.settle env = m := by
  unfold Media.settle Media.settleFor
  rw [h]

/-- Nothing follows in a state: no block of the media has work that could go on, the Charge Controller has heard of the
recording, and the writer has no report to make. -/
def State.Quiet (s : State) : Prop :=
  s.media.follow s.env = none ∧ s.charge.recording = s.media.writer.recordingOrClosing ∧
    s.media.writer.idleReport = false ∧ s.media.writer.recordingReport = false

theorem Charge.report_same (c : Charge) (o : ChargeOptions) : c.report o c.recording = c := by
  simp [Charge.report]

@[simp] theorem Charge.report_recording (c : Charge) (o : ChargeOptions) (b : Bool) : (c.report o b).recording = b := by
  unfold Charge.report; split <;> simp_all [Charge.recap]

/-- With no passage through RECORDING or CLOSING to report, the writer's report is how the step ends. -/
theorem Charge.hear_not_entered (c : Charge) (o : ChargeOptions) (b : Bool) : c.hear o false b = c.report o b := by
  have h := Charge.report_same (c.report o b) o
  simpa [Charge.hear] using h

/-- In a quiet state settling changes nothing. -/
theorem State.settle_of_quiet {s : State} (h : s.Quiet) : s.settle = s := by
  obtain ⟨hf, hr, hi, he⟩ := h
  have hm : s.settleMedia = s := by
    unfold State.settleMedia
    have : (s.modMedia fun m => m.settle s.env) = s := by
      show ({ s with media := s.media.settle s.env } : State) = s
      rw [Media.settle_of_follow hf]
    rw [this]
    show ({ s with charge := s.charge.hear s.options s.media.writer.recordingReport s.media.writer.recordingOrClosing } :
      State) = s
    rw [he, Charge.hear_not_entered, ← hr, Charge.report_same]
  have ht : s.takeReport = s := by
    simp [State.takeReport, hi]
  unfold State.settle
  rw [hm, ht]
  have hw : ({ s.media.writer with idleReport := false, recordingReport := false } : Writer) = s.media.writer := by
    cases hw : s.media.writer
    simp_all
  show ({ s with media := { s.media with
    writer := { s.media.writer with idleReport := false, recordingReport := false } } } : State) = s
  rw [hw]

/-! ### The other blocks -/

@[simp] theorem State.settleMedia_rest (s : State) : s.settleMedia.media.rest = s.media.rest := by
  simp [State.settleMedia]

theorem State.takeReport_of_awake {s : State} (h : s.power.state ≠ .shutting) : s.takeReport = s := by
  simp [State.takeReport, h]

/-- Outside SHUTTING, what follows within a step reaches the media blocks and the Charge Controller's recording alone. -/
theorem State.settle_of_awake {s : State} (h : s.power.state ≠ .shutting) :
    s.settle = { s with
      media := s.settle.media
      charge := s.charge.hear s.options (s.media.settle s.env).writer.recordingReport
        s.settle.media.writer.recordingOrClosing } := by
  have hm : s.settleMedia.power.state ≠ .shutting := h
  unfold State.settle
  rw [State.takeReport_of_awake hm]
  rfl

/-- Outside SHUTTING, what follows within a step leaves the rest of the media blocks alone. -/
theorem State.settle_rest_of_awake {s : State} (h : s.power.state ≠ .shutting) : s.settle.media.rest = s.media.rest := by
  have hm : s.settleMedia.power.state ≠ .shutting := h
  unfold State.settle
  rw [State.takeReport_of_awake hm]
  simp [State.clearReport]

end Sys2Proof.Machine
end

