-- ==== Sys2Proof/WellFormed.lean ====
section
/-! DEFINITION. When a command has the shape its rule gives it: the number of bytes a completed read brings, the ranges of the
measured values, and the registers that each kind of write may name. -/

namespace Sys2Proof

/-- The ranges of the measured quantities (R169). The battery current is not checked: a reading beyond its ends is clamped. -/
def Readings.wf (r : Readings) : Bool :=
  decide (r.vbat ≤ 6000) && decide (-40 ≤ r.die) && decide (r.die ≤ 150) && decide (r.vinUsb ≤ 30000)
    && decide (r.vinAux ≤ 30000)
    && (match r.temperature with
        | none => true
        | some t => decide (-40 ≤ t) && decide (t ≤ 125))

/-- A write that REGISTER_WRITE_OTHER names: to IDENT, beyond the five registers, or not 32 bits wide (R190). -/
def otherWrite (offset width : Nat) : Bool :=
  decide (offset < 4096) && (decide (offset < 4) || decide (20 ≤ offset) || width != 32)

/-- The shape of a command (R22, R135, R142, R169, R190, R195, R198). -/
def Instr.wf : Instr → Bool
  | .sectionReadComplete _ bytes => bytes.length == 64
  | .transferEnd inBytes => decide (1 ≤ inBytes.length) && decide (inBytes.length ≤ 16)
  | .burstEnd inBytes _ => inBytes.length == 13
  | .sheetReadComplete _ bytes => bytes.length == 32
  | .payloadFetchComplete _ bytes => decide (1 ≤ bytes.length) && decide (bytes.length ≤ 1048576)
  | .cardCommandResponse response _ => !response.getLsbD 7
  | .readBlockReceived mark data _ =>
      data.length == 512 && (mark == 0xFE#8 || (decide (1 ≤ mark.toNat) && decide (mark.toNat ≤ 15)))
  | .gaugeMeasurement readings _ => readings.wf
  | .registerWriteOther offset width _ => otherWrite offset width
  | .requestBoardReadComplete _ bytes => bytes.length == 512
  | .chunkBoardReadComplete _ bytes => bytes.length == 768
  | .fastPulse | .slowTick | .settleComplete | .coldReset _ _ _ | .supplyReset _ _ _ | .warmReset | .loadProfile
  | .startMotion | .stopMotion | .imuTransfer | .dataReadyEdge | .frameStart | .headFrameTimeout | .windowExpiry
  | .protectionRequest | .protectionAnswer | .markKeyEdge _ | .markDebounceExpiry | .markHoldExpiry | .marker
  | .markProtection | .mountVolume | .unmountVolume | .formatVolume | .setProtection | .deleteClip | .startClip
  | .stopClip | .starvationExpiry | .readBack | .readBackWriteComplete _ | .detectEdge _ | .detectDebounceExpiry
  | .identificationTimeout | .cardResponseMissing | .readSectorTimeout | .writeBlockAnswer _ | .cardBusyEnd
  | .cardBusyTimeout | .inputEntersWindow _ | .inputLeavesWindow _ | .qualifyWaitExpiry _ | .lossDebounceExpiry _
  | .setInputLimit | .clearChargeFault | .supplyWarningAssert | .supplyWarningRemove | .powerKeyEdge _
  | .powerDebounceExpiry | .powerHoldExpiry | .shutdown | .closeLimitExpiry | .storeChargeOptions
  | .storeWriteComplete _ | .runStart | .runStop | .pickupPeriodSet _ | .attentionEnableSet _ | .attnClear _
  | .baseWrite _ _ | .pickupPeriodExpiry | .unknownKind | .recordWriteComplete _ | .linkTransferFailed _
  | .linkTransferUnanswered _ => true

end Sys2Proof
end

