-- ==== Sys2Proof/Tests/Slice0.lean ====
section
/-! SUPPORT. Tests: the shape checks refuse ill-formed commands; the worked figures of spec/ come out; and for each statement with
hypotheses a state and operands that meet them, clause by clause, at the boundary values. -/

namespace Sys2Proof.Tests

open Sys2Proof.Machine

/-! ### Shapes (WellFormed) -/

def readings : Readings :=
  ⟨-300, 3700, some 20, 25, 0, 0, 0⟩

theorem test_wf_refuses_short_section : (Instr.sectionReadComplete 0 [1, 2]).wf = false := by decide
theorem test_wf_refuses_empty_transfer : (Instr.transferEnd []).wf = false := by decide
theorem test_wf_refuses_long_transfer : (Instr.transferEnd (List.replicate 17 0)).wf = false := by decide
theorem test_wf_refuses_short_burst : (Instr.burstEnd (List.replicate 12 0) true).wf = false := by decide
theorem test_wf_refuses_short_sheet : (Instr.sheetReadComplete 0 []).wf = false := by decide
theorem test_wf_refuses_empty_payload : (Instr.payloadFetchComplete 0 []).wf = false := by decide
theorem test_wf_refuses_no_response : (Instr.cardCommandResponse 0xFF 0).wf = false := by decide
theorem test_wf_refuses_mark : (Instr.readBlockReceived 0xFF (List.replicate 512 0) 0).wf = false := by decide +kernel
theorem test_wf_refuses_short_block : (Instr.readBlockReceived 0xFE [] 0).wf = false := by decide
theorem test_wf_refuses_voltage : (Instr.gaugeMeasurement { readings with vbat := 6001 } true).wf = false := by decide
theorem test_wf_refuses_temperature :
    (Instr.gaugeMeasurement { readings with temperature := some (-41) } true).wf = false := by decide
theorem test_wf_refuses_control : (Instr.registerWriteOther 4 32 0).wf = false := by decide
theorem test_wf_refuses_short_boards :
    (Instr.requestBoardReadComplete 0 []).wf = false ∧ (Instr.chunkBoardReadComplete 0 []).wf = false := by decide
theorem test_wf_accepts :
    (Instr.gaugeMeasurement readings true).wf = true ∧ (Instr.registerWriteOther 0 32 0).wf = true ∧
      (Instr.registerWriteOther 8 16 0).wf = true ∧ Instr.startMotion.wf = true := by decide

/-! ### Worked figures of spec/ -/

/-- spec/01 section 1.3: the count and the position after 42, 43, 85, 86, 127 and 128 pulses of a group. -/
theorem test_fast_group :
    [42, 43, 85, 86, 127, 128].map (fun n => (Clock.pulse^[n] ⟨0, .fast, 0, 0, .none, true⟩).count)
      = [42, 42, 84, 84, 125, 125] := by decide

/-- spec/01 section 1.4: eight slow ticks from a fraction of 0. -/
theorem test_slow_ticks :
    (List.range 9).map (fun n => let c := (fun c : Clock => c.tick false)^[n] Clock.reset; (c.count, c.fraction))
      = [(0, 0), (30, 265), (61, 18), (91, 283), (122, 36), (152, 301), (183, 54), (213, 319), (244, 72)] := by
  decide

/-- spec/02 section 2.11: the still run of three, the updates 2, 4 and 6, the nudge at sample 7. -/
theorem test_still_run :
    let q := (parseMotion []).value
    let p : MotionPort := MotionPort.reset
    let take := fun (p : MotionPort) (raw : Int) => p.stillTest { q with stillThreshold := 1000, stillRun := 3 }
      ⟨0, ⟨raw, 0, 0⟩, ⟨0, 0, 0⟩, 0, ⟨false, false, false⟩, false, p.bias⟩
    (List.range 9).map (fun n => let r := ([40, 38, 41, 40, 39, 42, 90, 40].take n).foldl take p
        (r.stillRun, r.learning, r.bias.yaw))
      = [(0, .settling, 0), (1, .settling, 0), (2, .settling, 0), (3, .learning, 0), (4, .learning, 2), (5, .learning, 4),
         (6, .learning, 6), (0, .settling, 6), (1, .settling, 6)] := by decide

/-- spec/03 section 3.8: the steady turn, the turn back and the boundary. -/
theorem test_integration :
    stepAxis (stepNumerator 1000 1000 1311 160 0) 0 = (39703, 193536) ∧
      stepAxis (stepNumerator 1000 1000 1311 160 193536) 39703 = (79406, 387072) ∧
      stepAxis (stepNumerator 1000 1000 1311 160 387072) 79406 = (119110, 56320) ∧
      stepAxis (stepNumerator 1000 1000 (-1311) 160 56320) 119110 = (78797, -321536) ∧
      (stepAxis (stepNumerator 1000 1000 1311 160 0) 179990000).1 = -179970297 := by decide

/-- spec/03 section 3.9: lookups across the boundary and at the newest stamp. -/
theorem test_lookup :
    let a : HistoryEntry := ⟨70000000, ⟨179980000, 0, 0⟩, false, false, false⟩
    let b : HistoryEntry := ⟨70001000, ⟨-179990000, -40313, 0⟩, false, false, true⟩
    [70000000, 70000400, 70000800, 70001000, 69999999].map (fun t => let l := lookup [a, b] t
        (l.theta.yaw, l.short, l.held, l.missed))
      = [(179980000, false, false, true), (179992000, false, false, true), (-179996000, false, false, true),
         (-179990000, false, true, true), (179980000, true, false, false)] ∧
      (lookup [a, b] 70000333).theta.pitch = -13424 := by decide

/-- spec/04 section 4.11: the band times of frame 500. -/
theorem test_band_times :
    (HeadFigures.of 100000000 ⟨8000, 24000, 4⟩ false false).bandTimes = [99999000, 100005000, 100011000, 100017000] ∧
      (HeadFigures.of 100000000 ⟨8000, 24000, 4⟩ false false).centre = 100008000 := by decide

/-- spec/04 section 4.12: the margin angles, the follow on yaw, the catch on roll, and the bands. -/
theorem test_worked_frame :
    let p : SteadyProfile := ⟨1400, 192, 108, 2000, 32, ⟨true, true, true⟩, false⟩
    p.margins = ⟨7857706, 4419960, 2000000⟩ ∧
      stepPath true true 32 7857706 1000000 3000000 = (1250000, false) ∧
      stepPath true true 32 2000000 1000000 5000000 = (3000000, true) ∧
      bandOf p ⟨1250000, 0, 3000000⟩ ⟨⟨3400000, 0, 4700500⟩, false, false, false, false, false⟩
        = ⟨-841, 0, -1701, false, false, false⟩ ∧
      (bandOf p ⟨1250000, 0, 3000000⟩ ⟨⟨3400000, 0, 5600000⟩, false, false, false, false, false⟩).r = -2000 ∧
      (bandOf p ⟨1250000, 0, 3000000⟩ ⟨⟨3400000, 0, 5600000⟩, false, false, false, false, false⟩).clamp = true := by
  decide

/-- spec/09 section 9.11: the four measurements of the dynamo. -/
theorem test_dynamo :
    let c : Charge := { Charge.reset with source := .aux, state := .fast, recording := true, cap := 500, ic := 450 }
    let r := fun (i : Int) (v : Nat) => { readings with vinAux := v, inputCurrent := i }
    (List.range 5).map (fun n =>
        (([r 880 7100, r 820 6420, r 700 6600, r 720 6800].take n).foldl (fun c r => c.step .default r) c).ic)
      = [450, 500, 400, 400, 450] := by decide

/-- spec/10 section 10.10: charging, discharging and the late expiry. -/
theorem test_gauge_count :
    let g : Gauge := { Gauge.reset with q := 600000 }
    let h : Gauge := { Gauge.reset with q := 300000 }
    let count := fun (i : Int) (g : Gauge) => g.count .default i 250000
    ((count 1000)^[3] g).q = 600208 ∧ ((count 1000)^[3] g).carry = 1200 ∧ ((count (-437))^[3] h).q = 299909 ∧
      ((count (-437))^[3] h).carry = -150 ∧ ({ g with remainder := 985 }.count .default 0 8000030).remainder = 15 := by
  decide

/-- spec/10 section 10.11: the estimates of 3,790 mV and 3,700 mV. -/
theorem test_estimate :
    (Gauge.reset.estimate .default 3790 0).q = 675000 ∧ (Gauge.reset.estimate .default 3700 0).q = 360000 := by decide

/-- The generators of R200 by their published check values over the characters 123456789. -/
theorem test_checks :
    let digits : List Byte := [0x31, 0x32, 0x33, 0x34, 0x35, 0x36, 0x37, 0x38, 0x39]
    crc32 digits = 0xCBF43926#32 ∧ crc16Stored digits = 0x29B1#16 ∧ crc16Block digits = 0x31C3#16 := by decide +kernel

/-- R186: what a store wrote of the defaults is VALID; spec/12 section 12.10: V_reg stands at byte 4, the check at 62. -/
theorem test_store :
    readStore (storedBlock .default) false = (.valid, .default) ∧ (storedBlock .default).length = 64 ∧
      leNat (storedBlock .default) 4 2 = 4200 := by decide +kernel

/-! ### Witnesses: states and operands that meet the hypotheses of the statements -/

/-- The count stands at `n`. -/
def at_ (n : Stamp) (s : State) : State :=
  { s with clock := { s.clock with count := n } }

def power (p : PowerState) : State :=
  { State.reset with power := { Power.reset with state := p } }

def withExch (e : Exchange) (s : State) : State :=
  { s with media := { s.media with exch := e } }

def withCard (c : Card) (s : State) : State :=
  { s with media := { s.media with card := c } }

def withWriter (w : Writer) (s : State) : State :=
  { s with media := { s.media with writer := w } }

def withSteady (y : Steady) (s : State) : State :=
  { s with media := { s.media with steady := y } }

def running : Exchange :=
  { Exchange.reset with state := .running, run := true, baseLo := 0x10000#32 }

/-- RUN with the exchange running. -/
def live : State :=
  withExch running (power .run)

/-- A request of slot 0 that its owner has not taken. -/
def asked (r : Request) (s : State) : State :=
  s.modExch fun e => { e with handed := [⟨0, r, 5⟩], working := e.working.set 0 (some ⟨1, r.kindCode⟩) }

/-- One link transfer in flight, issued at stamp 0. -/
def carrying (p : Purpose) (s : State) : State :=
  s.modExch fun e => { e with transfers := [⟨p, 0, none, 0, 0⟩] }

/-- Bytes with the fields given, other bytes 0. -/
def fields (size : Nat) (fs : List (Nat × Nat)) : List Byte :=
  (List.range size).map fun i => ((fs.find? fun f => f.1 == i).map fun f => BitVec.ofNat 8 f.2).getD 0

theorem witness_StepTakesFront :
    ({ State.reset with pending := [.fastPulse] } : State).pending = .fastPulse :: [] ∧ State.reset.pending = [] := by decide

theorem witness_SettleLeavesRest : live.power.state ≠ .shutting := by decide

theorem witness_ClockTicks :
    (⟨0, .fast, 127, 0, .none, true⟩ : Clock).group < 128 ∧ (⟨0, .fast, 127, 0, .none, true⟩ : Clock).path = .fast ∧
      Clock.reset.path = .slow ∧ Clock.reset.fraction + 265 ≤ 511 ∧ ¬(⟨0, .slow, 0, 247, .none, false⟩ : Clock).fraction + 265 ≤ 511 ∧
      State.reset.power.state = .dormant ∧ State.reset.clock.handover = .none ∧
      (let s : State := { power .waking with clock := { Clock.reset with handover := .toFast } }
       s.clock.path = .slow ∧ s.power.state = .waking ∧ s.clock.handover = .toFast ∧
         s.power.settleCount + 1 < (if s.power.settleFast then 32 else 4096)) := by decide

theorem witness_ClockTicks_settle :
    (∀ p ∈ [PowerState.standby, .run, .shutting],
      let s : State := { power p with clock := { Clock.reset with handover := .toFast } }
      s.power.state = p ∧ s.clock.path = .slow ∧ s.clock.handover = .toFast ∧
        s.power.settleCount + 1 < (if s.power.settleFast then 32 else 4096)) ∧
    (let s : State := { power .run with clock := ⟨0, .fast, 127, 0, .none, true⟩ }
     s.clock.path = .fast ∧ s.clock.handover = .none ∧ s.power.state ≠ .waking) := by decide

theorem witness_ClockKeepsTime :
    (⟨0, .fast, 0, 0, .none, true⟩ : Clock).path = .fast ∧ (⟨0, .fast, 0, 0, .none, true⟩ : Clock).group = 0 ∧ 128 ≤ 128 ∧
      (⟨0, .slow, 0, 511, .none, false⟩ : Clock).path = .slow ∧ (⟨0, .slow, 0, 511, .none, false⟩ : Clock).fraction < 512 ∧
      (⟨0, .slow, 0, 511, .none, false⟩ : Clock).handover = .none := by decide

theorem witness_Handovers :
    (let s : State := { State.reset with clock := ⟨7, .fast, 3, 0, .toSlow, true⟩ }
     s.power.state = .dormant ∧ s.clock.handover = .toSlow) ∧
      (let s : State := { power .waking with clock := ⟨7, .slow, 0, 0, .toFast, true⟩ }
       let t : State := { s with power := { s.power with settleCount := 4095 } }
       t.power.state = .waking ∧ t.clock.path = .slow ∧ t.clock.handover = .toFast ∧
         (if t.power.settleFast then 32 else 4096) ≤ t.power.settleCount + 1) := by decide

/-- The settle after a reset that left the part awake, complete and one tick short, and the states with none to complete. -/
theorem witness_Handovers_reset :
    (∀ p ∈ [PowerState.standby, .run, .shutting],
      let s : State := { power p with clock := { Clock.reset with handover := .toFast } }
      let t : State := { s with power := { s.power with settleCount := 4095 } }
      s.power.state = p ∧ s.clock.path = .slow ∧ s.clock.handover = .toFast ∧
        (if t.power.settleFast then 32 else 4096) ≤ t.power.settleCount + 1 ∧
        ¬(if s.power.settleFast then 32 else 4096) ≤ s.power.settleCount + 1) ∧
    State.reset.power.state = .dormant ∧ live.power.state = .run ∧ live.clock.handover ≠ .toFast := by decide

theorem witness_HardReset :
    ∃ c c' : Instr, (c = .coldReset true false false ∨ c = .supplyReset true false false) ∧
      (c' = .coldReset true false true ∨ c' = .supplyReset true false true) :=
  ⟨_, _, .inl rfl, .inr rfl⟩

theorem witness_HardResetRecord :
    State.reset.power.block = List.replicate 64 0xFF#8 ∧ State.reset.power.blockTorn = false ∧
      State.reset.power.storing = none ∧
      ({ Power.reset with storing := some ⟨[], none⟩ } : Power).storing.isSome = true := by decide

/-- A block erased, the defaults, the defaults with a byte changed, and limits that do not rise. -/
theorem witness_HardResetRecord_store :
    (∀ b ∈ List.replicate 64 0xFF#8, b = 0xFF#8) ∧
    (∀ bs ∈ [storedBlock .default, (storedBlock .default).set 4 0, storedBlock { ChargeOptions.default with t1 := 10, t2 := 10 }],
      ¬∀ b ∈ bs, b = 0xFF#8) ∧
    (let check := fun bs : List Byte => leNat bs 62 2 = (crc16Stored (slice bs 0 62)).toNat
     check (storedBlock .default) ∧ ¬check ((storedBlock .default).set 4 0)) ∧
    (let rises := fun bs : List Byte =>
       let o := (parseCharge bs).value
       (o.t1 < o.t2 ∧ o.t2 < o.t3 ∧ o.t3 < o.t4) ∧ strictlyRising o.openCircuit = true
     rises (storedBlock .default) ∧ ¬rises (storedBlock { ChargeOptions.default with t1 := 10, t2 := 10 })) := by
  decide +kernel

/-- Log 64: limits that rise as they stand in the block and meet after the clamps to −20 °C are FAILING. -/
theorem test_store_clamped :
    readStore (storedBlock { ChargeOptions.default with t1 := -40, t2 := -30 }) false = (.failing, .default) := by
  decide +kernel

theorem witness_WarmReset :
    (power .run).power.state = .run ∧ (power .shutting).power.state = .shutting ∧ (power .standby).power.state = .standby ∧
      (power .dormant).power.state = .dormant ∧ (power .waking).power.state = .waking := by decide

/-- An open incident window whose end shortens the loss debounce of USB to 20 ms, reached and not. -/
theorem witness_WarmReset_window :
    let s : State := { power .run with
      charge := { Charge.reset with usb := ⟨.present, none, some 0⟩, source := .usb, windowOpen := true }
      incident := { Incident.reset with window := .incident, windowEnd := 30000000 } }
    s.incident.window = .incident ∧ (power .run).incident.window = .quiet ∧ (s.charge.input .usb).state = .present ∧
      (s.charge.input .usb).loss = some 0 ∧ 20000 ≤ ((20000 : Stamp) - 0).toInt ∧ ¬20000 ≤ ((19999 : Stamp) - 0).toInt ∧
      (s.charge.input .aux).state ≠ .present := by decide

/-- R92: the volume update in flight answers no request that a WARM reset has dropped. -/
theorem test_warm_drop :
    (withWriter { Writer.reset with flight := some ⟨3, false, false, [.request 0]⟩, waiting := [⟨.request 0, [3]⟩] }
      live).media.warmDrop.writer.flight = some ⟨3, false, false, []⟩ := by decide

/-- A motion section whose structure is good, one that is not, and a steady section whose structure is not. -/
def motionSection : List Byte :=
  fields 64 [(0, 1), (62, 1), (15, 1), (17, 2)]

def volumeSection : List Byte :=
  fields 64 [(0, 1), (62, 1)]

/-- An area that ends above sector 2^32. -/
def farVolume : List Byte :=
  fields 64 [(0, 1), (62, 1), (4, 255), (5, 255), (6, 255), (7, 255)]

/-- The default charge options as a section. -/
def chargeSection : List Byte :=
  [1, 0] ++ slice (storedBlock .default) 2 60 ++ [1, 0]

theorem witness_ProfileSections_taken :
    (asked (.loadProfile 3) live).media.exch.nextRequest .exchange = some ⟨0, .loadProfile 3, 5⟩ ∧
      (asked (.loadProfile 4) live).media.exch.nextRequest .exchange = some ⟨0, .loadProfile 4, 5⟩ := by decide

theorem witness_ProfileSections_read :
    (∀ code < 4, ((carrying (.profileSection 0 code) live).media.exch.transferAt 0).map Transfer.purpose
      = some (.profileSection 0 code)) ∧
    editionAt (fields 64 [(0, 1)]) 0 ≠ editionAt (fields 64 [(0, 1)]) 62 ∧
    editionAt (fields 64 []) 0 = editionAt (fields 64 []) 62 ∧ editionAt (fields 64 []) 0 = 0 ∧
    ∀ bs ∈ [motionSection, volumeSection, farVolume, chargeSection, fields 64 [(0, 1), (62, 1), (14, 2)]],
      editionAt bs 0 = editionAt bs 62 ∧ editionAt bs 0 ≠ 0 := by decide

theorem witness_ProfileSections_owners :
    ({ MotionPort.reset with state := .running } : MotionPort).state = .running ∧ live.motion.state ≠ .running ∧
      motionStructureOk volumeSection = false ∧ motionStructureOk motionSection = true ∧
      steadyStructureOk (fields 64 [(0, 1), (62, 1), (14, 2)]) = false ∧ steadyStructureOk volumeSection = true ∧
      ({ Writer.reset with state := .recording } : Writer).state.takesProfile = false ∧
      live.media.writer.state.takesProfile = true ∧
      (let v := (parseVolume farVolume).value
       4294967296 < areaEnd v.firstSector v.segmentSize v.segmentCount) ∧
      (let v := (parseVolume volumeSection).value
       areaEnd v.firstSector v.segmentSize v.segmentCount ≤ 4294967296) ∧
      (let o := (parseCharge volumeSection).value
       (limitsOrdered o && strictlyRising o.openCircuit) = false) ∧
      (let o := (parseCharge chargeSection).value
       (limitsOrdered o && strictlyRising o.openCircuit) = true) := by decide

theorem witness_LoadedValuesInRange :
    (parseSteady (fields 64 [(4, 200), (12, 1)])).clamped = false ∧
      (parseIncident (fields 64 [(22, 1), (24, 1), (28, 1)])).clamped = false := by decide

/-- Sections whose values are within their ranges already. -/
theorem witness_LoadedValuesInRange_unclamped :
    (let bs := fields 64 [(0, 1), (62, 1), (4, 3), (7, 127), (8, 0xE8), (9, 3), (10, 0xD0), (11, 7), (12, 16), (15, 1), (17, 2),
       (32, 255), (33, 255), (36, 1)]
     (parseMotion bs).clamped = false ∧ motionStructureOk bs = true) ∧
    (parseVolume (fields 64 [(9, 8), (12, 16), (16, 10), (20, 16), (21, 1)])).clamped = false ∧
    (parseCharge chargeSection).clamped = false ∧
    steadyStructureOk (fields 64 [(14, 1), (17, 1)]) = true := by decide

/-- The default motion profile of the tests, its values at their least. -/
def profile : MotionProfile :=
  (parseMotion motionSection).value

/-- The Motion Port with a profile, in a state and an activity. -/
def motionIn (st : MotionState) (a : PortActivity) : State :=
  { live with motion := { MotionPort.reset with state := st, activity := a, profile := some profile } }

theorem witness_StartMotion :
    (asked (.startMotion 1) (motionIn .ready .idle)).media.exch.nextRequest .motion = some ⟨0, .startMotion 1, 5⟩ ∧
      (motionIn .ready .idle).motion.state = .ready ∧ (motionIn .ready .idle).motion.activity = .idle ∧
      (motionIn .ready .idle).power.state = .run ∧ ¬(State.reset.power.state = .run ∨ State.reset.power.state = .shutting) ∧
      (motionIn .off .idle).motion.state ≠ .ready ∧ (motionIn .ready .transfer).motion.activity ≠ .idle := by decide

theorem witness_StopMotion :
    (asked .stopMotion (motionIn .running .idle)).media.exch.nextRequest .motion = some ⟨0, .stopMotion, 5⟩ ∧
      (motionIn .running .idle).motion.state = .running ∧ (motionIn .running .idle).motion.activity ≠ .burst ∧
      (motionIn .running .idle).motion.stopSlots = [] ∧ (motionIn .running .burst).motion.activity = .burst ∧
      (motionIn .ready .idle).motion.state ≠ .running := by decide

theorem witness_ImuTransfer :
    (∀ n ∈ [0, 1, 16, 17], (asked (.imuTransfer n []) (motionIn .ready .idle)).media.exch.nextRequest .motion
      = some ⟨0, .imuTransfer n [], 5⟩) ∧
    (let s : State := { motionIn .ready .transfer with motion := { (motionIn .ready .transfer).motion with transferSlot := some 0 } }
     s.motion.activity = .transfer ∧ s.motion.profile = some profile ∧ s.motion.transferSlot = some 0) ∧
    (motionIn .ready .idle).motion.activity ≠ .transfer ∧ ¬(live.motion.state = .ready ∧ live.motion.activity = .idle) ∧
    (motionIn .ready .idle).motion.state = .ready ∧ (motionIn .ready .idle).power.state = .run := by
  decide

/-- R13: the byte A5H with idle level low and capture on the first edge: the bits most significant first, each before its edge. -/
theorem test_motion_lines :
    ((⟨0, false, false⟩ : PortSettings).transferLines [0xA5]).filterMap (fun l => if l.clockHigh then some l.dataHigh else none)
      = [true, false, true, false, false, true, false, true] := by decide

/-- R13: the same byte with idle level high and capture on the second edge, each bit after the first edge and before the second. -/
theorem test_motion_lines_second :
    let p : PortSettings := ⟨0, true, true⟩
    ((p.transferLines [0xA5]).filterMap fun l => if l.clockHigh then none else some l.dataHigh)
        = [true, false, true, false, false, true, false, true] ∧
      [0, 2, 17, 19].map (fun j => (p.transferLines [0xA5])[j]?) =
        [some ⟨false, true, false⟩, some ⟨false, false, true⟩, some ⟨false, true, true⟩, some ⟨false, true, true⟩] ∧
      0 < 8 * [0xA5#8].length ∧ 7 < 8 * [0xA5#8].length := by decide

theorem witness_DataReadyEdge :
    live.motion.state ≠ .running ∧ (motionIn .running .idle).motion.profile = some profile ∧
      (motionIn .running .idle).motion.stopWaiting = false ∧ (motionIn .running .idle).motion.activity = .idle ∧
      (motionIn .running .burst).motion.state = .running ∧
      (let p : MotionPort := { (motionIn .running .burst).motion with stopWaiting := true }
       p.state = .running ∧ p.stopWaiting = true ∧ p.activity = .burst) := by decide

theorem witness_BurstEnd :
    let p := (motionIn .running .burst).motion
    p.activity = .burst ∧ p.state = .running ∧ p.stopWaiting = false ∧ p.profile = some profile ∧
      p.prevStamp.all (stampLater p.burstStamp) = true ∧
      accelSum (p.sample profile.axisMap []).accel < live.incident.settings.threshold ∧
      ({ p with prevStamp := some 0 } : MotionPort).prevStamp.all (stampLater p.burstStamp) = false ∧
      ({ p with stopWaiting := true } : MotionPort).stopWaiting = true ∧ ({ p with stopSlots := [2, 5] } : MotionPort).stopSlots = [2, 5] ∧
      (let i : Incident := { live.incident with settings := { live.incident.settings with threshold := 0, runLength := 1 } }
       i.settings.threshold ≤ accelSum (p.sample profile.axisMap []).accel ∧
         (i.settings.runLength ≤ i.shockRun + 1 ∧ i.window = .quiet) ∧
         ¬({ i.settings with runLength := 2 } : IncidentSettings).runLength ≤ i.shockRun + 1) ∧
      (motionIn .ready .burst).motion.state ≠ .running := by decide

theorem witness_BiasLearning :
    (∀ l ∈ [Learning.suspended, .settling, .learning], ({ MotionPort.reset with learning := l } : MotionPort).learning = l) ∧
      ((0 : Int) * 16 - 0).natAbs ≤ profile.stillThreshold ∧ ¬((1 : Int) * 16 - 0).natAbs ≤ profile.stillThreshold ∧
      (-65536 : Int) ≤ -65536 ∧ (65536 : Int) ≤ 65536 ∧ ((15 : Int) * 16 - (-15)).natAbs < 256 := by decide

theorem witness_StepsLoseNothing :
    ((-(2 ^ 45) : Int)).natAbs ≤ 2 ^ 45 ∧ (-180000000 : Int) ≤ -180000000 ∧ (179999999 : Int) < 180000000 ∧
      (∀ st ∈ [IntegratorState.idle, .seeding, .integrating], ({ Integrator.reset with state := st } : Integrator).state = st) ∧
      Integrator.reset.lastStamp = none ∧ ({ Integrator.reset with lastStamp := some 5 } : Integrator).lastStamp = some 5 := by
  decide

def entryOf (n : Stamp) : HistoryEntry :=
  ⟨n, ⟨-180000000, 179999999, 0⟩, false, false, false⟩

theorem witness_Lookup :
    0 < ((entryOf 1).stamp - 0).toInt ∧ (∀ e ∈ [entryOf 0] ++ [entryOf 1], (e.stamp - 1).toInt ≤ 0) ∧
      0 < ((entryOf 2).stamp - 1).toInt ∧ (1 : Stamp) = (entryOf 1).stamp ∧
      (-180000000 ≤ (entryOf 1).theta.yaw ∧ (entryOf 1).theta.pitch < 180000000) := by decide

/-- The engine with pending frames numbered from 1. -/
def framesOf (n : Nat) (st : EngineState) : Steady :=
  { Steady.reset with state := st, frames := (List.range n).map fun i => ⟨BitVec.ofNat 32 (i + 1), 0⟩ }

theorem witness_FrameStart :
    (framesOf 3 .active).state = .active ∧ (framesOf 3 .active).frames ≠ [] ∧ (framesOf 3 .active).frames.length < 4 ∧
      (framesOf 0 .active).frames = [] ∧ (framesOf 0 .active).headStage = .none ∧ live.media.exch.state = .running ∧
      4 ≤ (framesOf 4 .active).frames.length ∧ live.media.steady.state = .idle := by decide

/-- The exchange not running, with no pickup, with one in progress and with one held. -/
theorem witness_FrameStart_pickup :
    Exchange.reset.state ≠ .running ∧ running.state = .running ∧ running.pickup = none ∧
      ({ running with pickup := some ⟨0, .requests, false⟩ } : Exchange).pickup = some ⟨0, .requests, false⟩ ∧
      ({ running with pickupHeld := true } : Exchange).pickupHeld = true ∧ running.pickupHeld = false := by decide

/-- A frame on an empty list with the exchange not running, its held times still to come and passed. -/
theorem witness_FrameStart_stopped :
    (power .run).media.exch.state ≠ .running ∧
      (HeadFigures.of 5 SheetValues.initial true false).ready ⟨[], 1000⟩ 5 = false ∧
      (HeadFigures.of 5 SheetValues.initial true false).ready ⟨[], 0⟩ 5 = true := by decide

/-- R194: a frame start taken at the count of a period expiry, whose pickup has then ended, leaves the expiry its own pickup. -/
theorem test_two_pickups :
    let e : Exchange := { running with periodWait := some ⟨0, 5000⟩ }
    let ended := (e.pickupDue 5000).endPickup 5000
    ended.pickup = none ∧ (ended.periodExpiry 5000).pickup = some ⟨5000, .requests, false⟩ ∧
      ((ended.periodExpiry 5000).endPickup 5000).periodExpiry 5000 = (ended.periodExpiry 5000).endPickup 5000 := by decide

/-- R194: a frame start held at the count of a period expiry makes one pickup with it. -/
theorem test_one_pickup :
    let e : Exchange := { running with periodWait := some ⟨0, 5000⟩, pickup := some ⟨0, .chunks, false⟩ }
    let ended := ((e.pickupDue 5000).periodExpiry 5000).endPickup 5000
    ended.pickup = some ⟨5000, .requests, false⟩ ∧ ended.pickupHeld = false ∧ ended.periodOwed = false := by decide

/-- The head figures of frame 1, its frame start at stamp 0: the held sheet's. -/
def head : HeadFigures :=
  .of 0 .initial false false

theorem witness_HeadFrame :
    let good := fields 32 [(0, 1), (30, 1), (4, 1), (8, 1), (16, 1)]
    let o := live.orientation
    ((carrying (.sheet true) live).media.exch.transferAt 0).map Transfer.purpose = some (.sheet true) ∧
      ({ framesOf 1 .active with headStage := .reading } : Steady).headStage = .reading ∧
      (framesOf 1 .active).frames = ⟨1, 0⟩ :: [] ∧
      (editionAt good 0 = editionAt good 30 ∧ editionAt good 0 ≠ 0 ∧ leNat good 4 4 = (1#32).toNat) ∧
      leNat (fields 32 []) 4 4 ≠ (1#32).toNat ∧
      (HeadFigures.of 10 (sheetValues good) false (sheetChanged good)).ready o 0 = false ∧
      (HeadFigures.of 10 .initial true false).ready o 0 = false ∧
      ({ framesOf 1 .active with headStage := .waiting, head := some head } : Steady).head = some head ∧
      (head.wait 1000).due 4000 = true ∧ (head.wait 1000).due 3999 = false ∧ live.media.steady.profile.track = false := by
  decide

/-- A good sheet and one that is not whose trigger has passed when the read completes. -/
theorem witness_HeadFrame_passed :
    let good := fields 32 [(0, 1), (30, 1), (4, 1), (8, 1), (16, 1)]
    (editionAt good 0 = editionAt good 30 ∧ editionAt good 0 ≠ 0 ∧ leNat good 4 4 = (1#32).toNat) ∧
      leNat (fields 32 []) 4 4 ≠ (1#32).toNat ∧ (sheetValues good).bands = 1 ∧
      (HeadFigures.of 0 (sheetValues good) false (sheetChanged good)).ready ⟨[], 1000⟩ 4000 = true ∧
      (HeadFigures.of 0 .initial true false).ready ⟨[], 1000⟩ 4000 = true := by decide

/-- R51: a sheet of E 0, Rd 50,000 and B 12 is taken as 1, 40,000 and 8, and is changed. -/
theorem test_sheet_clamped :
    let sheet := fields 32 [(12, 0x50), (13, 0xC3), (16, 12)]
    leNat sheet 12 4 = 50000 ∧ sheetValues sheet = ⟨1, 40000, 8⟩ ∧ sheetChanged sheet = true := by decide

/-- The head frame at its time-out, with frames behind it that are ready and not. -/
theorem witness_HeadFrame_list :
    (let y : Steady := { framesOf 2 .active with headStage := .waiting, head := some head }
     y.headStage = .waiting ∧ y.frames = ⟨1, 0⟩ :: [⟨2, 0⟩] ∧ y.head = some head ∧ (head.wait 1000).due 4000 = true ∧
       y.profile.track = false ∧ (HeadFigures.of 1 y.heldSheet true false).ready ⟨[], 1000⟩ 4000 = false ∧
       (HeadFigures.of 0 y.heldSheet true false).ready ⟨[], 1000⟩ 4000 = true) ∧
    live.media.exch.state = .running ∧ (power .run).media.exch.state ≠ .running := by decide

/-- A history notice at the last band time and one later, alone and with a frame behind. -/
theorem witness_HeadFrame_notice :
    let last := head.bandTimes.getLast?.getD head.centre
    ¬0 < (last - last).toInt ∧ 0 < (last + 1 - last).toInt ∧ Steady.reset.headStage ≠ .waiting ∧
      (∀ n ∈ [1, 2], let y : Steady := { framesOf n .active with headStage := .waiting, head := some head }
        y.headStage = .waiting ∧ y.frames.head? = some ⟨1, 0⟩ ∧ y.frames.length = n ∧ y.head = some head ∧
          y.profile.track = false) ∧ live.media.exch.state = .running := by decide

/-- R56, R58, R61: the first frame seeds the path at the centre's orientation, and the flags of any lookup reach the entry. -/
theorem test_first_frame :
    let y : Steady := { framesOf 1 .active with profile := { SteadyProfile.default with enable := ⟨true, false, false⟩ } }
    let r := y.computeFrame ⟨1, 0⟩ head [⟨0, ⟨7, 8, 9⟩, true, false, false⟩]
    r.path = ⟨7, 8, 9⟩ ∧ r.flags.pathSeeded = true ∧ r.flags.gap = true ∧ r.flags.sat = false ∧ r.bands.length = head.bandTimes.length ∧
      ({ y with seeded := true }.computeFrame ⟨1, 0⟩ head []).flags.pathSeeded = false := by decide

theorem witness_CorrectionsWithinLimits :
    (256 : Nat) ≤ 256 ∧ (0 : Int) ≤ 0 ∧ (-180000000 : Int) ≤ -180000000 ∧ (179999999 : Int) < 180000000 ∧
      SteadyProfile.default.enable.yaw = false ∧ SteadyProfile.default.enable.pitch = false ∧
      SteadyProfile.default.enable.roll = false := by decide

/-- The follow and the band angle at and past the margin, on both sides. -/
theorem witness_CorrectionsWithinLimits_edges :
    (let d := fun p theta : Int => angleDiff theta (angleSum p ((angleDiff theta p * 0).tdiv 256))
     |d 0 1000| ≤ 1000 ∧ 1000 < |d 0 1001| ∧ 0 < d 0 1001 ∧ 1000 < |d 0 (-1001)| ∧ d 0 (-1001) < 0) ∧
      |angleDiff 1000 0| ≤ 1000 ∧ 1000 < |angleDiff 1001 0| ∧ 0 < angleDiff 1001 0 ∧ ¬0 < angleDiff (-1001) 0 := by decide

/-- R60: half a thousandth is rounded away from zero on both sides. -/
theorem test_roll_rounding :
    (rollOf 2000 500).1 = 1 ∧ (rollOf 2000 499).1 = 0 ∧ (rollOf 2000 (-500)).1 = -1 ∧ rollOf 2000 2000500 = (2000, true) := by
  decide

/-- An incident entry whose window ends at stamp 10. -/
def entry : IncidentEntry :=
  ⟨1, 0, 10, 24576, 0, none, none, .pending⟩

/-- R22, R24: the record of a burst, each value high byte first, through an axis map that turns the axes and negates one. -/
theorem test_sample_bytes :
    let p : MotionPort := { MotionPort.reset with burstStamp := 77, missed := 3, seedWaiting := true, bias := ⟨1, 2, 3⟩ }
    p.sample ⟨⟨2, false⟩, ⟨0, true⟩, ⟨1, false⟩⟩ [0xEE, 0x80, 0x00, 0x7F, 0xFF, 0x01, 0x02, 0xFF, 0xFE, 0x80, 0x00, 0x00, 0x05]
      = ⟨77, ⟨258, 32768, 32767⟩, ⟨5, 2, -32768⟩, 3, ⟨false, true, true⟩, true, ⟨1, 2, 3⟩⟩ := by decide

theorem witness_IncidentWindow :
    let i : Incident := .reset
    let j : Incident := { i with shockRun := 2, window := .incident, windowEnd := 10, list := [entry] }
    24575 < i.settings.threshold ∧ i.settings.threshold ≤ 24576 ∧ 1 + 1 < i.settings.runLength ∧
      i.settings.runLength ≤ j.shockRun + 1 ∧ i.window = .quiet ∧ j.window = .incident ∧ j.list = [] ++ [entry] ∧
      0 ≤ ((10 : Stamp) - j.windowEnd).toInt ∧ ((9 : Stamp) - j.windowEnd).toInt < 0 := by decide

/-- A volume with one clip, OPEN, of one segment, in entry 0, with `n` markers. -/
def clipWith (n : Nat) (causes : Causes) (overflow : Bool) : Clip :=
  { newClip 1 0 with
    first := some 0, last := some 0, segments := 1, markers := List.replicate n ⟨0, .short⟩, causes := causes
    overflow := overflow }

def tablesOf (c : Clip) : Tables :=
  ⟨⟨2048, 2048, 16⟩, 1, 2, some c :: List.replicate 255 none, ⟨.filling, none⟩ :: List.replicate 1023 ⟨.free, none⟩, 1⟩

/-- The writer with that volume mounted. -/
def mountedWith (st : WriterState) (c : Clip) : Writer :=
  { Writer.reset with state := st, mounted := true, tables := some (tablesOf c), current := some ⟨0, 1, false⟩ }

def protectedBy (mark : Bool) : Causes :=
  ⟨false, mark, false⟩

/-- A closed clip. -/
def closed (causes : Causes) : Clip :=
  { clipWith 0 causes false with state := .closed, cause := some .request, endStamp := some 0 }

/-- A volume whose entry 0 is the OPEN clip 2 and whose entry 1 is the closed clip 1. -/
def twoClips (causes : Causes) : Tables :=
  { tablesOf { clipWith 15 .none false with number := 2 } with
    dir := some { clipWith 15 .none false with number := 2 } :: some (closed causes) :: List.replicate 254 none }

theorem witness_Protection :
    (let i : Incident := { Incident.reset with requests := [⟨1, 0, 30⟩], answers := [⟨1, .noClip, none, none⟩] }
     i.requests = ⟨1, 0, 30⟩ :: [] ∧ i.answers = ⟨1, .noClip, none, none⟩ :: []) ∧
      live.media.writer.openIndex = none ∧
      (∀ causes ∈ [Causes.none, ⟨true, false, false⟩], let d := twoClips causes
        d.openIndex = some 0 ∧ d.clipAt 0 = some { clipWith 15 .none false with number := 2 } ∧ d.indexOf 1 = some 1 ∧
          d.clipAt 1 = some (closed causes) ∧ d.indexOf 3 = none) ∧
      (clipWith 15 .none false).markers.length < 16 ∧ (clipWith 15 .none false).number = 1 ∧
      ((30 : Nat) : Int) * 1000000 ≤ ((30000000 : Stamp) - (clipWith 15 .none false).start).toInt ∧
      ¬((30 : Nat) : Int) * 1000000 ≤ ((29999999 : Stamp) - (clipWith 15 .none false).start).toInt := by decide +kernel

/-- The MARK key in a state, its debounce running from stamp 0, its hold from press stamp 0. -/
def keyIn (st : KeyState) (h : Option Hold) : Key :=
  ⟨st, 0, 0, true, h⟩

theorem witness_MarkKey :
    (∀ k ∈ [KeyState.up, .pressing, .down, .releasing, .long], (keyIn k none).state = k) ∧
      (power .run).power.state = .run ∧ (power .shutting).power.state = .shutting ∧ (power .standby).power.state = .standby ∧
      (keyIn .releasing (some ⟨.markLong, false⟩)).hold.all (fun h => !h.expired) = true ∧
      (keyIn .releasing (some ⟨.markLong, true⟩)).hold = some ⟨.markLong, true⟩ ∧
      20000 ≤ ((20000 : Stamp) - (keyIn .pressing none).edge).toInt ∧
      ¬20000 ≤ ((19999 : Stamp) - (keyIn .pressing none).edge).toInt ∧
      2000000 ≤ ((2000000 : Stamp) - (keyIn .down none).press).toInt ∧
      ¬2000000 ≤ ((1999999 : Stamp) - (keyIn .down none).press).toInt ∧
      (keyIn .down (some ⟨.markLong, false⟩)).hold.all (fun h => h.kind = .markLong) = true := by decide

theorem witness_Markers :
    (let i : Incident := { Incident.reset with markers := [⟨0, .short⟩], markProtections := 1 }
     i.markers = ⟨0, .short⟩ :: [] ∧ 0 < i.markProtections) ∧
    live.media.writer.openIndex = none ∧
    (∀ c ∈ [clipWith 15 .none false, clipWith 16 .none false, clipWith 16 .none true, clipWith 0 (protectedBy true) false],
      (mountedWith .recording c).mounted = true ∧ (mountedWith .recording c).tables = some (tablesOf c) ∧
        (tablesOf c).openIndex = some 0 ∧ (tablesOf c).clipAt 0 = some c) ∧
    (clipWith 15 .none false).markers.length < 16 ∧ 16 ≤ (clipWith 16 .none false).markers.length ∧
      (clipWith 16 .none false).overflow = false ∧ (clipWith 16 .none true).overflow = true ∧
      (clipWith 0 .none false).causes.mark = false ∧ (clipWith 0 (protectedBy true) false).causes.mark = true := by
  decide +kernel

/-- The card READY with a capacity. -/
def cardOf (n : Nat) : Card :=
  { Card.reset with state := .ready, detect := true, capacity := n }

theorem witness_VolumeRequests :
    (∀ r ∈ [Request.mountVolume, .formatVolume, .unmountVolume],
      (asked r live).media.exch.nextRequest .writer = some ⟨0, r, 5⟩) ∧
    (∀ st ∈ [WriterState.unmounted, .mounting, .formatting, .idle, .recording, .closing, .cardLost, .cardFault, .halted],
      ({ Writer.reset with state := st } : Writer).state = st) ∧
    live.gauge.warning = false ∧ ({ Gauge.reset with warning := true } : Gauge).warning = true ∧
    ¬(live.media.card.state = .ready ∨ live.media.card.state = .busy) ∧ (cardOf 2048).state = .ready ∧
    (let p := live.media.writer.profile
     (cardOf 2048).capacity ≤ p.firstSector ∧ p.firstSector < (cardOf 2049).capacity ∧
       (cardOf 2099343).capacity < areaEnd p.firstSector p.segmentSize p.segmentCount ∧
       areaEnd p.firstSector p.segmentSize p.segmentCount ≤ (cardOf 2099344).capacity) ∧
    (let w : Writer := { Writer.reset with state := .idle }
     w.readBack = none ∧ w.unmounting = none ∧ w.waitingSlots = [] ∧ w.hostReset = false) ∧
    (cardOf 0).state = .ready ∧ live.env.warn = false ∧ parseHeader [] = none ∧
    (let r : ReadBack := ⟨0, 1, 0, 4096, 0, 0, 8, .writing⟩
     ({ Writer.reset with state := .cardLost, readBack := some r } : Writer).readBack = some r) := by decide

/-- A mount whose first run ends: no header, one whose area ends at the capacity or above it, a zone, clips to scan, the list. -/
theorem witness_VolumeRequests_mount :
    (let w : Writer := { Writer.reset with job := some (.mount 0 .header none [] []) }
     w.flight = none ∧ w.job = some (.mount 0 .header none [] []) ∧ (VolumeJob.mount 0 .header none [] []).slot = 0 ∧
       (⟨.volume, .readError, [], 0⟩ : Delivery).cls = .volume ∧ RunOutcome.readError ≠ .absent ∧ RunOutcome.readError ≠ .ok) ∧
    (let sector := headerSector 7 2048 16 5
     parseHeader sector = some ⟨7, 2048, 16, 5⟩ ∧ parseHeader (sector.set 0 0) = none ∧
       (cardOf 34959).capacity < areaEnd Writer.reset.profile.firstSector 2048 16 ∧
       areaEnd Writer.reset.profile.firstSector 2048 16 ≤ (cardOf 34960).capacity) ∧
    (let w := mountedWith .mounting (clipWith 0 .none false)
     w.tables = some (tablesOf (clipWith 0 .none false)) ∧
       (tablesOf (clipWith 0 .none false)).clipAt 0 = some (clipWith 0 .none false) ∧
       (tablesOf (clipWith 0 .none false)).chain (clipWith 0 .none false) = [0] ∧
       (tablesOf (newClip 1 0)).clipAt 0 = some (newClip 1 0) ∧ (tablesOf (newClip 1 0)).chain (newClip 1 0) = [] ∧
       (tablesOf (newClip 1 0)).geometry.segmentCount ≤ 1024) ∧
    (let w : Writer := { mountedWith .mounting (closed .none) with job := some (.mount 0 .writeBack none [] [1]) }
     w.job = some (.mount 0 .writeBack none [] [1]) ∧ w.tables = some (tablesOf (closed .none)) ∧ w.updates = [] ∧ w.flight = none ∧
       ({ w with updates := [1] } : Writer).updates ≠ []) := by decide +kernel

/-- An unmount that waits, with and without a read-back, its list empty and not. -/
theorem witness_VolumeRequests_unmount :
    let w : Writer := { mountedWith .idle (closed .none) with unmounting := some [0] }
    let r : ReadBack := ⟨0, 1, 0, 4096, 0, 0, 8, .writing⟩
    w.state = .idle ∧ w.unmounting = some [0] ∧ w.hostReset = false ∧ w.updates = [] ∧ w.flight = none ∧ w.wip = none ∧
      w.readBack = none ∧ ({ w with readBack := some r } : Writer).readBack = some r ∧
      ({ w with updates := [1] } : Writer).updates ≠ [] ∧ ({ w with flight := some ⟨1, false, false, []⟩ } : Writer).flight ≠ none := by
  decide

/-- R96: a mount's first run that fails ends it in UNMOUNTED. -/
theorem test_mount_fails :
    let j := VolumeJob.mount 0 .header none [] []
    ((withWriter { Writer.reset with state := .mounting, job := some j } live).media.jobOutcome live.env j .timeout
      []).writer.state = .unmounted := by decide

/-- R121: a START_CLIP in IDLE is taken while an unmount waits for the list; the unmount waits on. -/
theorem test_start_while_unmounting :
    let w : Writer := { mountedWith .idle (closed .none) with unmounting := some [3], updates := [2] }
    let m := (withWriter w (asked (.startClip 7) live)).media.startClip live.env 0 7 5
    m.writer.state = .recording ∧ m.writer.unmounting = some [3] ∧ m.unmountDrained live.env = none := by decide

/-- R101: with the writer in CARD_FAULT a waiting unmount completes, answered FAILED(CARD). -/
theorem test_unmount_fails :
    let w : Writer := { mountedWith .cardFault (closed .none) with unmounting := some [0] }
    let m := (withWriter w (asked .unmountVolume live)).media.unmountDrained live.env
    m.map (fun m => (m.writer.state, m.writer.mounted, m.exch.transfers.map (fun t => t.purpose)))
      = some (.unmounted, false, [.record (answerRecord 0 1 Request.unmountVolume.kindCode (.failed .card)) .head]) := by
  decide

/-- A WARM reset that waits in IDLE, as a format finds it. -/
theorem witness_VolumeRequests_reset :
    let w : Writer := { mountedWith .idle (closed .none) with hostReset := true }
    w.state = .idle ∧ w.hostReset = true ∧ w.readBack = none ∧ w.unmounting = none ∧ w.waitingSlots = [] ∧
      ({ w with state := .closing, hostReset := false } : Writer).hostReset = false ∧
      ({ w with state := .cardFault, unmounting := some [0] } : Writer).unmounting = some [0] := by decide

theorem witness_ProtectDelete :
    (asked (.setProtection 1 true) live).media.exch.nextRequest .writer = some ⟨0, .setProtection 1 true, 5⟩ ∧
      (asked (.deleteClip 1 false) live).media.exch.nextRequest .writer = some ⟨0, .deleteClip 1 false, 5⟩ ∧
      (mountedWith .idle (closed .none)).indexOf 2 = none ∧ (mountedWith .idle (closed .none)).indexOf 1 = some 0 ∧
      (mountedWith .idle (closed .none)).clipAt 0 = some (closed .none) ∧ (closed .none).causes.request ≠ true ∧
      (closed .none).causes.request = false ∧ (closed .none).state ≠ .openClip ∧ (clipWith 0 .none false).state = .openClip ∧
      (closed (protectedBy true)).causes.any = true ∧ (closed .none).causes.any = false ∧
      (tablesOf (closed .none)).chain (closed .none) = [0] ∧ 0 < (tablesOf (closed .none)).map.length ∧
      ¬(live.media.writer.state = .idle ∨ live.media.writer.state = .recording ∨ live.media.writer.state = .closing) := by
  decide +kernel

theorem witness_ReadBackRuns :
    (∀ o ∈ [0, 512, 1047552, 1048064], (asked (.readBack 1 o 1048576 0) live).media.exch.nextRequest .writer
      = some ⟨0, .readBack 1 o 1048576 0, 5⟩) ∧
    (mountedWith .idle (closed .none)).readBack = none ∧ (mountedWith .idle (closed .none)).indexOf 1 = some 0 ∧
    (mountedWith .idle (closed .none)).indexOf 3 = none ∧ (tablesOf (closed .none)).clipAt 0 = some (closed .none) ∧
    ((tablesOf (closed .none)).chain (closed .none)).length * ((2048 - 1) * 512) = 1048064 ∧
    ((carrying (.readBackWrite true) live).media.exch.transferAt 0).map Transfer.purpose = some (.readBackWrite true) ∧
    (let r : ReadBack := ⟨0, 1, 0, 4096, 0, 0, 8, .writing⟩
     r.stage = .writing ∧ r.left ≤ r.piece * 512 ∧ ({ r with left := 4608 } : ReadBack).piece * 512 < 4608 ∧
       ({ r with stage := .idle } : ReadBack).stage = .idle) ∧
    RunOutcome.absent ≠ .ok ∧ ({ Card.reset with readBack := some ⟨0, 1, none⟩ } : Card).readBack = some ⟨0, 1, none⟩ ∧
    (mountedWith .idle (closed .none)).mounted = true := by decide +kernel

/-- R134: with three sectors left in the first segment the next piece takes no more. -/
theorem test_next_piece :
    let c := closed .none
    let w : Writer := { mountedWith .idle c with readBack := some ⟨0, 1, 1046528, 1536, 0, 0, 0, .idle⟩ }
    let m : Media := { (withWriter w live).media with card := cardOf 4294967296 }
    w.mounted = true ∧ w.tables = some (tablesOf c) ∧ w.indexOf 1 = some 0 ∧ (tablesOf c).clipAt 0 = some c ∧
      ((tablesOf c).chain c)[1046528 / 1048064]? = some 0 ∧
      (m.nextPiece live.env).bind (fun m => m.card.readBack) = some ⟨2048 + 144 + 1 + 2044, 3, none⟩ := by decide +kernel

/-- A volume with no clip. -/
def emptyTables : Tables :=
  ⟨⟨2048, 2048, 16⟩, 1, 2, List.replicate 256 none, List.replicate 1024 ⟨.free, none⟩, 0⟩

/-- A volume whose directory is full of protected clips. -/
def fullTables : Tables :=
  { emptyTables with dir := List.replicate 256 (some (closed (protectedBy true))) }

theorem witness_StartClip :
    (asked (.startClip 0) live).media.exch.nextRequest .writer = some ⟨0, .startClip 0, 5⟩ ∧ live.media.writer.state ≠ .idle ∧
      (let w : Writer := { Writer.reset with state := .idle, mounted := true, tables := some emptyTables }
       w.state = .idle ∧ w.reserveHeld = false ∧ w.unmounting = none ∧ w.hostReset = false ∧ w.tables = some emptyTables ∧
         emptyTables.emptyIndex = some 0 ∧ (w.open_ 0).2 = some 0) ∧
      fullTables.emptyIndex = none ∧ fullTables.oldest = none := by decide +kernel

/-- Clips 9 and 8, unprotected, behind protected ones. -/
def oldestTables : Tables :=
  { fullTables with dir := List.replicate 254 (some (closed (protectedBy true))) ++
      [some { closed .none with number := 9 }, some { closed .none with number := 8 }] }

/-- A reclaim in a full directory, and one for a segment with none FREE; and a volume with nothing to reclaim. -/
theorem witness_ProtectDelete_reclaim :
    (let w : Writer := { mountedWith .recording (closed .none) with tables := some oldestTables }
     w.tables = some oldestTables ∧ oldestTables.oldest = some { closed .none with number := 8 } ∧
       (w.reclaim.map Prod.snd) = some [128, 129] ∧ oldestTables.emptyIndex = none ∧
       (w.reclaim.bind fun r => r.1.tables.bind Tables.emptyIndex) = some 255) ∧
    (let t : Tables := { tablesOf (closed .none) with map := List.replicate 1024 ⟨.filled, none⟩ }
     let w : Writer := { mountedWith .recording (closed .none) with tables := some t }
     w.reclaim.isSome = true ∧ t.firstFree = none) ∧ fullTables.oldest = none := by decide +kernel

/-- Volume updates: one to issue, one in flight for the first time and again, under an unmount and under a WARM reset. -/
theorem witness_ProtectDelete_updates :
    let w : Writer := { mountedWith .idle (closed .none) with updates := [1], waiting := [⟨.request 0, [1]⟩] }
    let f : VolumeFlight := ⟨1, false, false, [.request 0]⟩
    w.flight = none ∧ w.updates = 1 :: [] ∧ w.tables = some (tablesOf (closed .none)) ∧ w.state = .idle ∧
      ({ w with state := .mounting, job := some (.mount 0 .writeBack none [] []) } : Writer).job =
        some (.mount 0 .writeBack none [] []) ∧ Writer.reset.updates = [] ∧ Writer.reset.state = .unmounted ∧
      (cardOf 1).state ≠ .absent ∧ (cardOf 1).state ≠ .fault ∧ live.env.warn = false ∧
      ({ w with flight := some f } : Writer).flight = some f ∧ (⟨.volume, .ok, [], 0⟩ : Delivery).cls = .volume ∧
      RunOutcome.ok ≠ .absent ∧ RunOutcome.writeError ≠ .ok ∧ f.final = false ∧ f.retried = false ∧
      ({ f with retried := true } : VolumeFlight).retried = true ∧ w.hostReset = false ∧ w.unmounting = none ∧
      ({ w with unmounting := some [0] } : Writer).unmounting = some [0] ∧ ({ w with hostReset := true } : Writer).hostReset = true ∧
      1 ≤ 1 ∧ 128 ≤ 128 ∧ 128 < 129 := by decide +kernel

/-- R92, R93: the write of a directory sector answers the request that waits for it and sends its changed entry to the mirror. -/
theorem test_update_done :
    let w : Writer := { mountedWith .idle (closed .none) with
      flight := some ⟨1, false, false, [.request 0]⟩, waiting := [⟨.request 0, [1]⟩], mirrorDirty := [1] }
    let m := (withWriter w (asked (.setProtection 1 true) live)).media.updateOutcome live.env ⟨1, false, false, [.request 0]⟩ .ok
    m.writer.flight = none ∧ m.writer.waiting = [] ∧ m.writer.mirrorDirty = [] ∧ m.writer.mirrorEdition = 1 ∧
      m.exch.transfers.map (fun t => t.address) = [0x12100, 0x10400] := by decide

/-- A motion record of frame 1, without flags or bands. -/
def recordOf : MotionRecord :=
  ⟨1, ⟨false, false, false, false, ⟨false, false, false⟩, false, false, false, false, false⟩, 0, ⟨0, 0, 0⟩, ⟨0, 0, 0⟩, []⟩

/-- A host chunk of slot 0, and a writer that holds its slot. -/
def hostChunk : Chunk :=
  ⟨.video, true, 0, 0, 1, .slot 0 1 0, false⟩

def holding : Writer :=
  { mountedWith .recording (clipWith 0 .none false) with held := [⟨0, 1, 0⟩] }

/-- The motion track ON, with a buffer to fill, to hand over and to choose, and with none. -/
theorem witness_HeadFrame_track :
    let y : Steady := { Steady.reset with profile := { SteadyProfile.default with track := true } }
    y.profile.track = true ∧ Steady.reset.profile.track ≠ true ∧ holding.state = .recording ∧
      (∀ n ∈ [30, 31], let z : Steady := { y with bufB := ⟨.filling, List.replicate n recordOf⟩ }
        z.filling = some .b ∧ ((z.buffer .b).records ++ [recordOf]).length = n + 1) ∧ 31 < 32 ∧ 32 ≤ 31 + 1 ∧
      (y.filling = none ∧ (y.buffer .a).state = .free ∧ (y.buffer .a).records = [] ∧ y.bufB.state = .free ∧ y.lastUsed ≠ some .a) ∧
      (let z : Steady := { y with bufA := ⟨.queued, [recordOf]⟩, bufB := ⟨.queued, [recordOf]⟩ }
       z.bufA.state = .queued ∧ z.bufB.state = .queued) ∧ live.media.writer.openIndex = none ∧ holding.mounted = true ∧
      holding.tables = some (tablesOf (clipWith 0 .none false)) ∧
      (tablesOf (clipWith 0 .none false)).openIndex = some 0 := by decide +kernel

theorem witness_StopClip :
    (asked (.stopClip none) live).media.exch.nextRequest .writer = some ⟨0, .stopClip none, 5⟩ ∧
      (asked (.stopClip (some 4)) live).media.exch.nextRequest .writer = some ⟨0, .stopClip (some 4), 5⟩ ∧
      (∀ st ∈ [WriterState.unmounted, .mounting, .formatting, .idle, .recording, .closing, .cardLost, .cardFault, .halted],
        ({ Writer.reset with state := st } : Writer).state = st) ∧
      4 < 5 ∧ 4 ≤ 4 ∧ ((5000000 : Nat) : Int) ≤ ((5000000 : Stamp) - 0).toInt ∧
      ((4999999 : Stamp) - 0).toInt < ((5000000 : Nat) : Int) ∧ live.media.steady.filling = none ∧
      hostChunk.source = .slot 0 1 0 ∧ holding.held.contains ⟨0, 1, hostChunk.seq⟩ = true ∧
      (let y : Steady := { Steady.reset with bufA := ⟨.filling, []⟩ }
       y.filling = some .a ∧ (y.buffer .a).records = []) ∧
      (let y : Steady := { Steady.reset with bufA := ⟨.filling, [recordOf]⟩ }
       y.filling = some .a ∧ (y.buffer .a).records ≠ []) ∧
      (let w := mountedWith .closing (clipWith 0 .none false)
       let d := tablesOf (clipWith 0 .none false)
       w.state = .closing ∧ w.queue = [] ∧ w.wip = none ∧ w.mounted = true ∧ w.tables = some d ∧ d.openIndex = some 0 ∧
         d.clipAt 0 = some (clipWith 0 .none false) ∧ w.hostReset = false ∧ w.current = some ⟨0, 1, false⟩ ∧
         (mapAt d.map 0).state = .filling ∧ ({ w with current := none } : Writer).current = none) := by decide +kernel

theorem witness_PayloadFetch :
    ((carrying (.payload true) live).media.exch.transferAt 0).map Transfer.purpose = some (.payload true) ∧
      ((carrying (.payload false) live).media.exch.transferAt 0).map Transfer.purpose = some (.payload false) ∧
      (let p : WriteInProgress := ⟨⟨.video, true, 0, 0, 1, .slot 0 1 0, false⟩, .fetching, false, none, []⟩
       let w : Writer := { mountedWith .recording (clipWith 0 .none false) with wip := some p }
       w.wip = some p ∧ p.stage = .fetching ∧ w.mounted = true ∧ w.tables = some (tablesOf (clipWith 0 .none false)) ∧
         (tablesOf (clipWith 0 .none false)).openIndex = some 0 ∧
         (tablesOf (clipWith 0 .none false)).clipAt 0 = some (clipWith 0 .none false) ∧ w.current = some ⟨0, 1, false⟩ ∧
         (cardOf 4096).state = .ready ∧ live.gauge.warning = false) ∧
      (let w : Writer := { holding with queue := [hostChunk] }
       let d := tablesOf (clipWith 0 .none false)
       let cur : CurrentSegment := ⟨0, 2047, true⟩
       w.state = .recording ∧ w.wip = none ∧ w.queue = hostChunk :: [] ∧ hostChunk.opensClip = false ∧
         cur.nextSector + (32 + hostChunk.length + 511) / 512 ≤ d.geometry.segmentSize ∧
         ¬({ cur with nextSector := 2048 } : CurrentSegment).nextSector + (32 + hostChunk.length + 511) / 512
           ≤ d.geometry.segmentSize ∧ hostChunk.kind ≠ .motion ∧
         d.firstFree = some 1 ∧ (clipWith 0 .none false).last = some 0 ∧ (newClip 1 0).last = none) ∧
      (let d : Tables := { tablesOf (clipWith 0 .none false) with map := List.replicate 1024 ⟨.filled, none⟩ }
       d.firstFree = none ∧ d.oldest = none ∧ d.openIndex = some 0 ∧ d.clipAt 0 = some (clipWith 0 .none false)) ∧
      ({ clipWith 0 .none false with hostCount := 1 } : Clip).hostCount ≠ 0 ∧
      holding.held.contains ⟨0, 1, hostChunk.seq⟩ = true := by decide +kernel

/-- A rollover with an EMPTY entry left and with none, its current segment FILLING and not; and a MOTION chunk to write and written. -/
theorem witness_PayloadFetch_items :
    (let c : Chunk := { hostChunk with opensClip := true }
     let w : Writer := { holding with queue := [c] }
     let d := tablesOf (clipWith 0 .none false)
     w.state = .recording ∧ w.wip = none ∧ w.queue = c :: [] ∧ w.mounted = true ∧ w.tables = some d ∧ d.openIndex = some 0 ∧
       d.clipAt 0 = some (clipWith 0 .none false) ∧ c.opensClip = true ∧ c.kind = .video ∧ d.emptyIndex = some 1 ∧
       w.current = some ⟨0, 1, false⟩ ∧ (mapAt d.map 0).state = .filling ∧ ({ w with current := none } : Writer).current = none ∧
       c.heldSlot = some ⟨0, 1, 0⟩ ∧ (⟨0, 1, 0⟩ : HeldSlot) ∈ w.held) ∧
    (let open_ := clipWith 0 (protectedBy true) false
     let d : Tables := { fullTables with dir := some open_ :: List.replicate 255 (some (closed (protectedBy true))) }
     d.openIndex = some 0 ∧ d.emptyIndex = none ∧ ({ d with dir := d.dir.modify 0 (Option.map fun k => { k with
       state := .closed, cause := some .rollover, endStamp := some 0 }) } : Tables).oldest = none) ∧
    (let c := motionChunk .a [recordOf]
     let w : Writer := { holding with queue := [c] }
     c.kind = .motion ∧ c.source = .buffer .a ∧ w.queue = c :: [] ∧ c.opensClip = false ∧ w.current = some ⟨0, 1, false⟩ ∧
       1 + (32 + c.length + 511) / 512 ≤ 2048 ∧ (cardOf 4096).state = .ready ∧ live.env.warn = false ∧
       (⟨c, .writing, false, none, []⟩ : WriteInProgress).chunk = c) := by decide +kernel

/-- R122: with the directory full the marked chunk is refused and the writer closes with FULL. -/
theorem test_rollover_full :
    let d : Tables := { fullTables with
      dir := some (clipWith 0 (protectedBy true) false) :: List.replicate 255 (some (closed (protectedBy true))) }
    let w : Writer := { holding with tables := some d, queue := [{ hostChunk with opensClip := true }] }
    ((withWriter w live).media.startWrite live.env).map (fun m => (m.writer.state, m.writer.closeCause, m.writer.held))
      = some (.closing, some .full, []) := by decide +kernel

theorem witness_Detect :
    (let c : Card := { Card.reset with debounce := some (true, 0) }
     let d : Card := { cardOf 1 with debounce := some (false, 0) }
     c.debounce = some (true, 0) ∧ c.state = .absent ∧ d.debounce = some (false, 0) ∧ d.state ≠ .absent) ∧
      50000 ≤ ((50000 : Stamp) - 0).toInt ∧ ¬50000 ≤ ((49999 : Stamp) - 0).toInt ∧ Card.reset.debounce = none ∧
      (cardOf 1).state ≠ .absent ∧ (cardOf 1).run = none ∧ (cardOf 1).stopOwed = false ∧ (cardOf 1).ident = none ∧
      ({ cardOf 1 with stopOwed := true } : Card).stopOwed = true ∧ IdentStep.reset ≠ .wake := by
  decide

/-- What a removal or a supply warning finds: a held chunk queued, a request waiting, a read-back, a mount, each with its request. -/
theorem witness_Detect_gone :
    let w : Writer := { holding with
      queue := [hostChunk], waiting := [⟨.request 0, [1]⟩], readBack := some ⟨0, 1, 0, 4096, 0, 0, 8, .writing⟩
      job := some (.format 0 1 ⟨2048, 2048, 16⟩ 1) }
    ⟨0, 1, hostChunk.seq⟩ ∈ w.held ∧ hostChunk ∈ w.admitted ∧ 0 ∈ w.waitingSlots ++ w.stopSlots ++ w.unmounting.getD [] ∧
      w.readBack = some ⟨0, 1, 0, 4096, 0, 0, 8, .writing⟩ ∧ w.job = some (.format 0 1 ⟨2048, 2048, 16⟩ 1) ∧
      holding.job = none ∧ holding.openIndex = some 0 ∧ (mountedWith .recording (closed .none)).openIndex = none ∧
      (asked .unmountVolume live).media.exch.working.getD 0 none = some ⟨1, Request.unmountVolume.kindCode⟩ ∧
      live.media.exch.state = .running ∧ (∀ st ∈ [WriterState.unmounted, .cardLost, .halted, .recording],
        ({ w with state := st } : Writer).state = st) ∧
      (let y : Steady := { Steady.reset with bufA := ⟨.filling, [recordOf]⟩ }
       y.filling = some .a ∧ (y.buffer .a).records ≠ []) := by decide +kernel

/-- R128, R129: a held edition receives ABANDONED, and a removal drops the tables that a supply warning keeps. -/
theorem test_abandoned :
    let m := (withWriter { holding with queue := [hostChunk] } live).media
    let gone := m.cardGone live.env
    let halted := m.halt live.env
    gone.writer.held = [] ∧ gone.writer.tables = none ∧ halted.writer.held = [] ∧ halted.writer.tables.isSome = true ∧
      (halted.writer.clipAt 0).map (fun c => c.drops) = some 1 ∧
      gone.exch.transfers.map (fun t => t.purpose) = [.record (receiptRecord ⟨0, 1, hostChunk.seq⟩ .abandoned) .head] := by
  decide

/-- The card in an identification step, its wait from stamp 0. -/
def identifyingAt (step : IdentStep) : Card :=
  { Card.reset with state := .identifying, detect := true, ident := some step, identWait := some ⟨0, 1000000⟩ }

/-- The card with a run in flight. -/
def busyWith (r : Run) : Card :=
  { cardOf 4096 with state := .busy, run := some r }

def readRun (phase : RunPhase) : Run :=
  ⟨.volume, ⟨2048, 2, none⟩, 0, phase, some ⟨0, 100000⟩, [], 0, true⟩

def writeRun (phase : RunPhase) : Run :=
  ⟨.volume, ⟨2048, 2, some []⟩, 0, phase, some ⟨0, 250000⟩, [], 0, true⟩

theorem witness_Detect_lines :
    (let c : Card := { identifyingAt .readiness with exchanges := 1 }
     Card.reset.exchanges < c.exchanges ∧ c.state ≠ .absent ∧ c.exchange = some .readiness) ∧
      (cardOf 1).exchange = none ∧ Card.reset.state = .absent ∧ (busyWith (readRun .command)).run = some (readRun .command) ∧
      (busyWith (readRun .command)).ident = none := by decide

/-- R136: the read command for sector 01020304h. -/
theorem test_card_command :
    (CardExchange.read 0x01020304).command = [0x52, 0x01, 0x02, 0x03, 0x04, 0x01] ∧ CardExchange.status.command = [0x4D, 0, 0, 0, 0, 1] ∧
      0x01020304 < 4294967296 := by decide

/-- R136: what the card port sends on the line is taken back bit by bit, most significant first. -/
theorem test_card_lines :
    ((cardOf 1).sendLines [0x40]).filterMap (fun l => if l.clockHigh then some l.dataHigh else none)
      = [false, true, false, false, false, false, false, false] := by decide

/-- R136: between the readiness command and the capacity command the select line is high. -/
theorem test_card_turn :
    let before := identifyingAt .readiness
    let after : Card := { identifyingAt .capacity with exchanges := 1 }
    ((before.turnLines after).take 2).map (fun l => l.selectHigh) = [true, false] ∧
      before.turnLines before = [before.lines] := by decide

theorem witness_Identification :
    (∀ step ∈ [IdentStep.reset, .readiness, .capacity, .capacityBlock, .status 1], let c := identifyingAt step
      c.state = .identifying ∧ c.ident = some step ∧ c.stopOwed = false ∧ c.volume = none ∧ c.chunk = none ∧
        c.readBack = none ∧ c.identWait = some ⟨0, 1000000⟩ ∧ c.recovery = false) ∧
    (∀ r ∈ [(0 : Byte), 1, 0x7F], r.getLsbD 7 = false) ∧
    (let n := fun fs => beNat (slice (fields 512 fs) 0 512) 0 8
     n [(7, 1)] = 1 ∧ n [(3, 1)] = 4294967296 ∧ n [(3, 1), (7, 1)] = 4294967297 ∧ n [] = 0) ∧
    1000000 ≤ ((1000000 : Stamp) - 0).toInt ∧ ((999999 : Stamp) - 0).toInt < 1000000 := by decide +kernel

theorem witness_ReadRun :
    (∀ p ∈ [RunPhase.command, .block, .stop], let c := busyWith (readRun p)
      c.state = .busy ∧ c.run = some (readRun p) ∧ c.ident = none ∧ c.stopOwed = false ∧ (readRun p).claim.data = none ∧
        (readRun p).phase = p ∧ (readRun p).wait = some ⟨0, 100000⟩) ∧
    (readRun .block).done + 1 < (readRun .block).claim.count ∧
    ({ readRun .block with done := 1 } : Run).done + 1 = (readRun .block).claim.count ∧
    100000 ≤ ((100000 : Stamp) - 0).toInt ∧ ((99999 : Stamp) - 0).toInt < 100000 ∧
    (1 ≤ (1 : Byte).toNat ∧ (15 : Byte).toNat ≤ 15 ∧ 15 < (16 : Byte).toNat ∧ (0xFE : Byte) ≠ 16) := by decide

theorem witness_ReadRun_claims :
    let read : Claim := ⟨2048, 2, none⟩
    let write : Claim := ⟨2048, 2, some []⟩
    let warned : Env := { live.env with warn := true }
    (∀ st ∈ [CardState.absent, .fault, .ready, .busy, .identifying], ({ cardOf 2050 with state := st } : Card).state = st) ∧
      write.data.isSome = true ∧ read.data.isSome = false ∧ live.env.warn = false ∧ warned.warn = true ∧
      (1 ≤ read.count ∧ read.count ≤ 4096 ∧ read.start + read.count ≤ (cardOf 2050).capacity) ∧
      ¬read.start + read.count ≤ (cardOf 2049).capacity ∧
      ¬(write.data.isSome = true ∧ live.env.warn = true) ∧ ¬(read.data.isSome = true ∧ warned.warn = true) ∧
      (∀ place ∈ [({ cardOf 2050 with volume := some read } : Card).volume, ({ cardOf 2050 with chunk := some read } : Card).chunk,
        ({ cardOf 2050 with readBack := some read } : Card).readBack], place = some read) ∧
      (cardOf 2050).volume = none ∧ (cardOf 2050).chunk = none ∧
      (busyWith (writeRun .block)).run = some (writeRun .block) ∧ (writeRun .block).claim.data.isSome = true ∧
      (let m : Media := { live.media with card := { cardOf 2050 with readBack := some read } }
       m.pieceGone live.env = none ∧ (m.card.arbitrate live.env).isSome = true) := by decide

theorem witness_WriteRun :
    (∀ p ∈ [RunPhase.command, .block, .busy, .finalBusy, .rejected, .status], let c := busyWith (writeRun p)
      c.state = .busy ∧ c.run = some (writeRun p) ∧ c.ident = none ∧ c.stopOwed = false ∧
        (writeRun p).claim.data = some [] ∧ (writeRun p).phase = p ∧ (writeRun p).wait = some ⟨0, 250000⟩) ∧
    (writeRun .busy).done + 1 ≠ (writeRun .busy).claim.count ∧
    ({ writeRun .busy with done := 1 } : Run).done + 1 = (writeRun .busy).claim.count ∧
    (0xE5 : Byte).extractLsb' 0 5 = 5 ∧ (0x0B : Byte).extractLsb' 0 5 ≠ 5 ∧
    250000 ≤ ((250000 : Stamp) - 0).toInt ∧ ((249999 : Stamp) - 0).toInt < 250000 := by decide

/-- USB in a state, its waits from stamp 0. -/
def usbIn (st : InputState) (source : Source) : Charge :=
  { Charge.reset with usb := ⟨st, some 0, some 0⟩, source := source }

theorem witness_Inputs :
    (usbIn .absent .none).choice = (usbIn .absent .none).source ∧ (usbIn .qualifying .none).choice = (usbIn .qualifying .none).source ∧
      (usbIn .present .usb).choice = (usbIn .present .usb).source ∧
      (∀ st ∈ [InputState.absent, .qualifying, .present], ((usbIn st .none).input .usb).state = st ∧
        ((usbIn st .none).input .usb).qualify = some 0 ∧ ((usbIn st .none).input .usb).loss = some 0) ∧
      live.power.state ≠ .dormant ∧ State.reset.power.state = .dormant ∧ live.power.state = .run ∧
      1000000 ≤ ((1000000 : Stamp) - 0).toInt ∧ ((999999 : Stamp) - 0).toInt < 1000000 ∧
      (if (usbIn .present .usb).windowOpen then 200000 else 20000) ≤ ((20000 : Stamp) - 0).toInt ∧
      ((19999 : Stamp) - 0).toInt < (if (usbIn .present .usb).windowOpen then 200000 else 20000) ∧
      (usbIn .qualifying .none).state = .idle := by decide

/-- A change of source in each of its shapes, and the inputs in STANDBY and WAKING. -/
theorem witness_Inputs_changes :
    (∀ p ∈ [PowerState.shutting, .standby, .waking],
      let s : State := { power p with charge := usbIn .qualifying .none }
      s.charge.choice = s.charge.source ∧ s.power.state = p ∧ (s.charge.input .usb).state = .qualifying ∧
        (s.charge.input .aux).state = .absent ∧ s.power.key.state = .up) ∧
    (let s : State := { power .standby with
       charge := usbIn .qualifying .none, options := { ChargeOptions.default with autoOn := true } }
     s.power.state = .standby ∧ s.options.autoOn = true ∧ s.gauge.warning = false ∧ s.charge.source = .none) ∧
    (let best := fun c : Charge => if c.aux.state = .present then Source.aux else if c.usb.state = .present then .usb else .none
     let both : Charge := { usbIn .present .usb with aux := ⟨.present, none, none⟩ }
     best (usbIn .present .usb) = (usbIn .present .usb).source ∧ best (usbIn .present .none) ≠ .none ∧
       (usbIn .present .none).source = .none ∧ (usbIn .present .none).state = .idle ∧
       ({ usbIn .present .none with state := .noBattery } : Charge).state ≠ .idle ∧
       both.source ≠ .none ∧ best both ≠ .none ∧ best both ≠ both.source ∧ best (usbIn .absent .usb) = .none ∧
       (usbIn .absent .usb).source ≠ .none ∧ (usbIn .absent .usb).state ≠ .noBattery) := by decide

/-- R152: a change-over brings I_c down to 100 mA and ends the termination run. -/
theorem test_change_over :
    let c : Charge := { usbIn .present .usb with
      aux := ⟨.present, none, none⟩, state := .topoff, band := .normal, ic := 900, termination := some 5 }
    let d := c.select .default
    d.source = .aux ∧ d.ic = 100 ∧ d.termination = none ∧ d.state = .topoff := by decide

/-- The bounds of the two windows (R150): 4,400 and 6,200 mV for USB, 6,000 and 24,000 mV for AUX, both included. -/
theorem test_input_windows :
    inputCommands .usb 4399 4400 = [.inputEntersWindow .usb] ∧ inputCommands .usb 6200 6201 = [.inputLeavesWindow .usb] ∧
      inputCommands .aux 24001 24000 = [.inputEntersWindow .aux] ∧ inputCommands .aux 6000 5999 = [.inputLeavesWindow .aux] ∧
      inputCommands .usb 4400 6200 = [] ∧ inputCommands .aux 5999 24001 = [] := by decide

/-- R176: the supply warning is asserted below 3,000 mV and removed at 3,050 mV or above; in between it stays as it was. -/
theorem test_supply_levels :
    supplyCommands false 2999 = [.supplyWarningAssert] ∧ supplyCommands false 3000 = [] ∧ supplyCommands true 3049 = [] ∧
      supplyCommands true 3050 = [.supplyWarningRemove] ∧ supplyCommands true 2999 = [] ∧
      coldResetAt 5000 0 2999 = .coldReset true false true ∧ supplyResetAt 0 6000 3000 = .supplyReset false true false := by
  decide

theorem witness_Measurement :
    (let g : Gauge := { Gauge.reset with sourceSelected := true }
     g.next = none ∧ (1 : Stamp) ≠ 0 ∧ g.sourceSelected = true ∧ g.reserve = false) ∧
      (0 ≤ ((5 : Stamp) - 5).toInt ∧ ¬0 ≤ ((4 : Stamp) - 5).toInt) ∧ live.power.state = .run ∧
      (let g : Gauge := .reset
       g.sourceSelected = false ∧ g.reserve = false ∧ g.state = .unset) ∧
      ChargeOptions.default.cutoffVoltage ≤ ({ readings with vbat := 3200 } : Readings).vbat ∧
      (power .standby).power.state = .standby ∧ (power .standby).charge.source = .none ∧
      (let s : State := { power .run with gauge := { Gauge.reset with state := .anchored, q := 75000 } }
       let w := (s.gauge.takeReserve s.options).work s.options { readings with temperature := none } 0 false true
       w.1.state ≠ .unset ∧ w.1.q / (s.options.capacity : Int) ≤ s.options.reserve ∧
         (s.options.reserve : Int) < (75000000 : Int) / (s.options.capacity : Int)) ∧
      (let s : State := { power .standby with gauge := { Gauge.reset with state := .anchored, q := 0 } }
       let w := (s.gauge.takeReserve s.options).work s.options { readings with temperature := none } 0 false true
       w.1.state ≠ .unset ∧ w.1.q / (s.options.capacity : Int) = 0) := by decide

/-- Measurements outside RUN, and with the reserve asserted: charge left, a charge above the level and not above it. -/
theorem witness_Measurement_elsewhere :
    (∀ p ∈ [PowerState.standby, .shutting, .waking, .dormant], (power p).power.state ≠ .run ∧ (power p).gauge.reserve = false) ∧
      ¬({ readings with vbat := 3200 } : Readings).vbat < ChargeOptions.default.cutoffVoltage ∧
      (usbIn .present .usb).source ≠ .none ∧
      (let s : State := { power .standby with gauge := { Gauge.reset with state := .anchored, q := 75000, reserve := true } }
       let w := (s.gauge.takeReserve s.options).work s.options { readings with temperature := none } 0 false true
       let above := fun q : Int => (s.options.reserve : Int) + 20 < q / (s.options.capacity : Int)
       s.gauge.reserve = true ∧ w.1.state ≠ .unset ∧ ¬above w.1.q ∧ above 106500 ∧
         w.1.q / (s.options.capacity : Int) ≠ 0) := by decide

/-- Charging in a state, with the band and causes given; and readings at the ends of the clauses about them. -/
theorem witness_Measurement_charge :
    (∀ st ∈ [ChargeState.noBattery, .idle, .qualify, .precharge, .fast, .topoff, .full, .suspended, .fault],
      ({ Charge.reset with state := st } : Charge).state = st) ∧
    (let o := ChargeOptions.default
     let c : Charge := { Charge.reset with band := .normal, causes := ⟨true, true, true⟩, returnState := some .fast }
     c.returnState = some .fast ∧ (20 : Int) < o.t4 - 3 ∧ o.t1 + 3 ≤ 20 ∧ ¬(100 : Int) < 100 ∧ (100 : Int) < 101 ∧
       c.band ≠ .coldStop ∧ c.band ≠ .hotStop ∧ o.vreg + 150 < 4351 ∧ 4350 ≤ o.vreg + 150 ∧
       ({ c with prechargeTimer := o.prechargeMinutes * 60000000 } : Charge).prechargeTimer
         = o.prechargeMinutes * 60000000 ∧
       ¬o.totalMinutes * 60000000 ≤ c.totalTimer ∧ (o.terminationCurrent : Int) ≤ o.terminationCurrent ∧
       o.vreg ≤ 4180 + 20 ∧ (0 : Int) ≤ (c.inputLimit o : Int) ∧ c.sagThreshold o ≤ c.vin { readings with vinUsb := 4500 } ∧
       ((59999999 : Stamp) - 0).toInt < 60000000 ∧ 60000000 ≤ ((60000000 : Stamp) - 0).toInt) := by decide

theorem witness_SetInputLimit :
    (∀ n ∈ [99, 100, 149, 3000, 3001], (asked (.setInputLimit n) live).media.exch.nextRequest .charge
      = some ⟨0, .setInputLimit n, 5⟩) ∧
    (usbIn .present .usb).source = .usb ∧ ((usbIn .present .usb).usbLimit : Int) < 501 ∧
      (usbIn .present .usb).state ≠ .topoff := by decide

theorem witness_ClearChargeFault :
    (asked .clearChargeFault live).media.exch.nextRequest .charge = some ⟨0, .clearChargeFault, 5⟩ ∧
      ({ Charge.reset with state := .fault } : Charge).state = .fault ∧ live.charge.state ≠ .fault ∧
      (let c : Charge := { Charge.reset with state := .qualify }
       c.state = .qualify) ∧ readings.temperature.isSome = true ∧
      ChargeOptions.default.vreg + 150 < ({ readings with vbat := 4351 } : Readings).vbat ∧
      ({ readings with vbat := 2999 } : Readings).vbat < 3000 := by decide

theorem witness_GaugeCount :
    (0 : Int) ≤ 0 ∧ (3599 : Int).natAbs < 3600 ∧ (-3599 : Int).natAbs < 3600 ∧
      (let g : Gauge := { Gauge.reset with q := 1500000 }
       g.q + ((-5000 : Int) * ((1080001000 : Nat) / 1000 : Nat) + 0).tdiv 3600 < 0 ∧
         (ChargeOptions.default.capacity * 1000 : Nat) < g.q + ((5000 : Int) * ((7200001000 : Nat) / 1000 : Nat) + 0).tdiv 3600 ∧
         0 ≤ g.q + ((0 : Int) * ((0 : Nat) / 1000 : Nat) + 0).tdiv 3600 ∧
         g.q + ((0 : Int) * ((0 : Nat) / 1000 : Nat) + 0).tdiv 3600 ≤ (ChargeOptions.default.capacity * 1000 : Nat)) ∧
      (let o := ChargeOptions.default
       strictlyRising o.openCircuit = true ∧ o.openCircuit.length = 11 ∧ 3000 ≤ o.openCircuit.getD 0 0 ∧
         o.openCircuit.getD 10 0 ≤ 6000 ∧ o.openCircuit.getD 9 0 ≤ o.openCircuit.getD 9 0 ∧
         o.openCircuit.getD 9 0 < o.openCircuit.getD 10 0) ∧
      readings.temperature.isSome = true ∧ ({ readings with temperature := none } : Readings).temperature.isSome ≠ true ∧
      Gauge.reset.state = .unset ∧
      (let g : Gauge := { Gauge.reset with state := .estimated, lastStamp := some 0, q := 0 }
       ¬(g.state = .unset ∨ g.wasOpen = true) ∧ g.lastStamp = some 0 ∧ 0 ≤ g.q ∧
         ({ g with lastStamp := none } : Gauge).lastStamp = none) ∧
      ({ ChargeOptions.default with capacity := 200 } : ChargeOptions).capacity ≠ ChargeOptions.default.capacity := by
  decide

theorem witness_ReserveAndCutoff :
    (let g : Gauge := { Gauge.reset with state := .anchored, q := 75000 }
     g.state ≠ .unset ∧ g.q / (ChargeOptions.default.capacity : Int) ≤ g.reserveLevel ∧
       g.sourceSelected = false ∧ g.reserve = false ∧ ({ g with reserve := true } : Gauge).reserve = true) ∧
      live.power.state = .run ∧
      (({ readings with vbat := 3199 } : Readings).vbat < ChargeOptions.default.cutoffVoltage ∧
        live.gauge.sourceSelected = false ∧ readings.temperature.isSome = true) ∧
      ¬({ readings with vbat := 3200 } : Readings).vbat < ChargeOptions.default.cutoffVoltage ∧
      (∀ n < 3, ({ Gauge.reset with cutoffRun := n } : Gauge).cutoffRun = n) ∧
      ({ Writer.reset with state := .recording } : Writer).state = .recording ∧
      (let p : Power := { Power.reset with state := .shutting, closeTarget := some 5000000 }
       p.state = .shutting ∧ p.closeTarget = some 5000000) ∧ (power .waking).power.state = .waking := by decide

/-- R174: a turn-on at the reserve with no source issues RESERVE. -/
theorem test_reserve_at_turn_on :
    let s : State := { power .standby with gauge := { Gauge.reset with state := .anchored, q := 75000, reserveLevel := 50 } }
    let t := s.setPower .run
    t.gauge.reserve = true ∧ t.power.reserveHeld = true ∧ t.media.writer.reserveHeld = true := by decide

/-- The reserve issued, with a charge above its level plus 20 per mille and at it; a source selected and none. -/
theorem witness_ReserveAndCutoff_cleared :
    (let g : Gauge := { Gauge.reset with state := .anchored, q := 106500, reserve := true, reserveLevel := 50 }
     let above := fun g : Gauge => g.state ≠ .unset ∧
       (g.reserveLevel : Int) + 20 < g.q / (ChargeOptions.default.capacity : Int)
     g.reserve = true ∧ Gauge.reset.reserve = false ∧ above g ∧ ¬above { g with q := 106499 }) ∧
    (usbIn .present .usb).source ≠ .none ∧ live.charge.source = .none := by decide

/-- The rail cut with intake RUNNING, in a burst and between two, and READY; a change of power state on either path. -/
theorem witness_RailCut :
    (motionIn .running .burst).motion.state = .running ∧ (motionIn .running .burst).motion.activity = .burst ∧
      (motionIn .running .idle).motion.activity ≠ .burst ∧ (motionIn .ready .transfer).motion.state ≠ .running ∧
      Clock.reset.path = .slow ∧ ({ Clock.reset with path := .fast } : Clock).path = .fast ∧
      (power .dormant).power.state = .dormant ∧ Gauge.reset.next = none ∧
      ({ Gauge.reset with next := some 7 } : Gauge).next = some 7 := by decide

/-- R4, R179: DORMANT entered on the fast path records TO_SLOW; entered on the slow path it stops the oscillator at once. -/
theorem test_power_change_clock :
    ({ Clock.reset with path := .fast, mainOsc := true } : Clock).powerChange .dormant
        = { Clock.reset with path := .fast, mainOsc := true, handover := .toSlow } ∧
      ({ Clock.reset with handover := .toFast, mainOsc := true } : Clock).powerChange .dormant = Clock.reset ∧
      Clock.reset.powerChange .waking = { Clock.reset with handover := .toFast, mainOsc := true } := by decide

theorem witness_SupplyWarning :
    live.gauge.warning = false ∧ ({ Gauge.reset with warning := true } : Gauge).warning = true ∧ live.power.state = .run ∧
      (power .shutting).power.state = .shutting ∧ (power .standby).power.state = .standby ∧
      (power .dormant).power.state = .dormant ∧ (power .waking).power.state = .waking := by decide

theorem witness_PowerKey :
    (∀ k ∈ [KeyState.up, .pressing, .down, .releasing], (keyIn k none).state = k ∧ (keyIn k none).debouncing = true) ∧
      live.power.state = .run ∧ (power .standby).power.state = .standby ∧ State.reset.power.state = .dormant ∧
      State.reset.power.key.state = .up ∧ State.reset.power.key.debouncing = false ∧ State.reset.power.key.hold = none ∧
      (keyIn .down (some ⟨.turnOff, false⟩)).hold = some ⟨.turnOff, false⟩ ∧
      (keyIn .down (some ⟨.turnOn, false⟩)).hold = some ⟨.turnOn, false⟩ ∧
      (keyIn .releasing none).hold.all (fun h => !h.expired) = true ∧
      20000 ≤ ((20000 : Stamp) - 0).toInt ∧ ¬20000 ≤ ((19999 : Stamp) - 0).toInt ∧
      6000000 ≤ ((6000000 : Stamp) - 0).toInt ∧ 1000000 ≤ ((1000000 : Stamp) - 0).toInt ∧
      (power .standby).power.cutoffLock = false ∧ (power .standby).gauge.warning = false ∧
      ({ Power.reset with cutoffLock := true } : Power).cutoffLock = true := by decide

theorem witness_PowerKey_elsewhere :
    (∀ p ∈ [PowerState.run, .waking, .standby, .shutting, .dormant], (power p).power.state = p ∧ (power p).charge.usb.state = .absent ∧
      (power p).charge.aux.state = .absent) ∧ (usbIn .qualifying .none).usb.state ≠ .absent ∧
      (keyIn .long none).state = .long ∧ (keyIn .long none).debouncing = true ∧
      (let h : Hold := ⟨.turnOn, false⟩
       (keyIn .releasing (some h)).state = .releasing ∧ (keyIn .releasing (some h)).hold = some h ∧ h.expired = false ∧
         (h.kind.micros : Int) ≤ ((1000000 : Stamp) - 0).toInt) := by decide

/-- A release debounce that runs after its hold has expired, and debounces in DORMANT. -/
theorem witness_PowerKey_expired :
    (∀ h ∈ [HoldKind.turnOff, .turnOn], (keyIn .releasing (some ⟨h, true⟩)).hold = some ⟨h, true⟩ ∧
      (keyIn .releasing (some ⟨h, true⟩)).state = .releasing) ∧
    (∀ k ∈ [KeyState.long, .releasing, .pressing], (keyIn k none).state = k ∧ (keyIn k none).debouncing = true) ∧
    (power .dormant).power.state = .dormant := by decide

theorem witness_Shutdown :
    (asked .shutdown live).media.exch.nextRequest .power = some ⟨0, .shutdown, 5⟩ ∧ live.power.state = .run ∧
      (power .standby).power.state ≠ .run ∧ ({ Writer.reset with state := .recording } : Writer).state = .recording ∧
      live.media.writer.state = .unmounted ∧
      (let p : Power := { Power.reset with state := .shutting, closeTarget := some 5000000 }
       p.closeTarget = some 5000000 ∧ p.state = .shutting) ∧
      0 ≤ ((5000000 : Stamp) - 5000000).toInt ∧ ((4999999 : Stamp) - 5000000).toInt < 0 := by decide

/-- SHUTTING with the writer's report and without. -/
theorem witness_Shutdown_report :
    (power .shutting).power.state = .shutting ∧ (power .shutting).settleMedia.media.writer.idleReport = false ∧
      (withWriter { Writer.reset with idleReport := true } (power .shutting)).settleMedia.media.writer.idleReport = true := by
  decide

theorem witness_StoreOptions :
    (asked .storeChargeOptions live).media.exch.nextRequest .power = some ⟨0, .storeChargeOptions, 5⟩ ∧
      live.power.storing = none ∧ live.gauge.warning = false ∧
      (let p : Power := { Power.reset with storing := some ⟨[], some 0⟩ }
       p.storing = some ⟨[], some 0⟩ ∧ p.storing ≠ none) := by decide

/-- The default options; and options at the ends of their ranges. -/
theorem witness_StoredBlockReadsBack :
    Safety.OptionsInRange .default ∧
      Safety.OptionsInRange
        ⟨4400, 100, 500, 20, 120, 60, -20, -19, 79, 80, 3000, 100, 20000, 5000, 3600, 3600, 300,
          [0, 1, 2, 3, 4, 5, 6, 7, 8, 9, 65535], true, true⟩ := by
  simp [Safety.OptionsInRange, ChargeOptions.default, strictlyRising]

theorem witness_VolumeRecordsReadBack :
    Safety.Writable { clipWith 16 (protectedBy true) true with number := 4294967295, segments := 65535, drops := 4294967295 } ∧
      Safety.Writable (closed .none) ∧ (16384 : Nat) = 16384 ∧ (16 : Nat) ≤ 16 ∧ (1024 : Nat) ≤ 1024 := by
  simp [Safety.Writable, clipWith, closed, newClip]

/-- Card records at the ends of their ranges, a walk and a scan with each kind of chunk to judge. -/
theorem witness_VolumeRecordsReadBack_mount :
    (∀ l : Nat, (⟨.filling, some 1023⟩ : MapEntry).link = some l → l < 1024) ∧
      1047 + (32 + 1048032 - 1047 * 512 + 511) / 512 ≤ 2048 ∧ 1048032 ≤ min 1048576 ((2048 - 1) * 512 - 32) ∧
      (tablesOf (clipWith 0 .none false)).clipAt 0 = some (clipWith 0 .none false) ∧
      (tablesOf (clipWith 0 .none false)).geometry.segmentCount ≤ (tablesOf (clipWith 0 .none false)).map.length ∧
      (let s : Scan := (tablesOf (clipWith 0 .none false)).startScan 0 (clipWith 0 .none false)
       s.atFirst = true ∧ s.firstSeq = 0 ∧ s.lastHost = none ∧
         ({ s with atFirst := false, lastHost := some 0 } : Scan).atFirst = false) ∧
      ((tablesOf (closed .none)).present.all fun c => decide (c.number < 4294967295)) = true := by
  refine ⟨?_, ?_⟩
  · intro l h
    simp at h
    omega
  · decide +kernel

/-- spec/12 section 12.10 and R91: a chunk written is one sector, its CRC at byte 28, its payload from byte 32; the scan reads it and its
check, and a byte changed fails the check. -/
theorem test_chunk_image :
    let image := chunkImage .audio false 7 9 [1, 2, 3]
    image.length = 512 ∧ slice image 32 3 = [1, 2, 3] ∧ slice image 24 4 = [0, 0, 0, 0] ∧
      parseChunkHeader image 2048 2047 = some ⟨false, 7, 3, 9⟩ ∧ chunkCrcOk image 3 = true ∧
      chunkCrcOk (image.set 32 0) 3 = false := by decide +kernel

/-- spec/12 section 12.10: map entries and the second entry of a directory sector at their places. -/
theorem test_zone_sectors :
    let t : Tables := { emptyTables with
      dir := emptyTables.dir.set 1 (some (newClip 7 0)), map := emptyTables.map.set 129 ⟨.retiring, some 258⟩ }
    slice (zoneSector t 130) 4 4 = [3, 0, 2, 1] ∧ slice (zoneSector t 1) 256 8 = [0, 0, 1, 0, 7, 0, 0, 0] ∧
      (newClip 7 0).markers.length ≤ 16 := by decide +kernel

/-- spec/12 section 12.10: a segment header names its clip, and no other ordinal. -/
theorem test_segment_header :
    segmentNames (segmentHeaderSector 5 1 2 9) 5 1 2 = true ∧ segmentNames (segmentHeaderSector 5 1 2 9) 5 0 2 = false := by
  decide +kernel

/-- A period expiry still owed, with and without a pickup in progress. -/
theorem witness_PickupsStartStop_owed :
    (let e : Exchange := { running with periodOwed := true }
     e.state = .running ∧ e.periodOwed = true ∧ e.pickup = none ∧
       ({ e with pickup := some ⟨0, .requests, false⟩ } : Exchange).pickup = some ⟨0, .requests, false⟩) ∧
      running.periodOwed = false ∧ running.periodWait = none := by decide

theorem witness_PickupsStartStop :
    (let e : Exchange := .reset
     e.state = .stopped ∧ e.baseLo = 0 ∧ e.baseHi = 0 ∧ e.pickup = none ∧
       (({ e with baseLo := 0x1000#32 } : Exchange).baseLo ≠ 0 ∨ e.baseHi ≠ 0)) ∧
      live.power.state = .run ∧ live.media.writer.mounted = false ∧ live.media.exch.state ≠ .stopped ∧
      ¬(State.reset.power.state = .run ∨ State.reset.power.state = .shutting) ∧
      (let e : Exchange := { running with periodWait := some ⟨0, 5000⟩, pickup := some ⟨0, .requests, false⟩ }
       e.periodWait = some ⟨0, 5000⟩ ∧ e.state = .running ∧ e.pickup = some ⟨0, .requests, false⟩) ∧
      running.pickup = none ∧ ((5000 : Nat) : Int) ≤ ((5000 : Stamp) - 0).toInt ∧
      ¬((5000 : Nat) : Int) ≤ ((4999 : Stamp) - 0).toInt := by decide

theorem witness_PickupsStartStop_mounted :
    let w := mountedWith .idle (closed .none)
    w.mounted = true ∧ w.tables = some (tablesOf (closed .none)) ∧ live.power.state = .run ∧ Exchange.reset.state = .stopped ∧
      ({ Exchange.reset with baseLo := 0x1000#32 } : Exchange).baseLo ≠ 0 ∧ Exchange.reset.pickup = none :=
  ⟨rfl, rfl, rfl, rfl, by decide, rfl⟩

theorem witness_RegisterWrites :
    (live.power.state = .run ∨ live.power.state = .shutting) ∧ live.media.exch.state = .running ∧
      Exchange.reset.state ≠ .running ∧ ¬(State.reset.power.state = .run ∨ State.reset.power.state = .shutting) ∧ 10 < 11 := by
  decide

/-- spec/12 section 12.2: CONTROL reads back RUN, the period code and the enables; the attention line follows an enabled flag. -/
theorem test_registers :
    let e : Exchange := { running with period := 20, enables := 0x400, attn := 0x400 }
    e.readRegister 0x04 = 0x40029#32 ∧ e.readRegister 0x08 = 0x400 ∧ e.readRegister 0x0C = 0x10000 ∧
      e.readRegister 0x14 = 0 ∧ 0x14 ∉ [0x00, 0x04, 0x08, 0x0C, 0x10] ∧
      (withExch e (power .run)).attentionLine = true ∧ (withExch e (power .standby)).attentionLine = false := by decide

/-- A board read in flight of a pickup that was stopped, with a new start since and without; a slot whose very edition is held. -/
theorem witness_BoardsStopped :
    let e : Exchange := { Exchange.reset with pickup := some ⟨7, .requests, true⟩ }
    (∀ p ∈ [Purpose.requestBoard, .chunkBoard], ∀ x ∈ [e, { e with state := .running, pickupHeld := true }],
      let s := carrying p (withExch x live)
      (s.media.exch.transferAt 0).map Transfer.purpose = some p ∧ s.media.exch.pickup = some ⟨7, .requests, true⟩) ∧
    e.state ≠ .running ∧ (withWriter { Writer.reset with held := [⟨0, 1, 0⟩] } live).media.heldEdition 0 = some 1 ∧
    editionAt (fields 32 [(0, 1), (30, 1)]) 0 = 1 := by decide

theorem witness_RequestBoard :
    let s := carrying .requestBoard (withExch { running with pickup := some ⟨0, .requests, false⟩ } live)
    let board := fields 512 [(0, 1), (62, 1), (2, 3)]
    let bs := slice board 0 64
    (s.media.exch.transferAt 0).map Transfer.purpose = some .requestBoard ∧ s.media.exch.pickup = some ⟨0, .requests, false⟩ ∧
      editionAt bs 0 = editionAt bs 62 ∧ editionAt bs 0 ≠ 0 ∧ editionAt bs 0 ≠ s.media.exch.requestTaken.getD 0 0 ∧
      s.media.exch.working.getD 0 none = none ∧ parseRequest bs = .request .stopMotion ∧
      (asked .stopMotion s).media.exch.working.getD 0 none = some ⟨1, 3⟩ ∧ (⟨2, 3⟩ : Working).edition ≠ editionAt bs 0 ∧
      editionAt (fields 64 [(0, 1)]) 0 ≠ editionAt (fields 64 [(0, 1)]) 62 ∧ editionAt (fields 64 []) 0 = 0 ∧
      (asked (.unknown 17) live).media.exch.nextRequest .exchange = some ⟨0, .unknown 17, 5⟩ := by decide +kernel

/-- A choice that names neither value, and a slot that offers again the edition being worked. -/
theorem witness_RequestBoard_choice :
    let bs := fields 64 [(0, 1), (62, 1), (2, 9), (4, 2)]
    parseRequest bs = .badChoice ∧ editionAt bs 0 = editionAt bs 62 ∧ editionAt bs 0 ≠ 0 ∧
      live.media.exch.working.getD 0 none = none ∧ editionAt bs 0 ≠ live.media.exch.requestTaken.getD 0 0 ∧
      (asked .stopMotion live).media.exch.working.getD 0 none = some ⟨1, 3⟩ ∧ (⟨1, 3⟩ : Working).edition = editionAt bs 0 := by
  decide

/-- R197: READ_BACK of clip 258, offset 512, length 1,024, buffer 1000h. -/
theorem test_read_back_request :
    parseRequest (fields 64 [(2, 12), (4, 2), (5, 1), (9, 2), (17, 4), (25, 0x10)]) = .request (.readBack 258 512 1024 4096) := by
  decide

theorem witness_ChunkBoard :
    let s := carrying .chunkBoard (withExch { running with pickup := some ⟨0, .chunks, false⟩ } live)
    let bs := slice (fields 768 [(0, 1), (30, 1), (2, 1), (8, 1)]) 0 32
    (s.media.exch.transferAt 0).map Transfer.purpose = some .chunkBoard ∧ s.media.exch.pickup = some ⟨0, .chunks, false⟩ ∧
      editionAt bs 0 = editionAt bs 30 ∧ editionAt bs 0 ≠ 0 ∧ editionAt bs 0 ≠ s.media.exch.chunkTaken.getD 0 0 ∧
      s.media.heldEdition 0 = none ∧ s.media.writer.state ≠ .recording ∧
      (withWriter { Writer.reset with held := [⟨0, 2, 0⟩] } live).media.heldEdition 0 = some 2 ∧ (2 : Edition) ≠ editionAt bs 0 ∧
      editionAt (fields 32 [(0, 1)]) 0 ≠ editionAt (fields 32 [(0, 1)]) 30 ∧ editionAt (fields 32 []) 0 = 0 := by
  decide +kernel

/-- A writer in RECORDING that expects sequence 4, with chunk 6 parked and a last sequence of 4 to stop after. -/
def awaiting : Writer :=
  { holding with
    expected := 4, keyWait := true, parked := [{ hostChunk with seq := 6 }], stopPending := some 4
    limits := ⟨10, 4, 5⟩ }

theorem witness_ChunkBoard_admission :
    let w := awaiting
    let d := tablesOf (clipWith 0 .none false)
    (⟨1, 1, 0⟩ : HeldSlot) ∉ w.held ∧ (w.mounted = true → w.tables ≠ none) ∧ w.mounted = true ∧ w.tables = some d ∧
      d.openIndex = some 0 ∧ d.clipAt 0 = some (clipWith 0 .none false) ∧
      (∀ n ∈ [0, 1048033], n = 0 ∨ min 1048576 ((d.geometry.segmentSize - 1) * 512 - 32) < n) ∧
      ¬min 1048576 ((d.geometry.segmentSize - 1) * 512 - 32) < 1048032 ∧
      w.state = .recording ∧ 3 < w.expected ∧ 4 = w.expected ∧ w.expected < 5 ∧ (∃ c ∈ w.parked, c.seq = 6) ∧
      ¬(∃ c ∈ w.parked, c.seq = 5) ∧ w.parked.length = 1 ∧
      (w.keyWait = true ∧ hostChunk.kind = .video ∧ ({ hostChunk with key := false } : Chunk).key = false) ∧
      ¬(w.keyWait = true ∧ hostChunk.kind = .video ∧ hostChunk.key = false) ∧
      ((w.limits.clipSeconds : Nat) : Int) * 1000000 ≤ ((10000000 : Stamp) - w.admissionStart).toInt ∧
      ¬((w.limits.clipSeconds : Nat) : Int) * 1000000 ≤ ((9999999 : Stamp) - w.admissionStart).toInt ∧
      w.held.contains ⟨0, 1, hostChunk.seq⟩ = true ∧ hostChunk.source = .slot 0 1 0 ∧
      w.stopPending = some 4 ∧ w.expected ≤ 4 ∧ 4 < ({ w with expected := 5 } : Writer).expected ∧
      w.parked = { hostChunk with seq := 6 } :: [] ∧ ({ hostChunk with seq := 6 } : Chunk).seq ≠ w.expected ∧
      ({ hostChunk with seq := 6 } : Chunk).seq = ({ w with expected := 6 } : Writer).expected ∧ w.gapFresh = false ∧
      w.gapCount + 1 < w.limits.gapWait ∧ w.limits.gapWait ≤ ({ w with gapCount := 3 } : Writer).gapCount + 1 ∧
      w.expected < 6 := by decide +kernel

theorem witness_RecordWrites :
    (∀ part ∈ [RecordPart.head, .body, .tail], ∀ k ∈ [RecordKind.answer 0, .receipt 0, .correction 0, .mirror 0 true,
        .mirror 0 false, .report],
      let r : Record := ⟨k, 0, [], [], 0⟩
      ((carrying (.record r part) live).media.exch.transferAt 0).map Transfer.purpose = some (.record r part)) ∧
    live.media.exch.state = .running ∧ (power .run).media.exch.state ≠ .running ∧
    (let e : Exchange := { running with pickup := some ⟨0, .report, true⟩ }
     e.pickup = some ⟨0, .report, true⟩ ∧ (⟨0, .report, true⟩ : Pickup).ending = true ∧
       ({ e with pickup := some ⟨0, .report, false⟩ } : Exchange).pickup ≠ some ⟨0, .report, true⟩) ∧
    (let x : Transfer := ⟨.record ⟨.mirror 1 true, 0, [], [], 0⟩ .head, 0, none, 0, 0⟩
     x.purpose = .record ⟨.mirror 1 true, 0, [], [], 0⟩ .head ∧ 1 / 2 = 0 / 2) := by decide

/-- A receipt whose head is in flight over a stop and a new start goes on with its body, and a report page does not (log 77). -/
theorem test_record_over_restart :
    let after := fun k : RecordKind =>
      let begun := (carrying (.record ⟨k, 0, [], [], 0⟩ .head) live).modExch fun e =>
        (({ e with pickup := some ⟨0, .report, false⟩ } : Exchange).stop).start 0
      match exec (.recordWriteComplete 0) begun with
      | .next t => t.media.exch.transfers.map Transfer.purpose
      | _ => []
    after (.receipt 0) = [.record ⟨.receipt 0, 0, [], [], 0⟩ .body] ∧ after .report = [.requestBoard] := by decide

theorem witness_AnswerWritten :
    live.media.exch.working.getD 0 none = none ∧ (asked .shutdown live).media.exch.working.getD 0 none = some ⟨1, 16⟩ ∧
      live.media.exch.state = .running ∧ (power .run).media.exch.state ≠ .running ∧ (255 : Nat) < 256 ∧
      (Answer.done.withData (List.replicate 54 0)).data.length ≤ 54 := by decide

/-- A receipt of the largest sequence, and an entry of 16 bands with values at the ends of 16 bits. -/
theorem witness_AnswerWritten_records :
    (⟨0, 1, 4294967295⟩ : HeldSlot).seq < 4294967296 ∧
      (let b : Band := ⟨-32768, 32767, 0, true, false, true⟩
       let bands := List.replicate 16 b
       bands.length ≤ 16 ∧ bands[15]? = some b ∧ -32768 ≤ b.x ∧ b.x < 32768 ∧ -32768 ≤ b.y ∧ b.y < 32768) ∧ 251 < 252 := by decide

/-- The report page's hypotheses, and each of its items with a value and without. -/
theorem witness_AnswerWritten_page :
    live.incident.list.length ≤ 8 ∧ live.options.openCircuit.length = 11 ∧
      ({ Incident.reset with list := List.replicate 8 entry } : Incident).list[7]? = some entry ∧
      live.media.writer.mounted = false ∧ holding.mounted = true ∧
      holding.tables = some (tablesOf (clipWith 0 .none false)) ∧ (⟨3, false, false, []⟩ : VolumeFlight).sector ∉ holding.updates ∧
      holding.wip = none ∧ holding.stopPending = none ∧ awaiting.stopPending = some 4 ∧ holding.readBack = none ∧
      live.charge.returnState = none ∧ live.gauge.last = none ∧
      ({ Gauge.reset with last := some ⟨readings, 0⟩ } : Gauge).last = some ⟨readings, 0⟩ ∧
      ({ recordOf with bands := List.replicate 16 ⟨-32768, 32767, 0, true, false, true⟩ } : MotionRecord).bands.length ≤ 16 ∧
      [recordOf].length < 4294967296 ∧ [recordOf][0]? = some recordOf := by decide +kernel

/-- spec/12 section 12.10: the pickup stamp at byte 8, the torn total at 16 and the power state at 632 of the report page. -/
theorem test_report_page :
    let s := withExch { running with torn := 258 } (power .shutting)
    let page := (s.reportRecord 0x0504).head ++ (s.reportRecord 0x0504).body
    slice page 8 10 = [4, 5, 0, 0, 0, 0, 0, 0, 2, 1] ∧ byteAt page 632 = 1 ∧ page.length = 1022 := by decide +kernel

/-- spec/12 section 12.10: a receipt and the head of a correction entry byte by byte. -/
theorem test_record_bytes :
    (receiptRecord ⟨3, 2, 258⟩ .skipped).body = [5, 0, 2, 1, 0, 0, 0, 0, 0, 0, 0, 0] ∧
      (correctionRecord 9 { EntryFlags.clear with missed := true, paramsHeld := true } 7 [⟨-1, 256, 0, false, true, false⟩]).body
        = [2, 8, 1, 0, 7, 0, 0, 0, 0, 0, 0, 0, 0xFF, 0xFF, 0, 1, 0, 0, 2, 0] := by decide

theorem witness_LinkFailures :
    (∀ p ∈ [Purpose.requestBoard, .payload true, .payload false, .readBackWrite true, .readBackWrite false],
      (carrying p live).media.exch.transferAt 0 = some ⟨p, 0, none, 0, 0⟩) ∧
    live.media.exch.state = .running ∧ Purpose.requestBoard.inArea = true ∧ 50000 ≤ ((50000 : Stamp) - 0).toInt ∧
    ¬50000 ≤ ((49999 : Stamp) - 0).toInt ∧ (power .run).media.exch.state ≠ .running ∧
    (let p : WriteInProgress := ⟨hostChunk, .fetching, false, none, []⟩
     ({ holding with wip := some p } : Writer).wip = some p ∧ p.stage = .fetching ∧ p.chunk.source = .slot 0 1 0 ∧
       holding.held.contains ⟨0, 1, p.chunk.seq⟩ = true ∧ holding.mounted = true) ∧
    (let r : ReadBack := ⟨0, 1, 0, 4096, 0, 0, 8, .writing⟩
     ({ holding with readBack := some r } : Writer).readBack = some r ∧ r.stage = .writing) := by decide

/-- Transfers of the exchange area that are in flight after RUN 0, and a pickup that ends with its notice. -/
theorem witness_LinkFailures_stopped :
    let stopped := fun p : Purpose => carrying p (withExch { Exchange.reset with pickup := some ⟨7, .chunks, true⟩ } live)
    (∀ p ∈ [Purpose.chunkBoard, .requestBoard, .sheet true, .sheet false, .profileSection 0 1, .payload false,
        .record (receiptRecord ⟨0, 1, hostChunk.seq⟩ .written) .head, .record (answerRecord 0 1 3 .done) .body],
      (stopped p).media.exch.transferAt 0 = some ⟨p, 0, none, 0, 0⟩ ∧ (stopped p).media.exch.state ≠ .running ∧
        (stopped p).media.exch.pickup = some ⟨7, .chunks, true⟩) ∧
    Purpose.chunkBoard.inArea = true ∧ (receiptRecord ⟨0, 1, hostChunk.seq⟩ .written).kind = .receipt 0 ∧
      (answerRecord 0 1 3 .done).kind = .answer 0 ∧
    (carrying .chunkBoard (withExch Exchange.reset live)).media.exch.pickup = none := by decide

/-- A fault with a chunk queued, one being fetched and a read-back being copied, and with a sheet read in flight. -/
theorem witness_LinkFailures_fault :
    (power .run).media.exch.state ≠ .running ∧
    (let w : Writer := { holding with
       queue := [hostChunk], wip := some ⟨hostChunk, .fetching, false, none, []⟩
       readBack := some ⟨0, 1, 0, 4096, 0, 0, 8, .writing⟩ }
     w.openIndex = some 0 ∧ w.tables.isSome = true ∧ hostCount w.queue = 1 ∧ Writer.reset.openIndex = none) ∧
    (let y : Steady := { Steady.reset with frames := [⟨1, 5⟩], headStage := .reading }
     y.headStage = .reading ∧ y.frames = [⟨1, 5⟩] ∧
       (HeadFigures.of 5 y.heldSheet true false).ready live.orientation live.clock.count = false) ∧
    (carrying (.sheet true) live).media.exch.transfers = [⟨.sheet true, 0, none, 0, 0⟩] := by decide

/-- Every invariant holds in the state after reset, so each statement about a step has a state to start from. -/
theorem witness_invariants :
    Safety.ClockInRange State.reset ∧ Safety.GaugeInRange State.reset ∧ Safety.ChargeWithinCaps State.reset ∧
      Safety.LinkDownWithRail State.reset := by
  unfold Safety.ClockInRange Safety.GaugeInRange Safety.ChargeWithinCaps Safety.LinkDownWithRail
  decide

theorem witness_OrientationInRange : Safety.OrientationInRange State.reset := by
  simp [Safety.OrientationInRange, Safety.OnAxes, Safety.AngleInRange, Safety.BiasInRange, State.reset, Integrator.reset,
    MotionPort.reset, Axes.const]

end Sys2Proof.Tests
end

section
/-! PROOFS. Lookups in the history (R42, R43): a lookup passes every entry at or before its time, and the last of them decides the
answer together with the entry that follows it. -/

namespace Sys2Proof.Machine

/-! ### Angles -/

theorem wrapAngle_of_inRange {x : Int} (h : Safety.AngleInRange x) : wrapAngle x = x := by
  obtain ⟨hlo, hhi⟩ := h
  rw [wrapAngle, if_neg (by omega), if_neg (by omega)]

theorem angleSum_zero_of_inRange {x : Int} (h : Safety.AngleInRange x) : angleSum x 0 = x := by
  rw [angleSum, Int.add_zero, wrapAngle_of_inRange h]

/-- R42: with no time elapsed since `a`, no share of the step to `b` is taken. -/
theorem interpolate_at_stamp (a b : HistoryEntry) {x : Int} (y : Int) (h : Safety.AngleInRange x) :
    interpolate a b a.stamp x y = x := by
  have elapsed : stampDiff a.stamp a.stamp = 0 := by simp [stampDiff]
  rw [interpolate, elapsed, Int.mul_zero, truncDiv, Int.zero_tdiv, angleSum_zero_of_inRange h]

theorem interpolate_axes_at_stamp (a b : HistoryEntry) (h : Safety.OnAxes Safety.AngleInRange a.theta) :
    a.theta.map₂ (interpolate a b a.stamp) b.theta = a.theta := by
  obtain ⟨hyaw, hpitch, hroll⟩ := h
  simp only [Axes.map₂, interpolate_at_stamp a b _ hyaw, interpolate_at_stamp a b _ hpitch,
    interpolate_at_stamp a b _ hroll]

/-! ### The search through the history -/

section
variable {t : Stamp}

/-- R43: a time before the oldest stamp. -/
theorem lookup_before_oldest {a : HistoryEntry} (rest : List HistoryEntry) (h : 0 < (a.stamp - t).toInt) :
    lookup (a :: rest) t = a.answer true false := by
  rw [lookup, if_pos ((stampLater_iff _ _).2 h)]

theorem lookup_cons_of_reached {a : HistoryEntry} (rest : List HistoryEntry) (h : (a.stamp - t).toInt ≤ 0) :
    lookup (a :: rest) t = lookupFrom t a rest := by
  simp [lookup, (not_stampLater_iff _ _).2 h]

theorem lookupFrom_cons_of_reached (a : HistoryEntry) {b : HistoryEntry} (rest : List HistoryEntry)
    (h : (b.stamp - t).toInt ≤ 0) : lookupFrom t a (b :: rest) = lookupFrom t b rest := by
  simp [lookupFrom, (not_stampLater_iff _ _).2 h]

/-- R42: a time before the next entry. -/
theorem lookupFrom_cons_of_later (a : HistoryEntry) {b : HistoryEntry} (rest : List HistoryEntry)
    (h : 0 < (b.stamp - t).toInt) :
    lookupFrom t a (b :: rest) = { b.answer false false with theta := a.theta.map₂ (interpolate a b t) b.theta } := by
  rw [lookupFrom, if_pos ((stampLater_iff _ _).2 h)]

/-- The search from `first` passes the entries at or before `t`. -/
theorem lookupFrom_append_of_reached (first : HistoryEntry) (older : List HistoryEntry) (a : HistoryEntry)
    (rest : List HistoryEntry) (h : ∀ e ∈ older ++ [a], (e.stamp - t).toInt ≤ 0) :
    lookupFrom t first (older ++ a :: rest) = lookupFrom t a rest := by
  induction older generalizing first with
  | nil => exact lookupFrom_cons_of_reached first rest (h a (by simp))
  | cons e older ih =>
    calc lookupFrom t first (e :: older ++ a :: rest)
        = lookupFrom t e (older ++ a :: rest) := lookupFrom_cons_of_reached first _ (h e (by simp))
      _ = lookupFrom t a rest := ih e fun x hx => h x (List.mem_cons_of_mem e hx)

/-- A lookup comes to the last of the entries at or before `t` that open the history. -/
theorem lookup_append_of_reached (older : List HistoryEntry) (a : HistoryEntry) (rest : List HistoryEntry)
    (h : ∀ e ∈ older ++ [a], (e.stamp - t).toInt ≤ 0) : lookup (older ++ a :: rest) t = lookupFrom t a rest := by
  cases older with
  | nil => exact lookup_cons_of_reached rest (h a (by simp))
  | cons first older =>
    calc lookup (first :: older ++ a :: rest) t
        = lookupFrom t first (older ++ a :: rest) := lookup_cons_of_reached _ (h first (by simp))
      _ = lookupFrom t a rest :=
          lookupFrom_append_of_reached first older a rest fun x hx => h x (List.mem_cons_of_mem first hx)

/-- R43: a time at or after the newest stamp. -/
theorem lookup_from_newest (older : List HistoryEntry) (a : HistoryEntry)
    (h : ∀ e ∈ older ++ [a], (e.stamp - t).toInt ≤ 0) : lookup (older ++ [a]) t = a.answer false true :=
  lookup_append_of_reached older a [] h

/-- R42: a time from the stamp of `a` to before that of `b`. -/
theorem lookup_between (older later : List HistoryEntry) (a : HistoryEntry) {b : HistoryEntry}
    (h : ∀ e ∈ older ++ [a], (e.stamp - t).toInt ≤ 0) (hb : 0 < (b.stamp - t).toInt) :
    lookup (older ++ a :: b :: later) t =
      { b.answer false false with theta := a.theta.map₂ (interpolate a b t) b.theta } := by
  rw [lookup_append_of_reached older a (b :: later) h, lookupFrom_cons_of_later a later hb]

end

end Sys2Proof.Machine

namespace Sys2Proof.Proofs

open Sys2Proof.Machine

/-- Settles O19: the four places a time can have against the history, and the interpolation at a stamp. -/
theorem lookup : Obligations.Lookup := by
  intro t
  refine ⟨rfl, fun a rest h => lookup_before_oldest rest h, fun older a h => lookup_from_newest older a h, ?_⟩
  intro older later a b h hb
  have answer := lookup_between older later a h hb
  refine ⟨answer, ?_⟩
  rintro rfl inRange
  rw [answer]
  exact interpolate_axes_at_stamp a b inRange

end Sys2Proof.Proofs
end

section
/-! PROOFS. Requests to the Charge Controller (R160, R165): how an owner's oldest request acts, the limit taken and the
back-off of the steps under it, and the FAULT that a cleared fault comes back to. -/

namespace Sys2Proof.Machine

/-! ### An owner's oldest request -/

/-- R197: the oldest request, when it is of the kind wanted, acts on the state that the taking leaves. -/
theorem State.onRequest_of_next {α : Type} {s : State} {o : Owner} {want : Request → Option α} {h : Handed} {a : α}
    (act : State → Handed → α → State) (next : s.media.exch.nextRequest o = some h) (wanted : want h.request = some a) :
    s.onRequest o want act = act (s.modExch fun e => e.requestTakenBy o) h a := by
  simp only [State.onRequest, next, wanted]

theorem exec_setInputLimit (s : State) :
    exec .setInputLimit s = .next (s.onRequest .charge Request.asInputLimit State.takeInputLimit) := rfl

theorem exec_clearChargeFault (s : State) :
    exec .clearChargeFault s = .next (s.onRequest .charge Request.asClearFault State.takeClearFault) := rfl

/-! ### The input limit and the steps under it (R164, R165) -/

/-- The limit keeps to its range because both ends of it are multiples of 50. -/
theorem inputLimitValue_bounds (milliamps : Nat) :
    100 ≤ inputLimitValue milliamps ∧ inputLimitValue milliamps ≤ 3000 ∧ inputLimitValue milliamps % 50 = 0 := by
  have range := clampNat_bounds (lo := 100) (hi := 3000) (by decide) milliamps
  unfold inputLimitValue
  omega

theorem Answer.doneClamped_bne (a b : Nat) : Answer.doneClamped (a != b) = { Answer.done with clamped := decide (a ≠ b) } := by
  simp [Answer.doneClamped, bne, Bool.beq_eq_decide_eq]

/-- USB is strained by a current above its limit. -/
theorem Charge.strained_of_usb {c : Charge} (o : ChargeOptions) {r : Readings} (usb : c.source = .usb)
    (above : (c.usbLimit : Int) < r.inputCurrent) : c.strained o r = true := by
  simp [Charge.strained, Charge.inputLimit, usb, above]

/-- The back-off, before the top-off trim. -/
theorem Charge.steppedCurrent_of_strained {c : Charge} {o : ChargeOptions} {r : Readings} (strained : c.strained o r = true) :
    c.steppedCurrent o r =
      if c.state = .topoff ∧ effectiveVreg o c.band < r.vbat then c.ic - 100 - 50 else c.ic - 100 := by
  simp [Charge.steppedCurrent, strained]

theorem Charge.step_ic (c : Charge) (o : ChargeOptions) (r : Readings) :
    (c.step o r).ic = min (c.steppedCurrent o r) c.cap := rfl

theorem Charge.step_ic_le_of_strained {c : Charge} {o : ChargeOptions} {r : Readings} (strained : c.strained o r = true) :
    (c.step o r).ic ≤ c.ic - 100 := by
  rw [Charge.step_ic, Charge.steppedCurrent_of_strained strained]
  split <;> omega

/-- Outside TOPOFF there is no trim. -/
theorem Charge.step_ic_of_strained {c : Charge} {o : ChargeOptions} {r : Readings} (strained : c.strained o r = true)
    (outside : c.state ≠ .topoff) : (c.step o r).ic = min (c.ic - 100) c.cap := by
  rw [Charge.step_ic, Charge.steppedCurrent_of_strained strained, if_neg fun trimmed => outside trimmed.1]

/-! ### CLEAR_CHARGE_FAULT (R155, R160) -/

/-- QUALIFY gives no cap, in every band and whether recording or not. -/
theorem Charge.formCap_of_qualify {c : Charge} (o : ChargeOptions) (h : c.state = .qualify) : c.formCap o = 0 := by
  have banded : bandCap c.band 0 = 0 := by cases c.band <;> rfl
  simp [Charge.formCap, stateCap, h, banded]

theorem Charge.clearFault_of_fault {c : Charge} (o : ChargeOptions) (h : c.state = .fault) :
    c.clearFault o = { c with
      state := .qualify, fault := .none, ic := 0, cap := 0, totalTimer := 0, termination := none } := by
  have noCap : ({ c with fault := .none } : Charge).enterQualify.formCap o = 0 := Charge.formCap_of_qualify o rfl
  rw [Charge.clearFault, if_pos h, Charge.recap, noCap]
  rfl

theorem Charge.clearFault_of_not_fault {c : Charge} (o : ChargeOptions) (h : c.state ≠ .fault) : c.clearFault o = c :=
  if_neg h

theorem Charge.news_self (c : Charge) : c.news c = false := by
  simp [Charge.news]

theorem Charge.news_of_state {c d : Charge} (h : c.state ≠ d.state) : c.news d = true := by
  simp [Charge.news, h]

theorem State.takeClearFault_of_fault {s : State} (h : Handed) (u : Unit) (inFault : s.charge.state = .fault) :
    s.takeClearFault h u = (({ s with charge := { s.charge with
      state := .qualify, fault := .none, ic := 0, cap := 0, totalTimer := 0, termination := none } } :
        State).raise .charge).answer h.slot .done := by
  have news : s.charge.news (s.charge.clearFault s.options) = true := by
    apply Charge.news_of_state
    simp [Charge.clearFault_of_fault s.options inFault, inFault]
  rw [State.takeClearFault, news, Charge.clearFault_of_fault s.options inFault]
  rfl

theorem State.takeClearFault_of_not_fault {s : State} (h : Handed) (u : Unit) (outside : s.charge.state ≠ .fault) :
    s.takeClearFault h u = s.answer h.slot .done := by
  rw [State.takeClearFault, Charge.clearFault_of_not_fault s.options outside, Charge.news_self]
  rfl

/-! ### The steps of a measurement that finds the cell too high (R154, R157 to R159, R163) -/

@[simp] theorem Charge.recap_state (c : Charge) (o : ChargeOptions) : (c.recap o).state = c.state := rfl
@[simp] theorem Charge.recap_fault (c : Charge) (o : ChargeOptions) : (c.recap o).fault = c.fault := rfl
@[simp] theorem Charge.step_state (c : Charge) (o : ChargeOptions) (r : Readings) : (c.step o r).state = c.state := rfl
@[simp] theorem Charge.step_fault (c : Charge) (o : ChargeOptions) (r : Readings) : (c.step o r).fault = c.fault := rfl

@[simp] theorem Charge.enterFault_state (c : Charge) (f : ChargeFault) : (c.enterFault f).state = .fault := rfl
@[simp] theorem Charge.enterFault_fault (c : Charge) (f : ChargeFault) : (c.enterFault f).fault = f := rfl

@[simp] theorem Charge.formBand_state (c : Charge) (o : ChargeOptions) (r : Readings) : (c.formBand o r).state = c.state := by
  unfold Charge.formBand
  split <;> rfl

theorem Charge.presence_of_present {c : Charge} {r : Readings} (present : r.temperature.isSome = true)
    (known : c.state ≠ .noBattery) : c.presence r = c := by
  obtain ⟨t, ht⟩ := Option.isSome_iff_exists.1 present
  simp [Charge.presence, ht, known]

/-- R159: overvoltage is looked for in the six states other than NO_BATTERY, IDLE and FAULT. -/
theorem Charge.overvoltage_of_high {c : Charge} {o : ChargeOptions} {r : Readings} (known : c.state ≠ .noBattery)
    (active : c.state ≠ .idle) (sound : c.state ≠ .fault) (high : o.vreg + 150 < r.vbat) :
    c.overvoltage o r = c.enterFault .overvolt := by
  unfold Charge.overvoltage
  split
  case h_1 | h_2 | h_3 => contradiction
  all_goals exact if_pos high

/-! In FAULT, the steps after the overvoltage check leave the Charge Controller as it is. -/

theorem Charge.suspend_of_fault {c : Charge} (o : ChargeOptions) (r : Readings) (h : c.state = .fault) : c.suspend o r = c := by
  simp [Charge.suspend, h]

theorem Charge.progress_of_fault {c : Charge} (o : ChargeOptions) (current : Int) (r : Readings) (stamp : Stamp)
    (h : c.state = .fault) : c.progress o current r stamp = c := by
  simp [Charge.progress, h]

theorem Charge.timerLimits_of_fault {c : Charge} (o : ChargeOptions) (h : c.state = .fault) : c.timerLimits o = c := by
  simp [Charge.timerLimits, counts, h]

/-- R159: with a battery present, the checks up to the overvoltage one send a cell too high to FAULT. -/
theorem Charge.overvoltage_of_present_high {c : Charge} {o : ChargeOptions} {r : Readings}
    (present : r.temperature.isSome = true) (known : c.state ≠ .noBattery) (active : c.state ≠ .idle)
    (sound : c.state ≠ .fault) (high : o.vreg + 150 < r.vbat) :
    ((c.presence r).formBand o r).overvoltage o r = (c.formBand o r).enterFault .overvolt := by
  rw [Charge.presence_of_present present known]
  exact Charge.overvoltage_of_high (by simpa using known) (by simpa using active) (by simpa using sound) high

/-- R159: one measurement of a cell too high ends in FAULT OVERVOLT. -/
theorem Charge.measure_of_high {c : Charge} {o : ChargeOptions} {r : Readings} (stamp : Stamp)
    (present : r.temperature.isSome = true) (known : c.state ≠ .noBattery) (active : c.state ≠ .idle)
    (sound : c.state ≠ .fault) (high : o.vreg + 150 < r.vbat) :
    (c.measure o r stamp).state = .fault ∧ (c.measure o r stamp).fault = .overvolt := by
  have found := Charge.overvoltage_of_present_high (c := ({ c with inputCurrent := r.inputCurrent } : Charge).countTimers stamp)
    present known active sound high
  have fault := fun d : Charge => Charge.enterFault_state d .overvolt
  rw [Charge.measure, found, Charge.suspend_of_fault o r (fault _), Charge.progress_of_fault o _ r stamp (fault _),
    Charge.timerLimits_of_fault o (fault _)]
  simp

/-- R155: a cell below 3,000 mV qualifies for PRECHARGE, whose timer starts afresh. -/
theorem Charge.progress_of_qualify_low {c : Charge} (o : ChargeOptions) (current : Int) {r : Readings} (stamp : Stamp)
    (h : c.state = .qualify) (low : r.vbat < 3000) :
    c.progress o current r stamp = { c with state := .precharge, prechargeTimer := 0 } := by
  simp [Charge.progress, h, low]

end Sys2Proof.Machine

namespace Sys2Proof.Proofs

open Sys2Proof.Machine

/-- Settles O39: the value checked keeps to its range, and a current above the limit strains USB, which backs the step off. -/
theorem setInputLimit : Obligations.SetInputLimit := by
  constructor
  · intro s slot milliamps stamp next
    refine ⟨?_, inputLimitValue_bounds milliamps⟩
    rw [exec_setInputLimit, State.onRequest_of_next State.takeInputLimit next rfl, State.takeInputLimit, Answer.doneClamped_bne]
    rfl
  · intro c o r usb above
    have strained := Charge.strained_of_usb o usb above
    exact ⟨Charge.step_ic_le_of_strained strained, Charge.step_ic_of_strained strained⟩

/-- Settles O40: the fault is cleared by the entry to QUALIFY, from which a cell too high goes back to FAULT at the
overvoltage step, and one below 3,000 mV to PRECHARGE. -/
theorem clearChargeFault : Obligations.ClearChargeFault := by
  refine ⟨?_, ?_, ?_⟩
  · intro s slot stamp next
    rw [exec_clearChargeFault, State.onRequest_of_next State.takeClearFault next rfl]
    exact ⟨fun inFault => congrArg _ (State.takeClearFault_of_fault _ _ inFault),
      fun outside => congrArg _ (State.takeClearFault_of_not_fault _ _ outside)⟩
  · intro c o r stamp qualify present high
    exact Charge.measure_of_high stamp present (by simp [qualify]) (by simp [qualify]) (by simp [qualify]) high
  · intro c o r current stamp qualify low
    rw [Charge.progress_of_qualify_low o current stamp qualify low]
    exact ⟨rfl, rfl⟩

end Sys2Proof.Proofs
end

section
/-! PROOFS. What every command keeps (O2, O56 to O60): one lemma for each operation of the model that reaches the state says that it
keeps the queue and each of the ranges of Safety, and the operations are put together as the model puts them together. -/

namespace Sys2Proof.Machine

/-! ### The ranges, block by block -/

/-- What the clock keeps (R2, R3). -/
def Clock.InRange (c : Clock) : Prop :=
  c.group < 128 ∧ c.fraction < 512

/-- What the gauge keeps under the options in force (R170, R175). -/
def Gauge.InRange (g : Gauge) (o : ChargeOptions) : Prop :=
  0 ≤ g.q ∧ g.q ≤ (o.capacity * 1000 : Nat) ∧ -3600 < g.carry ∧ g.carry < 3600 ∧ g.remainder < 1000 ∧ g.cutoffRun ≤ 2

/-- The currents of the Charge Controller keep within their caps (R161, R164). -/
def Charge.Capped (c : Charge) (o : ChargeOptions) : Prop :=
  c.ic ≤ c.cap ∧ c.cap ≤ stateCap o c.state ∧ (c.recording = true → c.cap ≤ o.recordingCap)

/-- What the Charge Controller keeps (R152, R161, R164). -/
def Charge.WithinCaps (c : Charge) (o : ChargeOptions) : Prop :=
  c.Capped o ∧ c.choice = c.source

/-- The link is down and the slot empty (R137, R191). -/
def Media.LinkDown (m : Media) : Prop :=
  m.exch.state = .stopped ∧ m.exch.run = false ∧ m.exch.period = 0 ∧ m.exch.enables = 0 ∧ m.exch.baseLo = 0 ∧
    m.exch.baseHi = 0 ∧ m.exch.pickup = none ∧ m.card.detect = false ∧ m.card.debounce = none

/-- What the integrator keeps of itself (R39, R40). -/
def Integrator.InRange (g : Integrator) : Prop :=
  Safety.OnAxes Safety.AngleInRange g.theta ∧ (∀ e ∈ g.history, Safety.OnAxes Safety.AngleInRange e.theta) ∧
    g.history.length ≤ 128 ∧ Safety.OnAxes (fun c => -524288 < c ∧ c < 524288) g.carry

/-- What the Motion Port keeps of itself (R16, R28). -/
def MotionPort.InRange (p : MotionPort) : Prop :=
  Safety.OnAxes Safety.BiasInRange p.bias ∧ ∀ q, p.profile = some q → Safety.ProfileInRange q

/-- What the integrator and the Motion Port keep of each other (R25, R35, R37). -/
def Integrator.Follows (g : Integrator) (p : MotionPort) : Prop :=
  (p.state ≠ .running → g.state = .idle) ∧
    (g.state = .integrating → g.lastStamp.isSome = true ∧ p.prevStamp = g.lastStamp)

/-- What the intake of samples keeps. -/
def IntakeInRange (g : Integrator) (p : MotionPort) : Prop :=
  g.InRange ∧ p.InRange ∧ g.Follows p

theorem chargeWithinCaps_iff (s : State) : Safety.ChargeWithinCaps s ↔ s.charge.WithinCaps s.options := by
  simp only [Safety.ChargeWithinCaps, Charge.WithinCaps, Charge.Capped, and_assoc]

theorem orientationInRange_iff (s : State) : Safety.OrientationInRange s ↔ IntakeInRange s.integ s.motion := by
  simp only [Safety.OrientationInRange, IntakeInRange, Integrator.InRange, MotionPort.InRange, Integrator.Follows, and_assoc]

theorem linkDownWithRail_iff (s : State) : Safety.LinkDownWithRail s ↔ (s.railOn = false → s.media.LinkDown) := Iff.rfl

/-! ### Keeping -/

/-- From `s` to `t` the queue is the same, and each range but that of the link is kept. -/
structure State.KeepsValues (s t : State) : Prop where
  pending : t.pending = s.pending
  clock : s.clock.InRange → t.clock.InRange
  gauge : s.gauge.InRange s.options → t.gauge.InRange t.options
  charge : s.charge.WithinCaps s.options → t.charge.WithinCaps t.options
  intake : IntakeInRange s.integ s.motion → IntakeInRange t.integ t.motion

/-- From `s` to `t` the queue is the same, and each range is kept. -/
structure State.Keeps (s t : State) : Prop extends State.KeepsValues s t where
  link : (s.railOn = false → s.media.LinkDown) → t.railOn = false → t.media.LinkDown

theorem State.KeepsValues.trans {s t u : State} (h : s.KeepsValues t) (k : t.KeepsValues u) : s.KeepsValues u :=
  ⟨k.pending.trans h.pending, k.clock ∘ h.clock, k.gauge ∘ h.gauge, k.charge ∘ h.charge, k.intake ∘ h.intake⟩

theorem State.Keeps.refl (s : State) : s.Keeps s :=
  ⟨⟨rfl, id, id, id, id⟩, id⟩

theorem State.Keeps.trans {s t u : State} (h : s.Keeps t) (k : t.Keeps u) : s.Keeps u :=
  ⟨h.toKeepsValues.trans k.toKeepsValues, k.link ∘ h.link⟩

/-- A step taken only in one case. -/
theorem State.Keeps.ite {s t u : State} {c : Prop} [Decidable c] (h : c → s.Keeps t) (k : ¬c → s.Keeps u) :
    s.Keeps (if c then t else u) := by
  split
  case isTrue yes => exact h yes
  case isFalse no => exact k no

/-! ### Updates of one block -/

section
variable (s : State)

theorem State.keeps_clock {c : Clock} (h : s.clock.InRange → c.InRange) : s.Keeps { s with clock := c } :=
  ⟨⟨rfl, h, id, id, id⟩, id⟩

theorem State.keeps_incident (i : Incident) : s.Keeps { s with incident := i } :=
  ⟨⟨rfl, id, id, id, id⟩, id⟩

theorem State.keeps_gauge {g : Gauge} (h : s.gauge.InRange s.options → g.InRange s.options) : s.Keeps { s with gauge := g } :=
  ⟨⟨rfl, id, h, id, id⟩, id⟩

theorem State.keeps_charge {c : Charge} (h : s.charge.WithinCaps s.options → c.WithinCaps s.options) :
    s.Keeps { s with charge := c } :=
  ⟨⟨rfl, id, id, h, id⟩, id⟩

theorem State.keeps_power {p : Power} (h : p.state = s.power.state) : s.Keeps { s with power := p } := by
  refine ⟨⟨rfl, id, id, id, id⟩, fun down off => down ?_⟩
  simpa [State.railOn, h] using off

theorem State.keeps_media {m : Media} (h : s.railOn = false → s.media.LinkDown → m.LinkDown) : s.Keeps { s with media := m } :=
  ⟨⟨rfl, id, id, id, id⟩, fun down off => h off (down off)⟩

theorem State.keeps_intake {g : Integrator} {p : MotionPort} (h : IntakeInRange s.integ s.motion → IntakeInRange g p) :
    s.Keeps { s with integ := g, motion := p } :=
  ⟨⟨rfl, id, id, id, h⟩, id⟩

/-- A Motion Port that differs in nothing that the intake keeps. -/
theorem State.keeps_motion {p : MotionPort} (state : p.state = s.motion.state) (prev : p.prevStamp = s.motion.prevStamp)
    (range : s.motion.InRange → p.InRange) : s.Keeps { s with motion := p } := by
  refine s.keeps_intake (g := s.integ) ?_
  rintro ⟨hg, hp, hf⟩
  exact ⟨hg, range hp, by simpa only [Integrator.Follows, state, prev] using hf⟩

/-- While the integrator is IDLE the Motion Port may take any state. -/
theorem State.keeps_motion_of_idle {p : MotionPort} (idle : s.integ.state = .idle) (range : s.motion.InRange → p.InRange) :
    s.Keeps { s with motion := p } := by
  refine s.keeps_intake (g := s.integ) ?_
  rintro ⟨hg, hp, -⟩
  exact ⟨hg, range hp, fun _ => idle, by simp [idle]⟩

variable {s}

theorem State.modPower_keeps {f : Power → Power} (h : (f s.power).state = s.power.state) : s.Keeps (s.modPower f) :=
  s.keeps_power h

theorem State.modGauge_keeps {f : Gauge → Gauge} (h : s.gauge.InRange s.options → (f s.gauge).InRange s.options) :
    s.Keeps (s.modGauge f) :=
  s.keeps_gauge h

theorem State.modCharge_keeps {f : Charge → Charge} (h : s.charge.WithinCaps s.options → (f s.charge).WithinCaps s.options) :
    s.Keeps (s.modCharge f) :=
  s.keeps_charge h

theorem State.modIncident_keeps (f : Incident → Incident) : s.Keeps (s.modIncident f) :=
  s.keeps_incident _

theorem State.modMotion_keeps {f : MotionPort → MotionPort} (state : (f s.motion).state = s.motion.state)
    (prev : (f s.motion).prevStamp = s.motion.prevStamp) (range : s.motion.InRange → (f s.motion).InRange) :
    s.Keeps (s.modMotion f) :=
  s.keeps_motion state prev range

end

/-! ### The media blocks -/

/-- What leaves the rest of the media blocks alone leaves the link down. -/
theorem Media.LinkDown.of_rest {m n : Media} (h : n.rest = m.rest) (down : m.LinkDown) : n.LinkDown := by
  obtain ⟨state, run, period, enables, lo, hi, pickup, detect, debounce⟩ := down
  simp only [Media.rest, Prod.mk.injEq] at h
  obtain ⟨he, -, hc⟩ := h
  exact ⟨(congrArg Exchange.state he).trans state, (congrArg Exchange.run he).trans run,
    (congrArg Exchange.period he).trans period, (congrArg Exchange.enables he).trans enables,
    (congrArg Exchange.baseLo he).trans lo, (congrArg Exchange.baseHi he).trans hi,
    (congrArg Exchange.pickup he).trans pickup, (congrArg Card.detect hc).trans detect,
    (congrArg Card.debounce hc).trans debounce⟩

theorem Media.LinkDown.not_running {m : Media} (down : m.LinkDown) : m.exch.running = false := by
  simp [Exchange.running, down.1]

theorem State.keeps_modMedia {s : State} {f : Media → Media} (h : s.media.LinkDown → (f s.media).LinkDown) :
    s.Keeps (s.modMedia f) :=
  s.keeps_media fun _ => h

/-- An operation of the media blocks that leaves their rest alone. -/
theorem State.keeps_modMedia_of_rest {s : State} {f : Media → Media} (h : (f s.media).rest = s.media.rest) :
    s.Keeps (s.modMedia f) :=
  State.keeps_modMedia (Media.LinkDown.of_rest h)

/-- An operation of the exchange that leaves the link down. -/
theorem State.keeps_modExch {s : State} {f : Exchange → Exchange} (h : s.media.LinkDown → (s.media.modExch f).LinkDown) :
    s.Keeps (s.modExch f) :=
  State.keeps_modMedia h

theorem State.raise_keeps (s : State) (f : AttnFlag) : s.Keeps (s.raise f) :=
  s.keeps_media fun _ => id

theorem State.raiseIf_keeps (s : State) (news : Bool) (f : AttnFlag) : s.Keeps (s.raiseIf news f) :=
  State.Keeps.ite (fun _ => s.raise_keeps f) fun _ => .refl s

theorem State.answer_keeps (s : State) (slot : Nat) (a : Answer) : s.Keeps (s.answer slot a) :=
  State.keeps_modMedia_of_rest (Media.answer_rest _ _ _ _)

theorem State.answerAll_keeps (s : State) (slots : List Nat) (a : Answer) : s.Keeps (s.answerAll slots a) :=
  State.keeps_modMedia_of_rest (Media.answerAll_rest _ _ _ _)

theorem State.dropTransfer_keeps (s : State) (n : Nat) : s.Keeps (s.modExch fun e => e.dropTransfer n) :=
  State.keeps_modExch id

theorem State.freeSlot_keeps (s : State) (slot : Nat) : s.Keeps (s.modExch fun e => e.freeSlot slot) :=
  State.keeps_modExch id

/-- An operation of the Card Port that leaves its detect level and debounce alone. -/
theorem State.cardActs_keeps (s : State) {f : Card → Card} (detect : (f s.media.card).detect = s.media.card.detect)
    (debounce : (f s.media.card).debounce = s.media.card.debounce) : s.Keeps (s.cardActs f) := by
  apply State.keeps_modMedia
  rintro ⟨state, run, period, enables, lo, hi, pickup, empty, still⟩
  unfold Media.cardNews
  split <;> exact ⟨state, run, period, enables, lo, hi, pickup, detect.trans empty, debounce.trans still⟩

/-! ### The end of intake (R18, R32, R35) -/

theorem Integrator.InRange.stop {g : Integrator} (h : g.InRange) : g.stop.InRange := h

theorem Media.LinkDown.steadyStop {m : Media} (down : m.LinkDown) : m.steadyStop.LinkDown := down

theorem State.intakeReport_keeps (s : State) : s.Keeps s.intakeReport := by
  refine .trans (s.keeps_intake (g := s.integ.stop) (p := s.motion) ?_) (.trans (State.keeps_incident _ s.incident.intakeStopped)
    (State.keeps_media _ fun _ => Media.LinkDown.steadyStop))
  rintro ⟨hg, hp, -⟩
  exact ⟨hg.stop, hp, fun _ => rfl, by simp [Integrator.stop]⟩

theorem State.stopIntake_keeps (s : State) : s.Keeps s.stopIntake := by
  have stopped : s.intakeReport.Keeps { s.intakeReport with motion := s.motion.stopped } :=
    State.keeps_motion_of_idle _ rfl id
  exact .trans (s.intakeReport_keeps.trans stopped) (State.answerAll_keeps _ s.motion.stopSlots .done)

/-! ### The Charge Controller within its caps (R152, R161 to R164) -/

theorem bandCap_le (b : TempBand) (cap : Nat) : bandCap b cap ≤ cap := by
  cases b <;> simp only [bandCap] <;> omega

theorem Charge.formCap_le_stateCap (c : Charge) (o : ChargeOptions) : c.formCap o ≤ stateCap o c.state := by
  have banded := bandCap_le c.band (stateCap o c.state)
  dsimp only [Charge.formCap]
  split <;> omega

theorem Charge.formCap_le_recordingCap {c : Charge} (o : ChargeOptions) (h : c.recording = true) :
    c.formCap o ≤ o.recordingCap := by
  simp [Charge.formCap, h]

theorem Charge.recap_capped (c : Charge) (o : ChargeOptions) : (c.recap o).Capped o :=
  ⟨Nat.min_le_right _ _, c.formCap_le_stateCap o, fun h => Charge.formCap_le_recordingCap o h⟩

theorem Charge.recap_withinCaps {c : Charge} (o : ChargeOptions) (h : c.choice = c.source) : (c.recap o).WithinCaps o :=
  ⟨c.recap_capped o, h⟩

theorem Charge.step_capped {c : Charge} {o : ChargeOptions} (r : Readings) (h : c.Capped o) : (c.step o r).Capped o :=
  ⟨Nat.min_le_right _ _, h.2⟩

/-! What the steps of a measurement and of a change of source leave alone: the inputs and the selection. -/

/-- The inputs and the source in force. -/
def Charge.selection (c : Charge) : InputUnit × InputUnit × Source :=
  (c.usb, c.aux, c.source)

theorem Charge.choice_of_selection {c d : Charge} (h : d.selection = c.selection) (hc : c.choice = c.source) :
    d.choice = d.source := by
  simp only [Charge.selection, Prod.mk.injEq] at h
  obtain ⟨usb, aux, source⟩ := h
  rw [source, ← hc, Charge.choice, Charge.choice, usb, aux]

theorem Charge.presence_selection (c : Charge) (r : Readings) : (c.presence r).selection = c.selection := by
  unfold Charge.presence
  split
  · rfl
  · split
    · split <;> rfl
    · rfl

theorem Charge.formBand_selection (c : Charge) (o : ChargeOptions) (r : Readings) :
    (c.formBand o r).selection = c.selection := by
  unfold Charge.formBand
  split <;> rfl

theorem Charge.overvoltage_selection (c : Charge) (o : ChargeOptions) (r : Readings) :
    (c.overvoltage o r).selection = c.selection := by
  unfold Charge.overvoltage
  split
  case h_1 | h_2 | h_3 => rfl
  all_goals split <;> rfl

theorem Charge.suspend_selection (c : Charge) (o : ChargeOptions) (r : Readings) :
    (c.suspend o r).selection = c.selection := by
  simp only [Charge.suspend]
  split <;> (try split) <;> rfl

theorem Charge.progress_selection (c : Charge) (o : ChargeOptions) (current : Int) (r : Readings) (stamp : Stamp) :
    (c.progress o current r stamp).selection = c.selection := by
  simp only [Charge.progress]
  (repeat' split) <;> rfl

theorem Charge.timerLimits_selection (c : Charge) (o : ChargeOptions) : (c.timerLimits o).selection = c.selection := by
  unfold Charge.timerLimits
  split <;> rfl

theorem Charge.measure_selection (c : Charge) (o : ChargeOptions) (r : Readings) (stamp : Stamp) :
    (c.measure o r stamp).selection = c.selection := by
  have last (d : Charge) : ((d.recap o).step o r).selection = d.selection := rfl
  rw [Charge.measure, last, Charge.timerLimits_selection, Charge.progress_selection, Charge.suspend_selection,
    Charge.overvoltage_selection, Charge.formBand_selection, Charge.presence_selection]
  rfl

theorem Charge.measure_withinCaps {c : Charge} {o : ChargeOptions} (r : Readings) (stamp : Stamp) (h : c.WithinCaps o) :
    (c.measure o r stamp).WithinCaps o :=
  ⟨Charge.step_capped r (Charge.recap_capped _ o), Charge.choice_of_selection (c.measure_selection o r stamp) h.2⟩

theorem Charge.switched_selection (c : Charge) (before : Source) : (c.switched before).selection = c.selection := by
  unfold Charge.switched
  (repeat' split) <;> rfl

/-- R152: after the selector the source in force is the one selected, whatever the inputs were set to. -/
theorem Charge.select_withinCaps {c : Charge} {o : ChargeOptions} (h : c.Capped o) : (c.select o).WithinCaps o := by
  unfold Charge.select
  split
  case isTrue same => exact ⟨h, same⟩
  case isFalse =>
    exact Charge.recap_withinCaps o (Charge.choice_of_selection (c := { c with source := c.choice })
      (Charge.switched_selection _ _) rfl)

theorem Charge.setInput_capped {c : Charge} {o : ChargeOptions} (i : Input) (u : InputUnit) (h : c.Capped o) :
    (c.setInput i u).Capped o := by
  cases i <;> exact h

theorem Charge.report_withinCaps {c : Charge} {o : ChargeOptions} (recording : Bool) (h : c.WithinCaps o) :
    (c.report o recording).WithinCaps o := by
  unfold Charge.report
  split
  case isTrue => exact h
  case isFalse => exact Charge.recap_withinCaps o h.2

theorem Charge.hear_withinCaps {c : Charge} {o : ChargeOptions} (entered recording : Bool) (h : c.WithinCaps o) :
    (c.hear o entered recording).WithinCaps o :=
  Charge.report_withinCaps recording (Charge.report_withinCaps (entered || recording) h)

theorem Charge.clearFault_withinCaps {c : Charge} {o : ChargeOptions} (h : c.WithinCaps o) :
    (c.clearFault o).WithinCaps o := by
  unfold Charge.clearFault
  split
  case isTrue => exact Charge.recap_withinCaps o h.2
  case isFalse => exact h

/-! ### The gauge in its ranges (R170 to R175) -/

theorem fullCharge_nonneg (o : ChargeOptions) : 0 ≤ fullCharge o :=
  Int.natCast_nonneg _

theorem Gauge.inRange_of_carry_zero {g : Gauge} {o : ChargeOptions} (low : 0 ≤ g.q) (high : g.q ≤ fullCharge o)
    (carry : g.carry = 0) (remainder : g.remainder < 1000) (run : g.cutoffRun ≤ 2) : g.InRange o :=
  ⟨low, high, by omega, by omega, remainder, run⟩

/-- R170 step 4: Q and its carry are brought into range. -/
theorem Gauge.setQ_inRange {g : Gauge} (o : ChargeOptions) (q : Int) {carry : Int} (h : -3600 < carry ∧ carry < 3600)
    (remainder : g.remainder < 1000) (run : g.cutoffRun ≤ 2) : (g.setQ o q carry).InRange o := by
  have full := fullCharge_nonneg o
  unfold Gauge.setQ
  split
  case isTrue => exact Gauge.inRange_of_carry_zero (le_refl _) full rfl remainder run
  case isFalse low =>
    split
    case isTrue => exact Gauge.inRange_of_carry_zero full (le_refl _) rfl remainder run
    case isFalse high => exact ⟨not_lt.1 low, not_lt.1 high, h.1, h.2, remainder, run⟩

theorem Gauge.count_inRange {g : Gauge} {o : ChargeOptions} (current interval : Int) (h : g.InRange o) :
    (g.count o current interval).InRange o := by
  obtain ⟨-, -, -, -, remainder, run⟩ := h
  have carried := (truncDiv_spec (current * ((interval.toNat + g.remainder) / 1000 : Nat) + g.carry)
    (show (0 : Int) < 3600 by decide)).2
  obtain ⟨low, high, above, below, -, cutoff⟩ := Gauge.setQ_inRange o
    (g.q + truncDiv (current * ((interval.toNat + g.remainder) / 1000 : Nat) + g.carry) 3600) carried remainder run
  exact ⟨low, high, above, below, Nat.mod_lt _ (by decide), cutoff⟩

theorem Gauge.anchor_inRange {g : Gauge} {o : ChargeOptions} {q : Int} (low : 0 ≤ q) (high : q ≤ fullCharge o)
    (h : g.InRange o) : (g.anchor q).InRange o := by
  obtain ⟨-, -, -, -, remainder, run⟩ := h
  exact Gauge.inRange_of_carry_zero low high rfl remainder run

theorem Gauge.estimate_inRange {g : Gauge} {o : ChargeOptions} (vbat : Nat) (stamp : Stamp) (h : g.InRange o) :
    (g.estimate o vbat stamp).InRange o := by
  obtain ⟨-, -, -, -, remainder, run⟩ := h
  exact Gauge.inRange_of_carry_zero (le_min (fullCharge_nonneg o) (Int.natCast_nonneg _)) (min_le_left _ _) rfl remainder run

theorem Gauge.countMeasurement_inRange {g : Gauge} {o : ChargeOptions} (r : Readings) (stamp : Stamp) (h : g.InRange o) :
    (g.countMeasurement o r stamp).InRange o := by
  unfold Gauge.countMeasurement
  split
  case h_1 =>
    obtain ⟨low, high, above, below, -, cutoff⟩ := h
    exact ⟨low, high, above, below, Nat.zero_lt_succ 999, cutoff⟩
  case h_2 l _ =>
    split
    case isTrue => exact h
    case isFalse => exact Gauge.count_inRange (batteryCurrent r) (stampDiff stamp l) h

theorem Gauge.account_inRange {g : Gauge} {o : ChargeOptions} (r : Readings) (stamp : Stamp) (h : g.InRange o) :
    (g.account o r stamp).InRange o := by
  have taken : (if g.estimates r then g.estimate o r.vbat stamp else g.countMeasurement o r stamp).InRange o := by
    split
    case isTrue => exact Gauge.estimate_inRange r.vbat stamp h
    case isFalse => exact Gauge.countMeasurement_inRange r stamp h
  dsimp only [Gauge.account]
  by_cases empty : emptyTest o r = true
  · rw [if_pos empty]
    exact Gauge.anchor_inRange (le_refl _) (fullCharge_nonneg o) taken
  · rw [if_neg empty]
    exact taken

theorem Gauge.fullIf_inRange {g : Gauge} {o : ChargeOptions} (full : Bool) (h : g.InRange o) : (g.fullIf o full).InRange o := by
  unfold Gauge.fullIf
  split
  case isTrue => exact Gauge.anchor_inRange (fullCharge_nonneg o) (le_refl _) h
  case isFalse => exact h

theorem Gauge.work_inRange {g : Gauge} {o : ChargeOptions} (r : Readings) (stamp : Stamp) (full gaugeFirst : Bool)
    (h : g.InRange o) : (g.work o r stamp full gaugeFirst).1.InRange o := by
  unfold Gauge.work
  split
  case isTrue => exact Gauge.fullIf_inRange full (Gauge.account_inRange r stamp h)
  case isFalse => exact Gauge.account_inRange r stamp (Gauge.fullIf_inRange full h)

theorem Gauge.cutoffStep_inRange {g : Gauge} {o : ChargeOptions} (r : Readings) (h : g.InRange o) :
    (g.cutoffStep o r).InRange o := by
  obtain ⟨low, high, above, below, remainder, -⟩ := h
  refine ⟨low, high, above, below, remainder, ?_⟩
  simp only [Gauge.cutoffStep]
  split
  case isTrue => exact bump_le 2 g.cutoffRun
  case isFalse => exact Nat.zero_le 2

/-- R171: Q is brought within the new capacity. -/
theorem Gauge.newCapacity_inRange {g : Gauge} {o : ChargeOptions} (p : ChargeOptions) (h : g.InRange o) :
    (g.newCapacity o p).InRange p := by
  unfold Gauge.newCapacity
  obtain ⟨low, high, above, below, remainder, cutoff⟩ := h
  split
  case isTrue same => exact ⟨low, by rwa [← same], above, below, remainder, cutoff⟩
  case isFalse => exact Gauge.setQ_inRange p g.q ⟨above, below⟩ remainder cutoff

theorem Gauge.cadence_inRange {g : Gauge} {o : ChargeOptions} (before after : PowerState) (now : Stamp) (h : g.InRange o) :
    (g.cadence before after now).InRange o := h

/-! ### The clock in its ranges (R2 to R7) -/

theorem Clock.pulse_inRange {c : Clock} (h : c.InRange) : c.pulse.InRange := by
  unfold Clock.pulse
  split
  case h_1 => exact h
  case h_2 =>
    refine ⟨Nat.mod_lt _ (by decide), ?_⟩
    dsimp only
    split <;> exact h.2

theorem Clock.slowAdvance_inRange {c : Clock} (h : c.InRange) : c.slowAdvance.InRange := by
  obtain ⟨group, fraction⟩ := h
  unfold Clock.slowAdvance
  split
  case isTrue small => exact ⟨group, Nat.lt_succ_of_le small⟩
  case isFalse => exact ⟨group, by dsimp only; omega⟩

theorem Clock.tick_inRange {c : Clock} (settled : Bool) (h : c.InRange) : (c.tick settled).InRange := by
  have fresh : ∀ d : Clock, d.group = 0 → d.fraction = c.fraction → d.InRange := fun d group fraction =>
    ⟨group ▸ by decide, fraction ▸ h.2⟩
  unfold Clock.tick
  split
  case h_1 => exact fresh _ rfl rfl
  case h_2 =>
    split
    case isTrue => exact fresh _ rfl rfl
    case isFalse => exact Clock.slowAdvance_inRange h
  case h_4 => exact Clock.slowAdvance_inRange h
  all_goals exact h

theorem Clock.require_inRange {c : Clock} (p : ClockPath) (h : c.InRange) : (c.require p).InRange := by
  unfold Clock.require
  split <;> exact h

theorem Clock.powerChange_inRange {c : Clock} (after : PowerState) (h : c.InRange) : (c.powerChange after).InRange := by
  have required := Clock.require_inRange after.path h
  unfold Clock.powerChange
  split <;> exact required

/-! ### The reserve (R174) -/

/-- The reserve as the gauge and the Power State Controller hold it. -/
theorem State.keeps_reserve (s : State) (b : Bool) : s.Keeps { s with
    gauge := { s.gauge with reserve := b }
    power := { s.power with reserveHeld := b } } :=
  ⟨⟨rfl, id, id, id, id⟩, id⟩

theorem State.reserveTest_keeps (s : State) : s.Keeps s.reserveTest := by
  unfold State.reserveTest
  refine .ite (fun _ => ?_) fun _ => .refl s
  refine .trans (.trans (s.keeps_reserve _) (State.keeps_modMedia_of_rest ?_)) (State.raise_keeps _ _)
  simp

theorem State.reserveClear_keeps (s : State) : s.Keeps s.reserveClear := by
  unfold State.reserveClear
  refine .ite (fun _ => ?_) fun _ => .refl s
  refine .trans (.trans (s.keeps_reserve _) (State.keeps_modMedia_of_rest ?_)) (State.raise_keeps _ _)
  simp

/-! ### The rail (R137, R146, R191) -/

theorem Media.cardNews_exch_rest (m : Media) (c : Card) : ∃ flags, (m.cardNews c).exch = { m.exch with attn := flags } := by
  unfold Media.cardNews
  split
  · exact ⟨_, rfl⟩
  · exact ⟨m.exch.attn, rfl⟩

theorem Media.cardNews_card (m : Media) (c : Card) : (m.cardNews c).card = c := by
  unfold Media.cardNews
  split <;> rfl

/-- The link goes down, and the flags raised afterwards leave it down. -/
theorem Media.railOffCard_linkDown (m : Media) (env : Env) : ((m.modExch Exchange.shut).railOffCard env).LinkDown := by
  have shut : ∀ n : Media, (∃ flags, n.exch = { m.exch.shut with attn := flags }) → n.card.detect = false →
      n.card.debounce = none → n.LinkDown := by
    rintro n ⟨flags, he⟩ detect debounce
    exact ⟨by rw [he]; rfl, by rw [he]; rfl, by rw [he]; rfl, by rw [he]; rfl, by rw [he]; rfl, by rw [he]; rfl,
      by rw [he]; rfl, detect, debounce⟩
  unfold Media.railOffCard
  split
  · exact shut _ ⟨_, rfl⟩ rfl rfl
  · have gone := Media.cardGone_rest ((m.modExch Exchange.shut).cardNews (m.modExch Exchange.shut).card.remove) env
    refine Media.LinkDown.of_rest (m := (((m.modExch Exchange.shut).cardNews (m.modExch Exchange.shut).card.remove).modCard
      fun c => { c with detect := false, debounce := none })) ?_ (shut _ (Media.cardNews_exch_rest _ _) rfl rfl)
    simp only [Media.rest, Prod.mk.injEq] at gone
    obtain ⟨exch, steady, card⟩ := gone
    refine Media.rest_eq exch steady ?_
    have card' := congrArg (fun c : Card => ({ c with detect := false, debounce := none } : Card)) card
    exact card'

theorem State.railOffMotion_keeps (s : State) : s.Keeps s.railOffMotion := by
  unfold State.railOffMotion
  refine .ite (fun _ => .ite (fun _ => ?_) fun _ => s.stopIntake_keeps) fun _ => .refl s
  exact s.keeps_motion rfl rfl id

@[simp] theorem State.railOffMotion_power (s : State) : s.railOffMotion.power = s.power := by
  unfold State.railOffMotion
  split <;> (try split) <;> rfl

theorem State.modMedia_keepsValues (s : State) (f : Media → Media) : s.KeepsValues (s.modMedia f) :=
  ⟨rfl, id, id, id, id⟩

theorem State.railOff_keepsValues (s : State) : s.KeepsValues s.railOff :=
  s.railOffMotion_keeps.toKeepsValues.trans ⟨rfl, id, id, id, id⟩

theorem State.railOff_linkDown (s : State) : s.railOff.media.LinkDown :=
  Media.railOffCard_linkDown _ _

@[simp] theorem State.railOff_power (s : State) : s.railOff.power = s.power :=
  s.railOffMotion_power

/-! ### Power states (R179 to R185) -/

/-- The part of a change of power state that comes before the rail's and the reserve's. -/
def State.powerChanged (s : State) (after : PowerState) : State :=
  { s with
    power := s.power.change after s.options.fastSettle
    clock := s.clock.powerChange after
    gauge := s.gauge.cadence s.power.state after s.now
    incident := { s.incident with key := markKeyAt s.power.state after s.incident.key } }

/-- The rail follows the change of power state. -/
def State.railChanged (s : State) (before after : PowerState) : State :=
  if before.rail && !after.rail then s.railOff else if !before.rail && after.rail then s.railUp else s

theorem State.setPower_eq (s : State) (after : PowerState) :
    s.setPower after = ((s.powerChanged after).railChanged s.power.state after).reserveTest := rfl

theorem State.powerChanged_keepsValues (s : State) (after : PowerState) : s.KeepsValues (s.powerChanged after) :=
  ⟨rfl, Clock.powerChange_inRange after, id, id, id⟩

theorem State.railChanged_keepsValues (s : State) (before after : PowerState) :
    s.KeepsValues (s.railChanged before after) := by
  unfold State.railChanged
  split
  · exact s.railOff_keepsValues
  · split
    · exact s.modMedia_keepsValues _
    · exact (State.Keeps.refl s).toKeepsValues

theorem State.railChanged_power (s : State) (before after : PowerState) : (s.railChanged before after).power = s.power := by
  unfold State.railChanged
  split
  · exact s.railOff_power
  · split <;> rfl

theorem State.setPower_keeps (s : State) (after : PowerState) : s.Keeps (s.setPower after) := by
  rw [State.setPower_eq]
  refine State.Keeps.trans ⟨(s.powerChanged_keepsValues after).trans (State.railChanged_keepsValues _ _ _), ?_⟩
    (State.reserveTest_keeps _)
  intro down off
  have off' : after.rail = false := by
    rwa [State.railOn, State.railChanged_power] at off
  unfold State.railChanged
  cases rail : s.power.state.rail with
  | true =>
    simp only [off', Bool.not_false, Bool.and_true, if_true]
    exact State.railOff_linkDown _
  | false =>
    simp only [off', Bool.false_and, Bool.and_false, if_neg Bool.false_ne_true]
    exact down rail

theorem State.powerDownTest_keeps (s : State) : s.Keeps s.powerDownTest := by
  unfold State.powerDownTest
  split
  case h_1 | h_2 => exact .ite (fun _ => s.setPower_keeps _) fun _ => .refl s
  all_goals exact .refl s

theorem State.cutRail_keeps (s : State) : s.Keeps s.cutRail :=
  s.setPower_keeps _

theorem State.turnOn_keeps (s : State) : s.Keeps s.turnOn :=
  .ite (fun _ => .refl s) fun _ => s.setPower_keeps _

theorem Media.shutdownClose_rest (m : Media) (env : Env) : (m.shutdownClose env).rest = m.rest := by
  simp [Media.shutdownClose]

theorem State.enterShutting_keeps (s : State) (cause : ShutdownCause) : s.Keeps (s.enterShutting cause) := by
  unfold State.enterShutting
  refine .trans (.trans (State.modPower_keeps ?_) (State.setPower_keeps _ _)) (State.keeps_modMedia_of_rest ?_)
  · rfl
  · exact Media.shutdownClose_rest _ _

/-! ### What follows within a step (log 31) -/

theorem State.settleMedia_keeps (s : State) : s.Keeps s.settleMedia := by
  unfold State.settleMedia
  exact (State.keeps_modMedia_of_rest (Media.settle_rest _ _)).trans (State.modCharge_keeps (Charge.hear_withinCaps _ _))

theorem State.takeReport_keeps (s : State) : s.Keeps s.takeReport :=
  .ite (fun _ => s.cutRail_keeps.trans (State.settleMedia_keeps _)) fun _ => .refl s

theorem State.clearReport_keeps (s : State) : s.Keeps s.clearReport :=
  State.keeps_modMedia_of_rest (Media.modWriter_rest _ _)

theorem State.settle_keeps (s : State) : s.Keeps s.settle :=
  (s.settleMedia_keeps.trans (State.takeReport_keeps _)).trans (State.clearReport_keeps _)

/-- A command that settles after its own effect. -/
theorem State.Keeps.settle {s t : State} (h : s.Keeps t) : s.Keeps t.settle :=
  h.trans t.settle_keeps

/-! ### Inputs and sources (R150 to R152, R174, R175, R180) -/

theorem Gauge.sourceReport_inRange {g : Gauge} {o : ChargeOptions} (selected : Bool) (h : g.InRange o) :
    ({ g with sourceSelected := selected, cutoffRun := if selected then 0 else g.cutoffRun } : Gauge).InRange o := by
  obtain ⟨low, high, above, below, remainder, cutoff⟩ := h
  refine ⟨low, high, above, below, remainder, ?_⟩
  dsimp only
  split
  case isTrue => exact Nat.zero_le 2
  case isFalse => exact cutoff

theorem State.sourceReport_keeps (s : State) : s.Keeps s.sourceReport := by
  unfold State.sourceReport
  refine .trans (.trans (State.modGauge_keeps (Gauge.sourceReport_inRange _)) (.ite (fun _ => ?_) fun _ => .refl _))
    (State.reserveTest_keeps _)
  exact (State.reserveClear_keeps _).trans (State.modPower_keeps rfl)

/-- The selector's choice among inputs that have changed. -/
def State.selected (s : State) (c : Charge) : State :=
  { s with charge := c.select s.options }

/-- The source in force is reported where it has changed. -/
def State.sourceReportIf (s : State) (before : Source) : State :=
  if before = s.charge.source then s else s.sourceReport

theorem State.inputChange_eq (s : State) (c : Charge) :
    s.inputChange c = (((s.selected c).raiseIf (s.charge.news (c.select s.options)) .charge).sourceReportIf
      s.charge.source).powerDownTest := rfl

theorem State.selected_keeps (s : State) {c : Charge} (h : s.charge.Capped s.options → c.Capped s.options) :
    s.Keeps (s.selected c) :=
  s.keeps_charge fun within => Charge.select_withinCaps (h within.1)

theorem State.sourceReportIf_keeps (s : State) (before : Source) : s.Keeps (s.sourceReportIf before) :=
  .ite (fun _ => .refl s) fun _ => s.sourceReport_keeps

/-- The Charge Controller's inputs change, and with them the source in force. -/
theorem State.inputChange_keeps (s : State) {c : Charge} (h : s.charge.Capped s.options → c.Capped s.options) :
    s.Keeps (s.inputChange c) := by
  rw [State.inputChange_eq]
  exact (((s.selected_keeps h).trans (State.raiseIf_keeps _ _ _)).trans (State.sourceReportIf_keeps _ _)).trans
    (State.powerDownTest_keeps _)

theorem State.setInput_keeps (s : State) (i : Input) (u : InputUnit) : s.Keeps (s.inputChange (s.charge.setInput i u)) :=
  s.inputChange_keeps (Charge.setInput_capped i u)

theorem State.loseIfDue_keeps (s : State) (i : Input) : s.Keeps (s.loseIfDue i) :=
  .ite (fun _ => s.setInput_keeps i _) fun _ => .refl s

theorem State.windowReport_keeps (s : State) (isOpen : Bool) : s.Keeps (s.windowReport isOpen) := by
  refine .trans (.trans (State.modMotion_keeps rfl rfl id) (State.modCharge_keeps id)) (.ite (fun _ => .refl _) fun _ => ?_)
  exact (State.loseIfDue_keeps _ _).trans (State.loseIfDue_keeps _ _)

/-! ### The engine's work leaves the registers, the pickup and the slot alone (R47 to R63) -/

/-- The exchange and the Card Port without what the Clip Writer's work moves. -/
def Media.ports (m : Media) : Exchange × Card :=
  (m.exch.rest, m.card.rest)

theorem Media.ports_eq_of_rest {m n : Media} (h : n.rest = m.rest) : n.ports = m.ports := by
  simp only [Media.rest, Prod.mk.injEq] at h
  obtain ⟨exch, -, card⟩ := h
  rw [Media.ports, exch, card, Media.ports]

theorem Media.LinkDown.of_ports {m n : Media} (h : n.ports = m.ports) (down : m.LinkDown) : n.LinkDown := by
  simp only [Media.ports, Prod.mk.injEq] at h
  obtain ⟨exch, card⟩ := h
  exact down.of_rest (n := { n with steady := m.steady }) (Media.rest_eq exch rfl card)

@[simp] theorem Media.modSteady_ports (m : Media) (f : Steady → Steady) : (m.modSteady f).ports = m.ports := rfl

@[simp] theorem Media.keepRecord_ports (m : Media) (r : MotionRecord) : (m.keepRecord r).ports = m.ports := by
  have handed (n : Media) (id : BufferId) : (n.handOver id).ports = n.ports := Media.ports_eq_of_rest (n.handOver_rest id)
  dsimp only [Media.keepRecord]
  split
  · split
    · split
      · rw [handed]
        rfl
      · rfl
    · rfl
  · rfl

@[simp] theorem Media.modExch_ports (m : Media) (f : Exchange → Exchange) :
    (m.modExch f).ports = ((f m.exch).rest, m.ports.2) := rfl

@[simp] theorem Media.computeHead_ports (m : Media) (env : Env) (o : Orientation) (f : Frame) (h : HeadFigures) :
    (m.computeHead env o f h).ports = m.ports := by
  simp only [Media.computeHead, Media.keepRecord_ports, Media.modExch_ports, Exchange.writeRecord_rest]
  rfl

@[simp] theorem Media.advanceHead_ports (env : Env) (o : Orientation) (n : Nat) (m : Media) :
    (Media.advanceHead env o n m).ports = m.ports := by
  induction n generalizing m with
  | zero => rfl
  | succ n ih =>
    unfold Media.advanceHead
    split
    · split
      · rfl
      · rw [ih, Media.modSteady_ports]
    · split
      · rw [ih, Media.computeHead_ports]
      · rfl
    · rfl

@[simp] theorem Media.runHead_ports (m : Media) (env : Env) (o : Orientation) : (m.runHead env o).ports = m.ports :=
  Media.advanceHead_ports env o 16 m

@[simp] theorem Media.sheetEnd_ports (m : Media) (env : Env) (o : Orientation) (sheet : Option (List Byte)) :
    (m.sheetEnd env o sheet).ports = m.ports := by
  unfold Media.sheetEnd
  split
  · rw [Media.runHead_ports, Media.modSteady_ports]
  · rfl

@[simp] theorem Media.historyNotice_ports (m : Media) (env : Env) (o : Orientation) (stamp : Stamp) :
    (m.historyNotice env o stamp).ports = m.ports := by
  unfold Media.historyNotice
  split
  · split
    · rw [Media.runHead_ports, Media.computeHead_ports]
    · rfl
  · rfl

@[simp] theorem Media.headTimeout_ports (m : Media) (env : Env) (o : Orientation) : (m.headTimeout env o).ports = m.ports := by
  unfold Media.headTimeout
  split
  · split
    · rw [Media.runHead_ports, Media.computeHead_ports]
    · rfl
  · rfl

@[simp] theorem Media.frameStart_ports (m : Media) (env : Env) (o : Orientation) : (m.frameStart env o).ports = m.ports := by
  dsimp only [Media.frameStart]
  split
  · split
    · split
      · rw [Media.runHead_ports]
        rfl
      · rfl
    · rw [Media.modExch_ports, Exchange.writeRecord_rest]
      rfl
  · rfl

@[simp] theorem Media.loadSteady_ports (m : Media) (p : SteadyProfile) : (m.loadSteady p).ports = m.ports := by
  dsimp only [Media.loadSteady]
  split
  · rfl
  · exact (Media.ports_eq_of_rest (Media.flush_rest _)).trans (Media.modSteady_ports _ _)

/-- An operation of the media blocks that leaves the registers, the pickup and the slot alone. -/
theorem State.keeps_modMedia_of_ports {s : State} {f : Media → Media} (h : (f s.media).ports = s.media.ports) :
    s.Keeps (s.modMedia f) :=
  State.keeps_modMedia (Media.LinkDown.of_ports h)

/-! ### A sample's integration (R24, R36 to R40) -/

theorem sensorValue_bounds (bs : List Byte) (at_ : Nat) : -32768 ≤ sensorValue bs at_ ∧ sensorValue bs at_ ≤ 32767 := by
  have low := BitVec.le_toInt (BitVec.ofNat 16 (beNat bs at_ 2))
  have high := BitVec.toInt_lt (x := BitVec.ofNat 16 (beNat bs at_ 2))
  unfold sensorValue
  omega

/-- A gyro value lies within ±32,768, a value turned by the axis map among them (R24). -/
theorem AxisSource.gyro_bounds (a : AxisSource) (bs : List Byte) : -32768 ≤ a.gyro bs ∧ a.gyro bs ≤ 32768 := by
  have bounds := sensorValue_bounds bs (1 + 2 * a.source)
  unfold AxisSource.gyro sensorGyro
  split <;> omega

/-- R39: the increment of a step of at most 8 ms is within 18,000,001 µdeg, a small part of a turn. -/
theorem stepNumerator_bounds {fullScale : Nat} {dt raw bias carry : Int} (scale : fullScale ≤ 2000)
    (time : 0 ≤ dt ∧ dt ≤ 8000) (value : -32768 ≤ raw ∧ raw ≤ 32768) (learned : Safety.BiasInRange bias)
    (carried : -524288 < carry ∧ carry < 524288) :
    -9437184524288 < stepNumerator fullScale dt raw bias carry ∧
      stepNumerator fullScale dt raw bias carry < 9437184524288 := by
  obtain ⟨low, high⟩ := learned
  have rate : |calibrated raw bias| ≤ 589824 := by
    unfold calibrated
    rw [abs_le]
    omega
  have scaled : |calibrated raw bias * fullScale * dt| ≤ 589824 * 2000 * 8000 := by
    rw [abs_mul, abs_mul]
    have scale' : |(fullScale : Int)| ≤ 2000 := by
      rw [abs_of_nonneg (Int.natCast_nonneg _)]
      exact_mod_cast scale
    have time' : |dt| ≤ 8000 := by
      rw [abs_of_nonneg time.1]
      exact time.2
    gcongr
  rw [abs_le] at scaled
  unfold stepNumerator
  omega

theorem stepAxis_inRange {n theta : Int} (angle : Safety.AngleInRange theta)
    (bounds : -9437184524288 < n ∧ n < 9437184524288) :
    Safety.AngleInRange (stepAxis n theta).1 ∧ -524288 < (stepAxis n theta).2 ∧ (stepAxis n theta).2 < 524288 := by
  obtain ⟨low, high⟩ := angle
  have quotient := truncDiv_spec n (show (0 : Int) < angleUnit by decide)
  have unit : angleUnit = 524288 := rfl
  rw [unit] at quotient
  obtain ⟨-, above, below⟩ := quotient
  have increment : -18000001 ≤ truncDiv n angleUnit ∧ truncDiv n angleUnit ≤ 18000001 := by
    rw [unit]
    omega
  exact ⟨wrapAngle_bounds (by omega) (by omega), by rwa [stepAxis, unit], by rwa [stepAxis, unit]⟩

/-- An entry that joins the history (R40). -/
theorem Integrator.append_inRange {g : Integrator} {e : HistoryEntry} (angle : Safety.OnAxes Safety.AngleInRange e.theta)
    (h : g.InRange) : (g.append e).InRange := by
  obtain ⟨theta, history, -, carry⟩ := h
  have joined : (g.append e).history = appendBounded 128 g.history e := by simp only [Integrator.append]
  refine ⟨theta, ?_, ?_, carry⟩
  · intro x hx
    rw [joined] at hx
    rcases mem_appendBounded hx with old | rfl
    · exact history x old
    · exact angle
  · rw [joined, appendBounded_length]
    exact Nat.min_le_left 128 _

theorem Integrator.seed_inRange {g : Integrator} (s : Sample) (h : g.InRange) : (g.seed s).InRange :=
  Integrator.append_inRange (g := { g with state := .integrating }) h.1 h

/-- The values of a sample that an integration uses. -/
structure Sample.InRange (s : Sample) : Prop where
  yaw : -32768 ≤ s.gyro.yaw ∧ s.gyro.yaw ≤ 32768
  pitch : -32768 ≤ s.gyro.pitch ∧ s.gyro.pitch ≤ 32768
  roll : -32768 ≤ s.gyro.roll ∧ s.gyro.roll ≤ 32768
  bias : Safety.OnAxes Safety.BiasInRange s.bias

theorem MotionPort.sample_inRange {p : MotionPort} (map : Axes AxisSource) (bs : List Byte) (h : p.InRange) :
    (p.sample map bs).InRange :=
  ⟨AxisSource.gyro_bounds _ bs, AxisSource.gyro_bounds _ bs, AxisSource.gyro_bounds _ bs, h.1⟩

/-- R37: the time a step is taken over, when the stamp has moved forward. -/
theorem usedTime_bounds {dt : Int} {period : Nat} (later : 0 < dt) (short : period ≤ 2000) :
    0 ≤ (if gapStep dt period then (period : Int) else dt) ∧ (if gapStep dt period then (period : Int) else dt) ≤ 8000 := by
  split
  case isTrue => omega
  case isFalse within =>
    simp only [gapStep, decide_eq_true_eq] at within
    omega

theorem Integrator.integrate_inRange {g : Integrator} {fullScale period : Nat} {last : Stamp} {s : Sample}
    (scale : fullScale ≤ 2000) (short : period ≤ 2000) (later : 0 < stampDiff s.stamp last) (sample : s.InRange)
    (h : g.InRange) : (g.integrate fullScale period last s).InRange := by
  have time := usedTime_bounds later short
  obtain ⟨⟨yaw, pitch, roll⟩, history, length, ⟨carryYaw, carryPitch, carryRoll⟩⟩ := h
  obtain ⟨rawYaw, rawPitch, rawRoll, ⟨biasYaw, biasPitch, biasRoll⟩⟩ := sample
  have onYaw := stepAxis_inRange yaw (stepNumerator_bounds scale time rawYaw biasYaw carryYaw)
  have onPitch := stepAxis_inRange pitch (stepNumerator_bounds scale time rawPitch biasPitch carryPitch)
  have onRoll := stepAxis_inRange roll (stepNumerator_bounds scale time rawRoll biasRoll carryRoll)
  have angles : Safety.OnAxes Safety.AngleInRange
      ⟨(stepAxis _ g.theta.yaw).1, (stepAxis _ g.theta.pitch).1, (stepAxis _ g.theta.roll).1⟩ :=
    ⟨onYaw.1, onPitch.1, onRoll.1⟩
  exact Integrator.append_inRange angles ⟨angles, history, length, ⟨onYaw.2, onPitch.2, onRoll.2⟩⟩

theorem MotionPort.nominalPeriod_le {p : MotionPort} {q : MotionProfile} (profile : p.profile = some q)
    (range : Safety.ProfileInRange q) : p.nominalPeriod ≤ 2000 := by
  obtain ⟨-, rate, -⟩ := range
  rw [MotionPort.nominalPeriod, profile]
  rcases rate with rate | rate | rate <;> simp [rate]

/-- The stamps of the integrator and the Motion Port agree, so an accepted sample lies after the last one integrated (R25, R37). -/
theorem MotionPort.later_of_accepts {p : MotionPort} {s : Sample} {last : Stamp} (accepted : p.accepts s = true)
    (prev : p.prevStamp = some last) : 0 < stampDiff s.stamp last := by
  rw [MotionPort.accepts, prev] at accepted
  exact (stampLater_iff _ _).1 accepted

/-- An accepted sample is handed on and taken (R26, R36, R37). -/
theorem intakeInRange_of_accepted {g : Integrator} {p : MotionPort} {q : MotionProfile} {s : Sample}
    (profile : p.profile = some q) (sample : p.InRange → s.InRange) (accepted : p.accepts s = true) (h : IntakeInRange g p) :
    IntakeInRange (g.take q p.nominalPeriod s) (p.handOn s) := by
  obtain ⟨range, port, ⟨stopped, agree⟩⟩ := h
  have bounds := port.2 q profile
  unfold Integrator.take
  split
  case h_1 idle => exact ⟨range, port, fun _ => idle, by simp [idle]⟩
  case h_2 seeding =>
    refine ⟨Integrator.seed_inRange s range, port, fun out => ?_, fun _ => ⟨rfl, rfl⟩⟩
    simp [stopped out] at seeding
  case h_3 integrating missing => simp [missing] at agree; exact absurd integrating agree
  case h_4 last integrating known =>
    obtain ⟨-, prev⟩ := agree integrating
    have later := MotionPort.later_of_accepts accepted (prev.trans known)
    refine ⟨Integrator.integrate_inRange bounds.1 (MotionPort.nominalPeriod_le profile bounds) later (sample port) range,
      port, fun out => ?_, fun _ => ⟨rfl, rfl⟩⟩
    simp [stopped out] at integrating

/-! ### Samples (R22 to R29, R71 to R73) -/

theorem learnBias_inRange (raw bias : Int) : Safety.BiasInRange (learnBias raw bias) :=
  clampInt_bounds (by decide) _

theorem MotionPort.stillTest_inRange {p : MotionPort} (q : MotionProfile) (s : Sample) (h : p.InRange) :
    (p.stillTest q s).InRange := by
  dsimp only [MotionPort.stillTest]
  split
  · exact h
  · split <;> exact h
  · split
    · exact ⟨⟨learnBias_inRange _ _, learnBias_inRange _ _, learnBias_inRange _ _⟩, h.2⟩
    · exact h

theorem MotionPort.stillTest_state (p : MotionPort) (q : MotionProfile) (s : Sample) : (p.stillTest q s).state = p.state := by
  dsimp only [MotionPort.stillTest]
  (repeat' split) <;> rfl

theorem MotionPort.stillTest_prevStamp (p : MotionPort) (q : MotionProfile) (s : Sample) :
    (p.stillTest q s).prevStamp = p.prevStamp := by
  dsimp only [MotionPort.stillTest]
  (repeat' split) <;> rfl

theorem State.stillTest_keeps (s : State) (q : MotionProfile) (r : Sample) : s.Keeps (s.modMotion fun p => p.stillTest q r) :=
  State.modMotion_keeps (MotionPort.stillTest_state _ q r) (MotionPort.stillTest_prevStamp _ q r)
    (MotionPort.stillTest_inRange q r)

theorem State.incidentSample_keeps (s : State) (r : Sample) : s.Keeps (s.incidentSample r) := by
  unfold State.incidentSample
  exact .trans (s.keeps_incident _) (.ite (fun _ => State.windowReport_keeps _ true) fun _ => .refl _)

/-- The Motion Port hands an accepted sample on, and the integrator takes it. -/
theorem State.integrated_keeps {s : State} {q : MotionProfile} {r : Sample} (profile : s.motion.profile = some q)
    (sample : s.motion.InRange → r.InRange) (accepted : s.motion.accepts r = true) :
    s.Keeps ((s.modMotion fun p => p.handOn r).integrateSample q r) := by
  unfold State.integrateSample
  exact .trans (s.keeps_intake (intakeInRange_of_accepted profile sample accepted))
    (State.keeps_modMedia_of_ports (Media.historyNotice_ports _ _ _ _))

theorem State.burstSample_keeps (s : State) (inBytes : List Byte) (incidentFirst : Bool) :
    s.Keeps (s.burstSample inBytes incidentFirst) := by
  unfold State.burstSample
  split
  case h_1 => exact .refl s
  case h_2 q profile =>
    refine .ite (fun accepted => ?_) fun _ => State.modMotion_keeps rfl rfl id
    unfold State.handOn
    refine .trans (State.integrated_keeps profile (MotionPort.sample_inRange _ _) accepted) (.ite (fun _ => ?_) fun _ => ?_)
    · exact (State.incidentSample_keeps _ _).trans (State.stillTest_keeps _ q _)
    · exact (State.stillTest_keeps _ q _).trans (State.incidentSample_keeps _ _)

theorem State.burstEnd_keeps (s : State) (inBytes : List Byte) (incidentFirst : Bool) :
    s.Keeps (s.burstEnd inBytes incidentFirst) := by
  have ended : s.Keeps (s.modMotion MotionPort.endTransfer) := State.modMotion_keeps rfl rfl id
  unfold State.burstEnd
  refine .ite (fun _ => .ite (fun _ => .ite (fun _ => ?_) fun _ => ?_) fun _ => ended) fun _ => .refl s
  · exact ended.trans (State.stopIntake_keeps _)
  · exact ended.trans (State.burstSample_keeps _ _ _)

/-! ### The exchange while the link is up (R190 to R193) -/

/-- With the rail ON, or the link not down, nothing is asked of the link. -/
theorem State.Keeps.of_up {s t : State} (h : s.KeepsValues t) (rail : t.railOn = s.railOn)
    (up : s.railOn = false → ¬ s.media.LinkDown) : s.Keeps t :=
  ⟨h, fun down off => absurd (down (rail ▸ off)) (up (rail ▸ off))⟩

theorem State.up_of_running {s : State} (h : s.media.exch.running = true) : s.railOn = false → ¬ s.media.LinkDown :=
  fun _ down => by simp [down.not_running] at h

theorem State.up_of_pickup {s : State} {p : Pickup} (h : s.media.exch.pickup = some p) :
    s.railOn = false → ¬ s.media.LinkDown := by
  rintro - ⟨-, -, -, -, -, -, none, -⟩
  simp [none] at h

theorem State.modExch_keepsValues (s : State) (f : Exchange → Exchange) : s.KeepsValues (s.modExch f) :=
  s.modMedia_keepsValues _

theorem State.exchangeFault_keepsValues (s : State) : s.KeepsValues s.exchangeFault := by
  have faulted := s.modMedia_keepsValues fun m => (m.modExch Exchange.fault).writerFault s.env
  dsimp only [State.exchangeFault]
  split
  · exact faulted.trans (State.modMedia_keepsValues _ _)
  · exact faulted

theorem State.exchangeFault_power (s : State) : s.exchangeFault.power = s.power := by
  dsimp only [State.exchangeFault]
  split <;> rfl

theorem State.exchangeFault_keeps {s : State} (up : s.railOn = false → ¬ s.media.LinkDown) : s.Keeps s.exchangeFault :=
  .of_up s.exchangeFault_keepsValues (congrArg (fun p : Power => p.state.rail) s.exchangeFault_power) up

theorem State.hostWrite_keeps {s : State} {f : State → State} (h : s.railOn = true → s.Keeps (f s)) :
    s.Keeps (s.hostWrite f) :=
  .ite h fun _ => .refl s

/-- A write of the host to the exchange, with the rail ON. -/
theorem State.hostExch_keeps (s : State) (f : Exchange → Exchange) : s.Keeps (s.hostWrite fun s => s.modExch f) :=
  State.hostWrite_keeps fun on => .of_up (s.modMedia_keepsValues _) rfl fun off => by simp [on] at off

theorem Media.mirrorMounted_rest (m : Media) (env : Env) : (m.mirrorMounted env).rest = m.rest := by
  unfold Media.mirrorMounted
  split <;> simp

theorem State.runStart_keeps {s : State} (on : s.railOn = true) : s.Keeps s.runStart := by
  have up : s.railOn = false → ¬ s.media.LinkDown := fun off => by simp [on] at off
  unfold State.runStart
  split
  case h_1 =>
    refine .ite (fun _ => ?_) fun _ => .of_up (s.modMedia_keepsValues _) rfl up
    have run : s.Keeps (s.modExch fun e => { e with run := true }) := .of_up (s.modMedia_keepsValues _) rfl up
    exact run.trans (State.exchangeFault_keeps fun off => absurd (on.symm.trans off) (by decide))
  case h_2 | h_3 => exact .refl s

/-! ### Pickups (R193 to R195) -/

theorem State.pickupDue_keeps (s : State) : s.Keeps (s.modExch fun e => e.pickupDue s.now) := by
  refine State.keeps_modExch fun down => ?_
  have same : s.media.exch.pickupDue s.now = s.media.exch := by simp [Exchange.pickupDue, down.not_running]
  rw [Media.modExch, same]
  exact down

theorem State.periodExpiry_keeps (s : State) : s.Keeps (s.modExch fun e => e.periodExpiry s.now) := by
  refine State.keeps_modExch fun down => ?_
  have same : s.media.exch.periodExpiry s.now = s.media.exch := by simp [Exchange.periodExpiry, down.not_running]
  rw [Media.modExch, same]
  exact down

theorem State.endPickup_keeps (s : State) : s.Keeps s.endPickup := by
  refine State.keeps_modExch fun down => ?_
  have ended : s.media.exch.endPickup s.now = { s.media.exch with pickup := none, pickupHeld := false } := by
    have still := down.not_running
    simp only [Exchange.running] at still
    simp [Exchange.endPickup, Exchange.running, still]
  rw [Media.modExch, ended]
  obtain ⟨state, run, period, enables, lo, hi, -, slot⟩ := down
  exact ⟨state, run, period, enables, lo, hi, rfl, slot⟩

theorem State.noticePickup_keeps (s : State) (stamp : Stamp) : s.Keeps (s.noticePickup stamp) :=
  State.keeps_modMedia_of_rest (Media.pickupComplete_rest _ _ _)

theorem State.acceptRequest_keeps (s : State) (stamp : Stamp) (slot : Nat) (bs : List Byte) :
    s.Keeps (s.acceptRequest stamp slot bs) := by
  unfold State.acceptRequest
  refine .trans (State.keeps_modExch (f := fun e => { e.markRequest slot (editionAt bs 0) with
    working := e.working.set slot (some ⟨editionAt bs 0, (byteAt bs 2).toNat⟩) }) id) ?_
  dsimp only
  split
  · exact State.answer_keeps _ slot _
  · exact State.keeps_modExch id

theorem State.offerRequest_keeps (stamp : Stamp) (bytes : List Byte) (s : State) (slot : Nat) :
    s.Keeps (s.offerRequest stamp bytes slot) := by
  unfold State.offerRequest
  refine .ite (fun _ => State.keeps_modExch id) fun _ => .ite (fun _ => ?_) fun _ => .refl s
  split
  · exact s.acceptRequest_keeps stamp slot _
  · exact .ite (fun _ => State.keeps_modExch id) fun _ => .refl s

theorem State.offerChunk_keeps (stamp : Stamp) (bytes : List Byte) (s : State) (slot : Nat) :
    s.Keeps (s.offerChunk stamp bytes slot) := by
  unfold State.offerChunk
  refine .ite (fun _ => State.keeps_modExch id) fun _ => .ite (fun _ => ?_) fun _ => .refl s
  split
  · refine .trans (State.keeps_modExch (f := fun e => e.markChunk slot _) id) (State.keeps_modMedia_of_rest ?_)
    exact Media.takeChunk_rest _ _ _ _ _
  · exact .ite (fun _ => State.keeps_modExch id) fun _ => .refl s

theorem State.foldl_keeps {α : Type} {f : State → α → State} (h : ∀ (s : State) (a : α), s.Keeps (f s a)) (l : List α) (s : State) :
    s.Keeps (l.foldl f s) := by
  induction l generalizing s with
  | nil => exact .refl s
  | cons a l ih => exact (h s a).trans (ih (f s a))

theorem State.foldl_field {α β : Type} (g : State → β) {f : State → α → State} (h : ∀ s a, g (f s a) = g s) (l : List α)
    (s : State) : g (l.foldl f s) = g s := by
  induction l generalizing s with
  | nil => rfl
  | cons a l ih => exact (ih (f s a)).trans (h s a)

theorem State.offerRequest_power (stamp : Stamp) (bytes : List Byte) (s : State) (slot : Nat) :
    (s.offerRequest stamp bytes slot).power = s.power := by
  simp only [State.offerRequest, State.acceptRequest]
  (repeat' split) <;> rfl

theorem State.offerChunk_power (stamp : Stamp) (bytes : List Byte) (s : State) (slot : Nat) :
    (s.offerChunk stamp bytes slot).power = s.power := by
  simp only [State.offerChunk]
  (repeat' split) <;> rfl

/-- A pickup with the link up goes on to the chunk board, or ends. -/
theorem State.Keeps.afterRequests {s t : State} (p : Pickup) (h : s.Keeps t) (power : t.power = s.power)
    (up : s.railOn = false → ¬ s.media.LinkDown) : s.Keeps (t.afterRequests p) := by
  unfold State.afterRequests
  refine .ite (fun _ => (h.trans (State.noticePickup_keeps _ _)).trans (State.endPickup_keeps _)) fun _ => ?_
  exact .of_up (h.toKeepsValues.trans (State.modExch_keepsValues _ _)) (congrArg (fun q : Power => q.state.rail) power) up

/-- A pickup with the link up goes on to the report page, or ends. -/
theorem State.Keeps.afterChunks {s t : State} (p : Pickup) (h : s.Keeps t) (power : t.power = s.power)
    (up : s.railOn = false → ¬ s.media.LinkDown) : s.Keeps (t.afterChunks p) := by
  have noticed := h.trans (t.noticePickup_keeps p.stamp)
  unfold State.afterChunks
  refine .ite (fun _ => noticed.trans (State.endPickup_keeps _)) fun _ => ?_
  unfold State.writeReport
  exact .of_up (noticed.toKeepsValues.trans (State.modExch_keepsValues _ _))
    (congrArg (fun q : Power => q.state.rail) power) up

theorem State.requestsRead_keeps (s : State) (transfer : Nat) (bytes : List Byte) :
    s.Keeps (s.requestsRead transfer bytes) := by
  unfold State.requestsRead
  split
  case h_2 => exact .refl s
  case h_1 p _ pickup =>
    refine .afterRequests p ?_ ?_ (State.up_of_pickup pickup)
    · exact (s.dropTransfer_keeps transfer).trans (State.foldl_keeps (State.offerRequest_keeps p.stamp bytes) _ _)
    · exact State.foldl_field State.power (State.offerRequest_power p.stamp bytes) _ _

theorem State.chunksRead_keeps (s : State) (transfer : Nat) (bytes : List Byte) :
    s.Keeps (s.chunksRead transfer bytes) := by
  unfold State.chunksRead
  split
  case h_2 => exact .refl s
  case h_1 p _ pickup =>
    refine .afterChunks p ?_ ?_ (State.up_of_pickup pickup)
    · exact (s.dropTransfer_keeps transfer).trans (State.foldl_keeps (State.offerChunk_keeps p.stamp bytes) _ _)
    · exact State.foldl_field State.power (State.offerChunk_power p.stamp bytes) _ _

/-! ### Records and failed transfers (R190, R196) -/

theorem State.recordSkipped_keeps (s : State) (k : RecordKind) : s.Keeps (s.recordSkipped k) := by
  cases k with
  | answer slot => exact s.freeSlot_keeps slot
  | report => exact s.endPickup_keeps
  | receipt | correction | mirror => exact .refl s

theorem State.recordWritten_keeps (s : State) (k : RecordKind) : s.Keeps (s.recordWritten k) := by
  cases k with
  | answer slot => exact (s.freeSlot_keeps slot).trans (State.raise_keeps _ _)
  | receipt | correction => exact s.raise_keeps _
  | mirror => exact .ite (fun _ => s.raise_keeps _) fun _ => .refl s
  | report => exact s.endPickup_keeps

theorem State.partWritten_keeps (s : State) (r : Record) (part : RecordPart) : s.Keeps (s.partWritten r part) := by
  cases part with
  | head | body => exact .ite (fun _ => State.keeps_modExch id) fun _ => s.recordSkipped_keeps r.kind
  | tail => exact s.recordWritten_keeps r.kind

theorem State.recordEnd_keeps (s : State) (transfer : Nat) : s.Keeps (s.recordEnd transfer) := by
  unfold State.recordEnd
  split
  · exact (s.dropTransfer_keeps transfer).trans (State.partWritten_keeps _ _ _)
  · exact .refl s

theorem State.sheetEnd_keeps (s : State) (sheet : Option (List Byte)) :
    s.Keeps (s.modMedia fun m => m.sheetEnd s.env s.orientation sheet) :=
  State.keeps_modMedia_of_ports (Media.sheetEnd_ports _ _ _ _)

theorem State.pickupLost_keeps (s : State) : s.Keeps s.pickupLost := by
  unfold State.pickupLost
  split
  · exact .refl s
  · exact (s.noticePickup_keeps _).trans (State.endPickup_keeps _)

theorem State.transferFailed_keeps (s : State) (p : Purpose) : s.Keeps (s.transferFailed p) := by
  cases p with
  | requestBoard | chunkBoard => exact s.pickupLost_keeps
  | sheet live => exact .ite (fun _ => s.sheetEnd_keeps none) fun _ => .refl s
  | profileSection slot _ => exact s.freeSlot_keeps slot
  | payload live => exact .ite (fun _ => State.keeps_modMedia_of_rest (Media.fetchFailed_rest _ _)) fun _ => .refl s
  | readBackWrite live => exact .ite (fun _ => State.keeps_modMedia_of_rest (Media.pieceLost_rest _ _)) fun _ => .refl s
  | record r _ => exact s.recordSkipped_keeps r.kind

theorem State.linkFailed_keeps (s : State) (transfer : Nat) : s.Keeps (s.linkFailed transfer) := by
  unfold State.linkFailed
  split
  · exact .refl s
  · refine .ite (fun faulted => ?_) fun _ => (s.dropTransfer_keeps transfer).trans (State.transferFailed_keeps _ _)
    exact State.exchangeFault_keeps (State.up_of_running (Bool.and_eq_true_iff.1 faulted).1)

theorem State.linkUnanswered_keeps (s : State) (transfer : Nat) : s.Keeps (s.linkUnanswered transfer) := by
  unfold State.linkUnanswered
  split
  · exact .refl s
  · refine .ite (fun _ => .ite (fun running => ?_) fun _ => ?_) fun _ => .refl s
    · exact State.exchangeFault_keeps (State.up_of_running running)
    · exact (s.dropTransfer_keeps transfer).trans (State.transferFailed_keeps _ _)

/-! ### Profile sections (R15, R16, R47, R70, R84, R153, R198) -/

/-- A stepped field takes the smallest value or one that is allowed. -/
theorem stepDown_mem (smallest : Nat) (allowed : List Nat) (x : Nat) :
    stepDown smallest allowed x = smallest ∨ stepDown smallest allowed x ∈ allowed := by
  unfold stepDown
  induction allowed generalizing smallest with
  | nil => exact .inl rfl
  | cons a rest ih =>
    rcases ih (if a ≤ x then a else smallest) with same | later
    · rw [List.foldl_cons, same]
      split
      · exact .inr (List.mem_cons_self ..)
      · exact .inl rfl
    · exact .inr (List.mem_cons_of_mem a later)

theorem parseMotion_inRange (bs : List Byte) : Safety.ProfileInRange (parseMotion bs).value := by
  have scale := stepDown_mem 500 [500, 1000, 2000] (leNat bs 10 2)
  have rate := stepDown_mem 500 [500, 1000, 2000] (leNat bs 8 2)
  simp only [List.mem_cons, List.not_mem_nil, or_false] at scale rate
  have bias (x : Int) : Safety.BiasInRange (clampInt (-65536) 65536 x) := clampInt_bounds (by decide) x
  refine ⟨?_, ?_, bias _, bias _, bias _⟩
  · simp only [parseMotion]
    omega
  · simp only [parseMotion]
    omega

theorem State.judgeMotion_keeps {s t : State} {bs : List Byte} {clamped : Bool}
    (h : s.judgeMotion bs = .taken t clamped) : s.Keeps t := by
  unfold State.judgeMotion at h
  split at h
  · cases h
  · rename_i stopped
    split at h
    · cases h
      refine s.keeps_intake (g := s.integ) ?_
      rintro ⟨hg, ⟨-, -⟩, ⟨idle, -⟩⟩
      have range := parseMotion_inRange bs
      refine ⟨hg, ⟨range.2.2, ?_⟩, fun _ => idle stopped, by simp [idle stopped]⟩
      rintro q ⟨⟩
      exact range
    · cases h

theorem State.judgeSteady_keeps {s t : State} {bs : List Byte} {clamped : Bool}
    (h : s.judgeSteady bs = .taken t clamped) : s.Keeps t := by
  unfold State.judgeSteady at h
  split at h
  · cases h
    exact State.keeps_modMedia_of_ports (Media.loadSteady_ports _ _)
  · cases h

theorem State.judgeVolume_keeps {s t : State} {bs : List Byte} {clamped : Bool}
    (h : s.judgeVolume bs = .taken t clamped) : s.Keeps t := by
  unfold State.judgeVolume at h
  split at h
  · split at h
    · cases h
      exact (State.keeps_modMedia_of_rest (Media.modWriter_rest _ _)).trans (State.modIncident_keeps _)
    · cases h
  · cases h

/-- The charge options change together with what was formed from them (R153, R162, R171). -/
theorem State.takeOptions_keeps (s : State) (o : ChargeOptions) : s.Keeps (s.takeOptions o) :=
  ⟨⟨rfl, id, Gauge.newCapacity_inRange o, fun h => Charge.recap_withinCaps o h.2, id⟩, id⟩

theorem State.judgeCharge_keeps {s t : State} {bs : List Byte} {clamped : Bool}
    (h : s.judgeCharge bs = .taken t clamped) : s.Keeps t := by
  unfold State.judgeCharge at h
  split at h
  · cases h
    exact s.takeOptions_keeps _
  · cases h

theorem State.judge_keeps {s t : State} {code : Nat} {bs : List Byte} {clamped : Bool}
    (h : s.judge code bs = .taken t clamped) : s.Keeps t := by
  unfold State.judge at h
  split at h
  · exact State.judgeMotion_keeps h
  · exact State.judgeSteady_keeps h
  · exact State.judgeVolume_keeps h
  · exact State.judgeCharge_keeps h

theorem State.sectionRead_keeps (s : State) (slot code : Nat) (bs : List Byte) : s.Keeps (s.sectionRead slot code bs) := by
  have counted : s.Keeps (s.modExch fun e => { e with torn := bump 65535 e.torn }) := State.keeps_modExch id
  unfold State.sectionRead
  refine .ite (fun _ => counted.trans (State.answer_keeps _ _ _)) fun _ => .ite (fun _ => s.answer_keeps _ _) fun _ => ?_
  split
  · exact s.answer_keeps _ _
  · exact s.answer_keeps _ _
  · rename_i judged
    exact (State.judge_keeps judged).trans (State.answer_keeps _ _ _)

theorem State.sectionEnd_keeps (s : State) (transfer : Nat) (bytes : List Byte) : s.Keeps (s.sectionEnd transfer bytes) := by
  unfold State.sectionEnd
  split
  · exact (s.dropTransfer_keeps transfer).trans (State.sectionRead_keeps _ _ _ _)
  · exact .refl s

/-! ### Power events and resets (R12, R33, R46, R167, R176, R178, R185, R188, R191) -/

theorem State.cutoff_keeps (s : State) : s.Keeps s.cutoff := by
  have locked : s.Keeps (s.modPower fun p => { p with cutoffLock := true }) := State.modPower_keeps rfl
  dsimp only [State.cutoff]
  split
  case h_1 => exact locked.trans (State.enterShutting_keeps _ _)
  case h_2 => exact locked.trans (State.modPower_keeps rfl)
  all_goals exact locked

theorem State.supplyCut_keeps (s : State) : s.Keeps s.supplyCut := by
  unfold State.supplyCut
  split
  case h_1 => exact (State.modPower_keeps rfl).trans (State.cutRail_keeps _)
  case h_2 => exact s.cutRail_keeps
  all_goals exact .refl s

theorem Card.endRun_rest (c : Card) (r : Run) (o : RunOutcome) (completion : Stamp) :
    (c.endRun r o completion).rest = c.rest := by
  dsimp only [Card.endRun]
  split <;> rfl

theorem Card.supplyWarning_rest (c : Card) (now : Stamp) : (c.supplyWarning now).rest = c.rest := by
  unfold Card.supplyWarning
  split
  · split
    · exact Card.endRun_rest _ _ _ _
    · rfl
  · rfl

theorem Media.supplyWarning_rest (m : Media) (now : Stamp) : (m.setCard (m.card.supplyWarning now)).rest = m.rest :=
  Media.rest_eq rfl rfl (Card.supplyWarning_rest _ _)

theorem State.warn_keeps (s : State) : s.Keeps s.warn := by
  have raised : s.Keeps ((s.modGauge fun g => { g with warning := true }).raise .gauge) :=
    (State.modGauge_keeps id).trans (State.raise_keeps _ _)
  unfold State.warn
  refine .trans (.trans (.trans raised (State.keeps_modMedia_of_rest ?_)) (State.keeps_modMedia_of_rest ?_))
    (State.supplyCut_keeps _)
  · exact Media.halt_rest _ _
  · exact Media.supplyWarning_rest _ _

theorem State.slowTick_keeps (s : State) : s.Keeps s.slowTick := by
  unfold State.slowTick
  have ticked : s.Keeps (({ s with clock := s.clock.tick s.completes } : State).modPower fun p =>
      { p with settleCount := if s.settling then p.settleCount + 1 else p.settleCount }) :=
    (s.keeps_clock (Clock.tick_inRange _)).trans (State.modPower_keeps rfl)
  exact .ite (fun _ => ticked.trans (State.setPower_keeps _ _)) fun _ => ticked

/-- The part at the release of a COLD or SUPPLY reset, before it tells of what it finds. -/
def State.released (s : State) (kind : ResetKind) (usb aux : Bool) : State :=
  let power := s.power.released kind (usb || aux)
  { State.reset with
    clock := .released (usb || aux)
    power := power
    options := (readStore power.block power.blockTorn).2
    charge := { Charge.reset with usb := .released usb, aux := .released aux }
    gauge := { Gauge.reset with slowCadence := !(usb || aux), reserveLevel := (readStore power.block power.blockTorn).2.reserve }
    media := { Media.reset with card := { Card.reset with detectLine := s.media.card.detectLine } }
    pending := s.pending }

theorem State.hardReset_eq (s : State) (kind : ResetKind) (usb aux low : Bool) :
    s.hardReset kind usb aux low =
      if low then ((s.released kind usb aux).raiseIf (usb || aux) .charge).warn
      else (s.released kind usb aux).raiseIf (usb || aux) .charge := rfl

theorem IntakeInRange.reset : IntakeInRange Integrator.reset MotionPort.reset := by
  simp [IntakeInRange, Integrator.InRange, MotionPort.InRange, Integrator.Follows, Safety.OnAxes, Safety.AngleInRange,
    Safety.BiasInRange, Integrator.reset, MotionPort.reset, Axes.const]

theorem InputUnit.released_not_present (inWindow : Bool) : (InputUnit.released inWindow).state ≠ .present := by
  cases inWindow <;> simp [InputUnit.released, InputUnit.reset, InputUnit.enter]

theorem Charge.released_withinCaps (usb aux : Bool) (o : ChargeOptions) :
    ({ Charge.reset with usb := .released usb, aux := .released aux } : Charge).WithinCaps o := by
  refine ⟨⟨le_refl _, le_refl _, fun recording => by cases recording⟩, ?_⟩
  simp [Charge.choice, InputUnit.released_not_present, Charge.reset]

theorem State.released_keeps (s : State) (kind : ResetKind) (usb aux : Bool) : s.Keeps (s.released kind usb aux) where
  pending := rfl
  clock _ := ⟨Nat.zero_lt_succ 127, Nat.zero_lt_succ 511⟩
  gauge _ := Gauge.inRange_of_carry_zero (le_refl _) (fullCharge_nonneg _) rfl (Nat.zero_lt_succ 999) (Nat.zero_le 2)
  charge _ := Charge.released_withinCaps usb aux _
  intake _ := IntakeInRange.reset
  link _ _ := ⟨rfl, rfl, rfl, rfl, rfl, rfl, rfl, rfl, rfl⟩

theorem State.hardReset_keeps (s : State) (kind : ResetKind) (usb aux low : Bool) :
    s.Keeps (s.hardReset kind usb aux low) := by
  rw [State.hardReset_eq]
  have told := (s.released_keeps kind usb aux).trans (State.raiseIf_keeps _ (usb || aux) .charge)
  exact .ite (fun _ => told.trans (State.warn_keeps _)) fun _ => told

theorem Card.wakeEnd_detect (c : Card) : c.wakeEnd.detect = c.detect := by
  unfold Card.wakeEnd
  split <;> rfl

theorem Card.wakeEnd_debounce (c : Card) : c.wakeEnd.debounce = c.debounce := by
  unfold Card.wakeEnd
  split <;> rfl

@[simp] theorem Card.identify_detect (c : Card) (now : Stamp) (recovery : Bool) :
    (c.identify now recovery).detect = c.detect :=
  Card.wakeEnd_detect _

@[simp] theorem Card.identify_debounce (c : Card) (now : Stamp) (recovery : Bool) :
    (c.identify now recovery).debounce = c.debounce :=
  Card.wakeEnd_debounce _

theorem Media.warm_linkDown {m : Media} (env : Env) (now : Stamp) (down : m.LinkDown) :
    ((m.steadyStop.warmWriter env).modCard fun c => c.warm now).LinkDown := by
  obtain ⟨state, run, period, enables, lo, hi, pickup, detect, debounce⟩ :=
    down.steadyStop.of_rest (Media.warmWriter_rest _ env)
  refine ⟨state, run, period, enables, lo, hi, pickup, ?_, ?_⟩
  all_goals
    simp only [Media.modCard_card, Card.warm]
    split <;> simp [detect, debounce]

theorem State.warmIncident_eq (s : State) : s.warmIncident =
    if decide (s.incident.window = .incident) then
      ((s.modIncident Incident.warm).raiseIf (!s.incident.requests.isEmpty) .incident).windowReport false
    else (s.modIncident Incident.warm).raiseIf (!s.incident.requests.isEmpty) .incident := rfl

theorem State.warmIncident_keeps (s : State) : s.Keeps s.warmIncident := by
  rw [State.warmIncident_eq]
  have told := (State.modIncident_keeps (s := s) Incident.warm).trans
    (State.raiseIf_keeps _ (!s.incident.requests.isEmpty) .incident)
  exact .ite (fun _ => told.trans (State.windowReport_keeps _ _)) fun _ => told

/-- Intake that a WARM reset finds running has stopped (R32). -/
def State.warmReport (s : State) : State :=
  if s.motion.state = .running then s.intakeReport else s

/-- The Motion Port and the integrator after a WARM reset (R32, R46). -/
def State.warmIntake (s : State) : State :=
  { s with motion := s.motion.warm, integ := .reset }

/-- The four media blocks after a WARM reset, but for the exchange's registers (R68, R131, R149). -/
def State.warmMedia (s : State) : State :=
  s.modMedia fun m => (m.steadyStop.warmWriter s.env).modCard fun c => c.warm s.now

theorem State.warmReset_eq (s : State) :
    s.warmReset = (s.modExch Exchange.warm).warmIncident.warmReport.warmIntake.warmMedia.modPower fun p =>
      { p with
        record := p.record.after .warm
        storing := p.storing.map fun st => { st with slot := none } } := rfl

theorem State.warmIntake_keeps (s : State) : s.Keeps s.warmIntake := by
  refine s.keeps_intake ?_
  rintro ⟨-, port, -⟩
  exact ⟨IntakeInRange.reset.1, port, fun _ => rfl, nofun⟩

theorem State.warmReset_keeps (s : State) : s.Keeps s.warmReset := by
  have shut : s.Keeps (s.modExch Exchange.warm) := State.keeps_modExch fun down =>
    ⟨rfl, rfl, rfl, rfl, rfl, rfl, rfl, down.2.2.2.2.2.2.2⟩
  have report (t : State) : t.Keeps t.warmReport := .ite (fun _ => t.intakeReport_keeps) fun _ => .refl t
  have media (t : State) : t.Keeps t.warmMedia := State.keeps_modMedia (Media.warm_linkDown _ _)
  rw [State.warmReset_eq]
  exact ((((shut.trans (State.warmIncident_keeps _)).trans (report _)).trans (State.warmIntake_keeps _)).trans
    (media _)).trans (State.modPower_keeps rfl)

/-! ### The Card Port's work leaves the detect level and its debounce alone (R137) -/

/-- The detect level and its debounce. -/
def Card.slot (c : Card) : Bool × Option (Bool × Stamp) :=
  (c.detect, c.debounce)

theorem Card.slot_of_rest {c d : Card} (h : d.rest = c.rest) : d.slot = c.slot := by
  have slots := congrArg Card.slot h
  exact slots

@[simp] theorem Card.identify_slot (c : Card) (now : Stamp) (recovery : Bool) : (c.identify now recovery).slot = c.slot := by
  simp [Card.slot]

@[simp] theorem Card.begin_slot (c : Card) : c.begin.slot = c.slot := rfl

@[simp] theorem Card.setRun_slot (c : Card) (r : Run) : (c.setRun r).slot = c.slot := rfl

theorem Card.endClaims_rest (c : Card) (o : RunOutcome) (now : Stamp) : (c.endClaims o now).rest = c.rest := by
  have ended (c : Card) (cls : ClaimClass) : (match c.place cls with
      | none => c
      | some _ => (c.setPlace cls none).deliver cls o [] now).rest = c.rest := by
    split <;> simp
  unfold Card.endClaims
  exact (ended _ _).trans ((ended _ _).trans (ended _ _))

@[simp] theorem Card.identFail_slot (c : Card) (now : Stamp) (timedOut : Bool) : (c.identFail now timedOut).slot = c.slot :=
  (Card.slot_of_rest (Card.endClaims_rest _ .timeout now)).trans rfl

@[simp] theorem Card.identEnd_slot (c : Card) (now : Stamp) (size : Nat) : (c.identEnd now size).slot = c.slot := by
  unfold Card.identEnd
  split
  · simp
  · rfl

@[simp] theorem Card.endRun_slot (c : Card) (r : Run) (o : RunOutcome) (completion : Stamp) :
    (c.endRun r o completion).slot = c.slot :=
  Card.slot_of_rest (Card.endRun_rest _ _ _ _)

@[simp] theorem Card.timeOutRun_slot (c : Card) (now : Stamp) (r : Run) : (c.timeOutRun now r).slot = c.slot := by
  unfold Card.timeOutRun
  simp only [Card.identify_slot]
  split <;> rfl

@[simp] theorem Card.failRead_slot (c : Card) (now : Stamp) (r : Run) : (c.failRead now r).slot = c.slot :=
  c.endRun_slot r .readError now

@[simp] theorem Card.failWrite_slot (c : Card) (now : Stamp) (r : Run) : (c.failWrite now r).slot = c.slot :=
  c.endRun_slot r .writeError now

@[simp] theorem Card.stopAnswered_slot (c : Card) : c.stopAnswered.slot = c.slot := by
  dsimp only [Card.stopAnswered]
  split <;> rfl

@[simp] theorem Card.identResponse_slot (c : Card) (now : Stamp) (step : IdentStep) (response status : Byte) :
    (c.identResponse now step response status).slot = c.slot := by
  unfold Card.identResponse
  cases step with
  | wake | capacityBlock => rfl
  | reset | capacity => dsimp only; split <;> first | rfl | exact Card.identFail_slot _ _ _
  | readiness =>
    dsimp only
    split
    · rfl
    · split
      · rfl
      · exact Card.identFail_slot _ _ _
  | status => dsimp only; split <;> simp

@[simp] theorem Card.runResponse_slot (c : Card) (now : Stamp) (r : Run) (response status : Byte) :
    (c.runResponse now r response status).slot = c.slot := by
  unfold Card.runResponse
  (repeat' split) <;> simp

@[simp] theorem Card.response_slot (c : Card) (now : Stamp) (response status : Byte) :
    (c.response now response status).slot = c.slot := by
  unfold Card.response
  (repeat' split) <;> simp

@[simp] theorem Card.noResponse_slot (c : Card) (now : Stamp) : (c.noResponse now).slot = c.slot := by
  unfold Card.noResponse
  (repeat' split) <;> simp

@[simp] theorem Card.sectorGot_slot (c : Card) (r : Run) (now : Stamp) (data : List Byte) :
    (c.sectorGot r now data).slot = c.slot := by
  dsimp only [Card.sectorGot]
  split <;> rfl

@[simp] theorem Card.blockReceived_slot (c : Card) (now : Stamp) (mark : Byte) (data : List Byte) (check : BitVec 16) :
    (c.blockReceived now mark data check).slot = c.slot := by
  dsimp only [Card.blockReceived]
  (repeat' split) <;> first | rfl | simp

@[simp] theorem Card.sectorExpiry_slot (c : Card) (now : Stamp) : (c.sectorExpiry now).slot = c.slot := by
  unfold Card.sectorExpiry
  (repeat' split) <;> simp

@[simp] theorem Card.blockAnswer_slot (c : Card) (now : Stamp) (answer : Byte) : (c.blockAnswer now answer).slot = c.slot := by
  unfold Card.blockAnswer
  (repeat' split) <;> rfl

@[simp] theorem Card.busyEnd_slot (c : Card) (now : Stamp) : (c.busyEnd now).slot = c.slot := by
  unfold Card.busyEnd
  (repeat' split) <;> simp

@[simp] theorem Card.busyExpiry_slot (c : Card) (now : Stamp) : (c.busyExpiry now).slot = c.slot := by
  unfold Card.busyExpiry
  (repeat' split) <;> simp

@[simp] theorem Card.identExpiry_slot (c : Card) (now : Stamp) : (c.identExpiry now).slot = c.slot := by
  unfold Card.identExpiry
  split <;> simp

theorem State.cardActs_keeps_of_slot (s : State) {f : Card → Card} (h : (f s.media.card).slot = s.media.card.slot) :
    s.Keeps (s.cardActs f) :=
  s.cardActs_keeps (congrArg Prod.fst h) (congrArg Prod.snd h)

/-! ### The detect line (R137, R146) -/

theorem State.detectEdge_keeps (s : State) (present : Bool) :
    s.Keeps (s.modMedia fun m => m.modCard fun c => c.lineEdge s.railOn s.now present) := by
  refine s.keeps_media fun off down => ?_
  simp only [off, Card.lineEdge]
  exact down

theorem Media.takeOut_linkDown {m : Media} (env : Env) (down : m.LinkDown) : (m.takeOut env).LinkDown := by
  obtain ⟨state, run, period, enables, lo, hi, pickup, -, -⟩ := down
  have out : (m.modCard fun c => { c with detect := false, debounce := none }).LinkDown :=
    ⟨state, run, period, enables, lo, hi, pickup, rfl, rfl⟩
  dsimp only [Media.takeOut]
  split
  · exact out
  · refine Media.LinkDown.of_rest (Media.cardGone_rest _ env) ?_
    unfold Media.cardNews
    split <;> exact ⟨state, run, period, enables, lo, hi, pickup, rfl, rfl⟩

theorem State.detectDebounce_keeps (s : State) : s.Keeps s.detectDebounce := by
  unfold State.detectDebounce
  split
  case h_1 => exact .refl s
  case h_2 accepted =>
    refine .of_up (s.modMedia_keepsValues _) rfl ?_
    rintro - ⟨-, -, -, -, -, -, -, -, still⟩
    simp [Card.accepted, still] at accepted
  case h_3 => exact State.keeps_modMedia (Media.takeOut_linkDown _)

/-! ### Requests (R17 to R19, R160, R165, R184, R187, R197, R198) -/

theorem State.onRequest_keeps {α : Type} (s : State) (o : Owner) (want : Request → Option α)
    {act : State → Handed → α → State} (h : ∀ (s : State) (r : Handed) (a : α), s.Keeps (act s r a)) :
    s.Keeps (s.onRequest o want act) := by
  unfold State.onRequest
  split
  · exact .refl s
  · split
    · exact .refl s
    · exact (State.keeps_modExch id).trans (h _ _ _)

theorem State.takeLoadProfile_keeps (s : State) (h : Handed) (code : Nat) : s.Keeps (s.takeLoadProfile h code) :=
  .ite (fun _ => s.answer_keeps _ _) fun _ => State.keeps_modExch id

theorem Integrator.start_inRange (g : Integrator) : g.start.InRange :=
  IntakeInRange.reset.1

theorem State.startIntake_keeps (s : State) (first : Word32) : s.Keeps (s.startIntake first) := by
  refine .trans (s.keeps_intake (g := s.integ.start) (p := s.motion.start) ?_) (State.keeps_media _ fun _ => id)
  rintro ⟨-, port, -⟩
  exact ⟨s.integ.start_inRange, port, fun out => absurd rfl out, nofun⟩

theorem State.takeStartMotion_keeps (s : State) (h : Handed) (first : Word32) : s.Keeps (s.takeStartMotion h first) :=
  .ite (fun _ => (s.startIntake_keeps first).trans (State.answer_keeps _ _ _)) fun _ => s.answer_keeps _ _

theorem State.takeStopMotion_keeps (s : State) (h : Handed) (u : Unit) : s.Keeps (s.takeStopMotion h u) := by
  unfold State.takeStopMotion
  refine .ite (fun _ => .ite (fun _ => ?_) fun _ => ?_) fun _ => s.answer_keeps _ _
  · exact State.modMotion_keeps rfl rfl id
  · exact s.stopIntake_keeps.trans (State.answer_keeps _ _ _)

theorem State.takeTransfer_keeps (s : State) (h : Handed) (r : Nat × List Byte) : s.Keeps (s.takeTransfer h r) :=
  .ite (fun _ => .ite (fun _ => State.modMotion_keeps rfl rfl id) fun _ => s.answer_keeps _ _) fun _ => s.answer_keeps _ _

theorem State.transferEnd_keeps (s : State) (inBytes : List Byte) : s.Keeps (s.transferEnd inBytes) :=
  .ite (fun _ => (State.modMotion_keeps rfl rfl id).trans (State.answerAll_keeps _ _ _)) fun _ => .refl s

theorem MotionPort.dataReady_keeps (p : MotionPort) (now : Stamp) :
    (p.dataReady now).state = p.state ∧ (p.dataReady now).prevStamp = p.prevStamp ∧ (p.dataReady now).bias = p.bias ∧
      (p.dataReady now).profile = p.profile := by
  unfold MotionPort.dataReady
  split <;> exact ⟨rfl, rfl, rfl, rfl⟩

theorem State.dataReady_keeps (s : State) : s.Keeps { s with motion := s.motion.dataReady s.now } := by
  obtain ⟨state, prev, bias, profile⟩ := s.motion.dataReady_keeps s.now
  exact s.keeps_motion state prev fun range => by simpa only [MotionPort.InRange, bias, profile] using range

theorem State.takeInputLimit_keeps (s : State) (h : Handed) (milliamps : Nat) : s.Keeps (s.takeInputLimit h milliamps) :=
  (State.modCharge_keeps id).trans (State.answer_keeps _ _ _)

theorem State.takeClearFault_keeps (s : State) (h : Handed) (u : Unit) : s.Keeps (s.takeClearFault h u) :=
  ((s.keeps_charge Charge.clearFault_withinCaps).trans (State.raiseIf_keeps _ _ _)).trans (State.answer_keeps _ _ _)

theorem State.takeShutdown_keeps (s : State) (h : Handed) (u : Unit) : s.Keeps (s.takeShutdown h u) := by
  unfold State.takeShutdown
  have answered := s.answer_keeps h.slot .done
  exact .ite (fun _ => answered.trans (State.enterShutting_keeps _ _)) fun _ => answered

theorem State.takeStore_keeps (s : State) (h : Handed) (u : Unit) : s.Keeps (s.takeStore h u) :=
  .ite (fun _ => s.answer_keeps _ _) fun _ => State.modPower_keeps rfl

theorem State.storeEnd_keeps (s : State) (matched : Bool) : s.Keeps (s.storeEnd matched) := by
  unfold State.storeEnd
  split
  · exact .refl s
  · exact (State.modPower_keeps rfl).trans (State.answerAll_keeps _ _ _)

/-! ### The measurement and the inputs (R150, R151, R163, R169 to R175) -/

/-- The Charge Controller's measurement enters FULL (R156, R172). -/
def State.fillsUp (s : State) (r : Readings) : Bool :=
  decide ((s.charge.measure s.options r s.now).state = .full ∧ s.charge.state ≠ .full)

/-- The gauge's account of a measurement, with whether GAUGE is raised (R169 to R173). -/
def State.gaugeWork (s : State) (r : Readings) (gaugeFirst : Bool) : Gauge × Bool :=
  ({ s.gauge.takeReserve s.options with
      next := some (s.gauge.nextTarget s.now), last := some ⟨r, s.now⟩ } : Gauge).work s.options r s.now (s.fillsUp r) gaugeFirst

/-- The two blocks after a measurement, before its flags. -/
def State.accounted (s : State) (r : Readings) (gaugeFirst : Bool) : State :=
  { s with charge := s.charge.measure s.options r s.now, gauge := (s.gaugeWork r gaugeFirst).1 }

theorem State.measured_eq (s : State) (r : Readings) (gaugeFirst : Bool) :
    s.measured r gaugeFirst = ((s.accounted r gaugeFirst).raiseIf (s.charge.news (s.charge.measure s.options r s.now))
      .charge).raiseIf (s.gaugeWork r gaugeFirst).2 .gauge := rfl

theorem State.gaugeWork_inRange {s : State} (r : Readings) (gaugeFirst : Bool) (h : s.gauge.InRange s.options) :
    (s.gaugeWork r gaugeFirst).1.InRange s.options := by
  unfold State.gaugeWork
  apply Gauge.work_inRange
  exact h

theorem State.accounted_keeps (s : State) (r : Readings) (gaugeFirst : Bool) : s.Keeps (s.accounted r gaugeFirst) where
  pending := rfl
  clock := id
  gauge := State.gaugeWork_inRange r gaugeFirst
  charge := Charge.measure_withinCaps r s.now
  intake := id
  link := id

theorem State.measured_keeps (s : State) (r : Readings) (gaugeFirst : Bool) : s.Keeps (s.measured r gaugeFirst) := by
  rw [State.measured_eq]
  exact ((s.accounted_keeps r gaugeFirst).trans (State.raiseIf_keeps _ _ _)).trans (State.raiseIf_keeps _ _ _)

theorem State.reserveStep_keeps (s : State) : s.Keeps s.reserveStep :=
  (State.Keeps.ite (fun _ => s.reserveClear_keeps) fun _ => .refl s).trans (State.reserveTest_keeps _)

theorem State.cutoffStep_keeps (s : State) (r : Readings) : s.Keeps (s.cutoffStep r) := by
  have stepped : s.Keeps (s.modGauge fun g => g.cutoffStep s.options r) := State.modGauge_keeps (Gauge.cutoffStep_inRange r)
  unfold State.cutoffStep
  exact .ite (fun _ => (stepped.trans (State.raise_keeps _ _)).trans (State.cutoff_keeps _)) fun _ => stepped

theorem State.emptyStep_keeps (s : State) : s.Keeps s.emptyStep :=
  .ite (fun _ => s.setPower_keeps _) fun _ => .refl s

theorem State.measurement_keeps (s : State) (r : Readings) (gaugeFirst : Bool) : s.Keeps (s.measurement r gaugeFirst) := by
  unfold State.measurement
  refine .ite (fun _ => ?_) fun _ => .refl s
  exact (((s.measured_keeps _ _).trans (State.reserveStep_keeps _)).trans (State.cutoffStep_keeps _ _)).trans
    (State.emptyStep_keeps _)

theorem State.inputEnters_keeps (s : State) (i : Input) : s.Keeps (s.inputEnters i) := by
  have wakes (t : State) : t.Keeps t.wakeFor := .ite (fun _ => t.setPower_keeps _) fun _ => .refl t
  unfold State.inputEnters
  split
  · exact .refl s
  · exact (s.setInput_keeps i _).trans (wakes _)
  · exact (s.setInput_keeps i _).trans (wakes _)

theorem State.qualified_keeps (s : State) (i : Input) : s.Keeps (s.qualified i) := by
  have turns (t : State) : t.Keeps t.autoOn := .ite (fun _ => t.turnOn_keeps) fun _ => .refl t
  exact .ite (fun _ => (s.setInput_keeps i _).trans (turns _)) fun _ => .refl s

theorem State.warningOn_keeps (s : State) : s.Keeps s.warningOn :=
  .ite (fun _ => .refl s) fun _ => s.warn_keeps

theorem State.warningOff_keeps (s : State) : s.Keeps s.warningOff :=
  .ite (fun _ => (State.modGauge_keeps id).trans (State.raise_keeps _ _)) fun _ => .refl s

/-! ### The keys (R77 to R80, R181, R182) -/

theorem State.markLong_keeps (s : State) : s.Keeps s.markLong :=
  (State.modIncident_keeps _).trans (State.raise_keeps _ _)

theorem State.markEdge_keeps (s : State) (down : Bool) : s.Keeps (s.markEdge down) := by
  have edge : s.Keeps (s.modIncident fun i => { i with key := i.key.onEdge s.now down }) := State.modIncident_keeps _
  unfold State.markEdge
  exact .ite (fun _ => .ite (fun _ => edge.trans (State.markLong_keeps _)) fun _ => edge) fun _ => .refl s

theorem State.markDebounce_keeps (s : State) : s.Keeps s.markDebounce := by
  have done : s.Keeps (s.modIncident fun i => { i with key := i.key.debounced }) := State.modIncident_keeps _
  unfold State.markDebounce
  refine .ite (fun _ => ?_) fun _ => .refl s
  dsimp only
  split
  case h_1 | h_2 => exact (done.trans (State.modIncident_keeps _)).trans (State.raise_keeps _ _)
  all_goals exact done

theorem State.markHold_keeps (s : State) : s.Keeps s.markHold := by
  unfold State.markHold
  refine .ite (fun _ => ?_) fun _ => .refl s
  split
  case h_1 => exact s.markLong_keeps
  case h_2 => exact State.modIncident_keeps _
  all_goals exact .refl s

theorem State.modPowerKey_keeps (s : State) (f : Key → Key) : s.Keeps (s.modPowerKey f) :=
  State.modPower_keeps rfl

theorem State.powerHeld_keeps (s : State) : s.Keeps s.powerHeld := by
  have long := s.modPowerKey_keeps Key.makeLong
  unfold State.powerHeld
  split
  · exact long.trans (State.enterShutting_keeps _ _)
  · exact .trans long (.ite (fun _ => .refl _) fun _ => State.turnOn_keeps _)
  · exact .refl s

theorem State.afterKey_keeps (s : State) (before : KeyState) : s.Keeps (s.afterKey before) :=
  .ite (fun _ => .refl s) fun _ => s.powerDownTest_keeps

/-- A down edge wakes the part from DORMANT (R180). -/
def State.wakeOnPress (s : State) (down : Bool) : State :=
  if down ∧ s.power.state = .dormant then s.setPower .waking else s

/-- A press back in DOWN with its hold expired is treated as held (R182). -/
def State.heldIfOut (s : State) : State :=
  if s.power.key.heldOut then s.powerHeld else s

theorem State.powerEdge_eq (s : State) (down : Bool) :
    s.powerEdge down = (((s.modPowerKey fun k => k.onEdge s.now down).wakeOnPress down).heldIfOut).afterKey
      s.power.key.state := rfl

theorem State.powerEdge_keeps (s : State) (down : Bool) : s.Keeps (s.powerEdge down) := by
  have wakes (t : State) : t.Keeps (t.wakeOnPress down) := .ite (fun _ => t.setPower_keeps _) fun _ => .refl t
  have held (t : State) : t.Keeps t.heldIfOut := .ite (fun _ => t.powerHeld_keeps) fun _ => .refl t
  rw [State.powerEdge_eq]
  exact (((s.modPowerKey_keeps _).trans (wakes _)).trans (held _)).trans (State.afterKey_keeps _ _)

theorem State.powerPress_keeps (s : State) : s.Keeps s.powerPress := by
  unfold State.powerPress
  split
  · exact s.modPowerKey_keeps _
  · exact .refl s

theorem State.powerRelease_keeps (s : State) : s.Keeps s.powerRelease :=
  .ite (fun _ => (State.modPower_keeps rfl).trans (State.raise_keeps _ _)) fun _ => .refl s

theorem State.powerDebounce_keeps (s : State) : s.Keeps s.powerDebounce := by
  have done := s.modPowerKey_keeps Key.debounced
  unfold State.powerDebounce
  refine .ite (fun _ => .trans ?_ (State.afterKey_keeps _ _)) fun _ => .refl s
  split
  case h_1 => exact done.trans (State.powerPress_keeps _)
  case h_2 => exact done.trans (State.powerRelease_keeps _)
  all_goals exact done

theorem State.powerHold_keeps (s : State) : s.Keeps s.powerHold := by
  unfold State.powerHold
  refine .ite (fun _ => ?_) fun _ => .refl s
  split
  case h_1 => exact s.powerHeld_keeps
  case h_2 => exact s.modPowerKey_keeps _
  all_goals exact .refl s

/-! ### The rest of the commands -/

theorem State.windowExpiry_keeps (s : State) : s.Keeps s.windowExpiry :=
  .ite (fun _ => (State.modIncident_keeps _).trans (State.windowReport_keeps _ _)) fun _ => .refl s

theorem State.modWriter_keeps (s : State) (f : Writer → Writer) : s.Keeps (s.modMedia fun m => m.modWriter f) :=
  State.keeps_modMedia_of_rest (Media.modWriter_rest _ _)

theorem State.protectionRequest_keeps (s : State) : s.Keeps s.protectionRequest := by
  unfold State.protectionRequest
  split
  · exact .refl s
  · exact (s.modWriter_keeps _).trans (State.modIncident_keeps _)

theorem State.protectionAnswer_keeps (s : State) : s.Keeps s.protectionAnswer := by
  unfold State.protectionAnswer
  split
  · exact .refl s
  · exact (State.modIncident_keeps _).trans (State.raise_keeps _ _)

theorem State.marker_keeps (s : State) : s.Keeps s.marker := by
  unfold State.marker
  split
  · exact .refl s
  · exact (s.modWriter_keeps _).trans (State.modIncident_keeps _)

theorem State.markProtection_keeps (s : State) : s.Keeps s.markProtection :=
  .ite (fun _ => .refl s) fun _ => (s.modWriter_keeps _).trans (State.modIncident_keeps _)

theorem State.frameStart_keeps (s : State) : s.Keeps s.frameStart :=
  (State.keeps_modMedia_of_ports (Media.frameStart_ports _ _ _)).trans (State.pickupDue_keeps _)

theorem State.sheetRead_keeps (s : State) (transfer : Nat) (bytes : List Byte) : s.Keeps (s.sheetRead transfer bytes) := by
  have dropped := s.dropTransfer_keeps transfer
  unfold State.sheetRead
  split
  · exact .ite (fun _ => dropped.trans (State.sheetEnd_keeps _ _)) fun _ => dropped
  · exact .refl s

theorem State.payloadFetched_keeps (s : State) (transfer : Nat) (bytes : List Byte) :
    s.Keeps (s.payloadFetched transfer bytes) := by
  have dropped := s.dropTransfer_keeps transfer
  unfold State.payloadFetched
  split
  · refine .ite (fun _ => dropped.trans (State.keeps_modMedia_of_rest ?_)) fun _ => dropped
    exact Media.payloadRead_rest _ _ _
  · exact .refl s

theorem State.readBackWritten_keeps (s : State) (transfer : Nat) : s.Keeps (s.readBackWritten transfer) := by
  have dropped := s.dropTransfer_keeps transfer
  unfold State.readBackWritten
  split
  · refine .ite (fun _ => dropped.trans (State.keeps_modMedia_of_rest ?_)) fun _ => dropped
    exact Media.pieceCopied_rest _ _
  · exact .refl s

theorem State.starvation_keeps (s : State) : s.Keeps s.starvation :=
  .ite (fun _ => State.keeps_modMedia_of_rest (Media.closeBegin_rest _ _ _)) fun _ => .refl s

/-! ### Commands and steps -/

/-- A command answers a next state that keeps the queue and the ranges. -/
def Kept (s : State) (o : Host.Outcome State Fault Refusal) : Prop :=
  ∃ t, o = .next t ∧ s.Keeps t

theorem State.Keeps.kept {s t : State} (h : s.Keeps t) : Kept s (.next t) :=
  ⟨t, rfl, h⟩

/-- What a writer's request does to the media blocks alone. -/
theorem State.media_keeps {s : State} {f : Media → Media} (h : (f s.media).rest = s.media.rest) : s.Keeps (s.modMedia f) :=
  State.keeps_modMedia_of_rest h

theorem exec_keeps (c : Instr) (s : State) : Kept s (exec c s) := by
  cases c with
  | fastPulse => exact (s.keeps_clock Clock.pulse_inRange).kept
  | slowTick => exact s.slowTick_keeps.kept
  | settleComplete => exact (State.Keeps.ite (fun _ => s.slowTick_keeps) fun _ => .refl s).kept
  | coldReset usb aux low | supplyReset usb aux low => exact (s.hardReset_keeps _ usb aux low).kept
  | warmReset => exact (State.Keeps.ite (fun _ => s.warmReset_keeps.settle) fun _ => .refl s).kept
  | loadProfile => exact (s.onRequest_keeps _ _ State.takeLoadProfile_keeps).kept
  | sectionReadComplete transfer bytes => exact (s.sectionEnd_keeps transfer bytes).settle.kept
  | startMotion => exact (s.onRequest_keeps _ _ State.takeStartMotion_keeps).kept
  | stopMotion => exact (s.onRequest_keeps _ _ State.takeStopMotion_keeps).kept
  | imuTransfer => exact (s.onRequest_keeps _ _ State.takeTransfer_keeps).kept
  | transferEnd inBytes => exact (s.transferEnd_keeps inBytes).kept
  | dataReadyEdge => exact (State.Keeps.ite (fun _ => s.dataReady_keeps) fun _ => .refl s).kept
  | burstEnd inBytes incidentFirst => exact (s.burstEnd_keeps inBytes incidentFirst).settle.kept
  | frameStart => exact s.frameStart_keeps.settle.kept
  | sheetReadComplete transfer bytes => exact (s.sheetRead_keeps transfer bytes).settle.kept
  | headFrameTimeout => exact (State.keeps_modMedia_of_ports (Media.headTimeout_ports _ _ _)).settle.kept
  | windowExpiry => exact s.windowExpiry_keeps.settle.kept
  | protectionRequest => exact s.protectionRequest_keeps.settle.kept
  | protectionAnswer => exact s.protectionAnswer_keeps.kept
  | markKeyEdge down => exact (s.markEdge_keeps down).kept
  | markDebounceExpiry => exact s.markDebounce_keeps.kept
  | markHoldExpiry => exact s.markHold_keeps.kept
  | marker => exact s.marker_keeps.settle.kept
  | markProtection => exact s.markProtection_keeps.settle.kept
  | mountVolume => exact (s.onRequest_keeps _ _ fun _ _ _ => State.media_keeps (Media.mount_rest _ _ _)).settle.kept
  | unmountVolume => exact (s.onRequest_keeps _ _ fun _ _ _ => State.media_keeps (Media.unmount_rest _ _ _)).settle.kept
  | formatVolume => exact (s.onRequest_keeps _ _ fun _ _ _ => State.media_keeps (Media.format_rest _ _ _)).settle.kept
  | setProtection =>
    exact (s.onRequest_keeps _ _ fun _ _ _ => State.media_keeps (Media.setProtection_rest _ _ _ _ _)).settle.kept
  | deleteClip => exact (s.onRequest_keeps _ _ fun _ _ _ => State.media_keeps (Media.deleteClip_rest _ _ _ _ _)).settle.kept
  | payloadFetchComplete transfer bytes => exact (s.payloadFetched_keeps transfer bytes).settle.kept
  | startClip => exact (s.onRequest_keeps _ _ fun _ _ _ => State.media_keeps (Media.startClip_rest _ _ _ _ _)).settle.kept
  | stopClip => exact (s.onRequest_keeps _ _ fun _ _ _ => State.media_keeps (Media.stopClip_rest _ _ _ _)).settle.kept
  | starvationExpiry => exact s.starvation_keeps.settle.kept
  | readBack =>
    exact (s.onRequest_keeps _ _ fun _ _ _ => State.media_keeps (Media.startReadBack_rest _ _ _ _ _ _ _)).settle.kept
  | readBackWriteComplete transfer => exact (s.readBackWritten_keeps transfer).settle.kept
  | detectEdge present => exact (s.detectEdge_keeps present).kept
  | detectDebounceExpiry => exact s.detectDebounce_keeps.settle.kept
  | identificationTimeout => exact (s.cardActs_keeps_of_slot (Card.identExpiry_slot _ _)).settle.kept
  | cardCommandResponse response status => exact (s.cardActs_keeps_of_slot (Card.response_slot _ _ _ _)).settle.kept
  | cardResponseMissing => exact (s.cardActs_keeps_of_slot (Card.noResponse_slot _ _)).settle.kept
  | readBlockReceived mark data check => exact (s.cardActs_keeps_of_slot (Card.blockReceived_slot _ _ _ _ _)).settle.kept
  | readSectorTimeout => exact (s.cardActs_keeps_of_slot (Card.sectorExpiry_slot _ _)).settle.kept
  | writeBlockAnswer answer => exact (s.cardActs_keeps_of_slot (Card.blockAnswer_slot _ _ _)).settle.kept
  | cardBusyEnd => exact (s.cardActs_keeps_of_slot (Card.busyEnd_slot _ _)).settle.kept
  | cardBusyTimeout => exact (s.cardActs_keeps_of_slot (Card.busyExpiry_slot _ _)).settle.kept
  | inputEntersWindow i => exact (s.inputEnters_keeps i).settle.kept
  | inputLeavesWindow i => exact (s.setInput_keeps i _).settle.kept
  | qualifyWaitExpiry i => exact (s.qualified_keeps i).settle.kept
  | lossDebounceExpiry i => exact (s.loseIfDue_keeps i).settle.kept
  | gaugeMeasurement r gaugeFirst => exact (s.measurement_keeps r gaugeFirst).settle.kept
  | setInputLimit => exact (s.onRequest_keeps _ _ State.takeInputLimit_keeps).kept
  | clearChargeFault => exact (s.onRequest_keeps _ _ State.takeClearFault_keeps).kept
  | supplyWarningAssert => exact s.warningOn_keeps.settle.kept
  | supplyWarningRemove => exact s.warningOff_keeps.settle.kept
  | powerKeyEdge down => exact (s.powerEdge_keeps down).settle.kept
  | powerDebounceExpiry => exact s.powerDebounce_keeps.settle.kept
  | powerHoldExpiry => exact s.powerHold_keeps.settle.kept
  | shutdown => exact (s.onRequest_keeps _ _ State.takeShutdown_keeps).settle.kept
  | closeLimitExpiry => exact (State.Keeps.ite (fun _ => s.cutRail_keeps.settle) fun _ => .refl s).kept
  | storeChargeOptions => exact (s.onRequest_keeps _ _ State.takeStore_keeps).kept
  | storeWriteComplete matched => exact (s.storeEnd_keeps matched).kept
  | runStart => exact (State.hostWrite_keeps State.runStart_keeps).settle.kept
  | runStop | pickupPeriodSet | attentionEnableSet | attnClear | baseWrite => exact (s.hostExch_keeps _).kept
  | registerWriteOther => exact (State.Keeps.refl s).kept
  | pickupPeriodExpiry => exact s.periodExpiry_keeps.kept
  | requestBoardReadComplete transfer bytes => exact (s.requestsRead_keeps transfer bytes).settle.kept
  | unknownKind => exact (s.onRequest_keeps _ _ fun s h _ => s.answer_keeps h.slot _).kept
  | chunkBoardReadComplete transfer bytes => exact (s.chunksRead_keeps transfer bytes).settle.kept
  | recordWriteComplete transfer => exact (s.recordEnd_keeps transfer).kept
  | linkTransferFailed transfer => exact (s.linkFailed_keeps transfer).settle.kept
  | linkTransferUnanswered transfer => exact (s.linkUnanswered_keeps transfer).settle.kept

/-- A step keeps what its command keeps of the state with the rest of the queue. -/
theorem step_keeps {s t : State} (h : step s = .next t) : ∃ q, (s.withPending q).Keeps t := by
  unfold step at h
  split at h
  case h_1 =>
    cases h
    exact ⟨s.pending, State.Keeps.refl s⟩
  case h_2 c rest _ =>
    obtain ⟨u, hu, keeps⟩ := exec_keeps c (s.withPending rest)
    rw [h] at hu
    cases hu
    exact ⟨rest, keeps⟩

end Sys2Proof.Machine

namespace Sys2Proof.Proofs

open Sys2Proof.Machine

/-- Settles O56: the clock and the gauge have no field that the queue is part of, and every command keeps their ranges. -/
theorem stepsKeepClockAndGaugeInRange : Obligations.StepsKeepClockAndGaugeInRange := by
  refine ⟨fun s t clock h => ?_, fun s t gauge h => ?_⟩ <;> obtain ⟨q, keeps⟩ := step_keeps h
  · exact keeps.clock clock
  · exact keeps.gauge gauge

/-- Settles O57: the caps and the selection are kept by every command. -/
theorem stepsKeepChargeWithinCaps : Obligations.StepsKeepChargeWithinCaps := by
  intro s t charge h
  obtain ⟨q, keeps⟩ := step_keeps h
  rw [chargeWithinCaps_iff] at charge ⊢
  exact keeps.charge charge

/-- Settles O58: what reaches the registers or the slot with the rail OFF finds the exchange not RUNNING and no pickup. -/
theorem stepsKeepLinkDown : Obligations.StepsKeepLinkDown := by
  intro s t link h
  obtain ⟨q, keeps⟩ := step_keeps h
  exact keeps.link link

/-- Settles O59: the increment of a step is a small part of a turn, which the sum of angles brings back into range. -/
theorem stepsKeepOrientationInRange : Obligations.StepsKeepOrientationInRange := by
  intro s t orientation h
  obtain ⟨q, keeps⟩ := step_keeps h
  rw [orientationInRange_iff] at orientation ⊢
  exact keeps.intake orientation

/-- Settles O60: the ranges hold of the values at reset. -/
theorem resetMeetsInvariants : Obligations.ResetMeetsInvariants := by
  refine ⟨⟨by decide, by decide⟩, ?_, ?_, ?_, ?_⟩
  · exact (chargeWithinCaps_iff _).2 (Charge.released_withinCaps false false _)
  · exact Gauge.inRange_of_carry_zero (le_refl _) (fullCharge_nonneg _) rfl (by decide) (by decide)
  · exact fun _ => ⟨rfl, rfl, rfl, rfl, rfl, rfl, rfl, rfl, rfl⟩
  · exact (orientationInRange_iff _).2 IntakeInRange.reset

/-- Settles O2: each command answers a next state, and no operation touches the queue. -/
theorem commandsGoOn : Obligations.CommandsGoOn := by
  intro c s
  obtain ⟨t, next, keeps⟩ := exec_keeps c s
  exact ⟨t, next, keeps.pending⟩

/-- Settles O1, by the two cases of the queue. -/
theorem stepTakesFront : Obligations.StepTakesFront := by
  refine ⟨fun c rest s h => ?_, fun s h => ?_⟩ <;> simp only [step, h]
  rfl

end Sys2Proof.Proofs
end

section
/-! PROOFS. What follows within a step outside SHUTTING (O3): the media blocks but for their rest, and the Charge Controller's hearing
of the recording. -/

namespace Sys2Proof.Machine

/-- A report of the recording changes the recording, the cap and the current, which it does not raise (R161, R162). -/
theorem Charge.report_frame (c : Charge) (o : ChargeOptions) (b : Bool) :
    ∃ (cap ic : Nat), c.report o b = { c with recording := b, cap := cap, ic := ic } ∧ ic ≤ c.ic := by
  unfold Charge.report
  split
  case isTrue same => exact ⟨c.cap, c.ic, by rw [← same], le_refl _⟩
  case isFalse => exact ⟨_, _, rfl, Nat.min_le_left _ _⟩

theorem Charge.hear_frame (c : Charge) (o : ChargeOptions) (entered b : Bool) :
    ∃ (cap ic : Nat), c.hear o entered b = { c with recording := b, cap := cap, ic := ic } ∧ ic ≤ c.ic := by
  obtain ⟨cap, ic, first, fall⟩ := c.report_frame o (entered || b)
  obtain ⟨cap', ic', second, fall'⟩ := (c.report o (entered || b)).report_frame o b
  refine ⟨cap', ic', ?_, ?_⟩
  · rw [Charge.hear, second, first]
  · rw [first] at fall'
    exact fall'.trans fall

end Sys2Proof.Machine

namespace Sys2Proof.Proofs

open Sys2Proof.Machine

/-- Settles O3: each field named is one of the rest that settling leaves alone. -/
theorem settleLeavesRest : Obligations.SettleLeavesRest := by
  intro s awake
  have rest := State.settle_rest_of_awake awake
  simp only [Media.rest, Prod.mk.injEq] at rest
  obtain ⟨exch, steady, card⟩ := rest
  have e {α : Type} (f : Exchange → α) := congrArg f exch
  have y {α : Type} (f : Steady → α) := congrArg f steady
  have c {α : Type} (f : Card → α) := congrArg f card
  refine ⟨?_, ?_, ?_, ?_⟩
  · obtain ⟨cap, ic, heard, fall⟩ := s.charge.hear_frame s.options (s.media.settle s.env).writer.recordingReport
      s.settle.media.writer.recordingOrClosing
    exact ⟨s.settle.media, s.settle.media.writer.recordingOrClosing, cap, ic,
      (State.settle_of_awake awake).trans (by rw [heard]), fall⟩
  · exact ⟨e (·.state), e (·.run), e (·.period), e (·.enables), e (·.attn), e (·.baseLo), e (·.baseHi), e (·.requestTaken),
      e (·.chunkTaken), e (·.handed), e (·.pickup), e (·.pickupHeld), e (·.periodWait), e (·.periodOwed), e (·.reportEdition),
      e (·.torn)⟩
  · exact ⟨y (·.state), y (·.frameCounter), y (·.frames), y (·.headStage), y (·.head), y (·.heldSheet), y (·.path),
      y (·.seeded), y (·.profile), y (·.skippedTotal), y (·.heldTotal), y (·.dropTotal)⟩
  · exact ⟨c (·.detect), c (·.detectLine), c (·.debounce), c (·.capacity), c (·.fast), c (·.ident), c (·.readErrors),
      c (·.writeErrors), c (·.timeouts), c (·.removals)⟩

end Sys2Proof.Proofs
end

section
/-! PROOFS. The count keeps time (O5): the pulses of a group passed so far, and the ticks of the slow path with the fraction. -/

namespace Sys2Proof.Machine

/-! ### A prescaler group (R2) -/

/-- The pulses passed among the first `k` of a group, whose positions 42, 85 and 127 are removed. -/
def pulsesPassed (k : Nat) : Nat :=
  k - (if 42 < k then 1 else 0) - (if 85 < k then 1 else 0) - (if 127 < k then 1 else 0)

theorem pulsesPassed_succ (k : Nat) (h : k < 128) :
    pulsesPassed (k + 1) = if removedPulse k then pulsesPassed k else pulsesPassed k + 1 := by
  simp only [pulsesPassed, removedPulse, decide_eq_true_eq]
  (repeat' split) <;> omega

theorem Clock.pulse_of_fast {c : Clock} (fast : c.path = .fast) : c.pulse = { c with
    count := c.count + BitVec.ofNat 48 (if removedPulse c.group then 0 else 1), group := (c.group + 1) % 128 } := by
  unfold Clock.pulse
  rw [fast]
  by_cases removed : removedPulse c.group = true <;> simp [removed, Clock.advance, fast]

theorem Clock.pulses_of_fast {c : Clock} (fast : c.path = .fast) (fresh : c.group = 0) {k : Nat} (h : k ≤ 128) :
    Clock.pulse^[k] c = { c with count := c.count + BitVec.ofNat 48 (pulsesPassed k), group := k % 128 } := by
  induction k with
  | zero =>
    have same : c = { c with group := 0 } := by rw [← fresh]
    simpa [pulsesPassed] using same
  | succ k ih =>
    have position : k % 128 = k := Nat.mod_eq_of_lt h
    rw [Function.iterate_succ_apply', ih (Nat.le_of_succ_le h), Clock.pulse_of_fast (by exact fast), pulsesPassed_succ k h,
      position]
    have sum : pulsesPassed k + (if removedPulse k then 0 else 1) =
        if removedPulse k then pulsesPassed k else pulsesPassed k + 1 := by split <;> rfl
    rw [← sum, BitVec.ofNat_add, BitVec.add_assoc]

theorem pulsesPassed_bounds (k : Nat) (h : k ≤ 128) :
    k * 1000 ≤ pulsesPassed k * 1024 ∧ pulsesPassed k * 1024 < k * 1000 + 2048 := by
  unfold pulsesPassed
  (repeat' split) <;> omega

/-! ### The slow path (R3) -/

theorem Clock.tick_of_slow {c : Clock} (slow : c.path = .slow) (none : c.handover = .none) : c.tick false = c.slowAdvance := by
  rw [Clock.tick, slow, none]

/-- A tick moves the count by the whole microseconds of 30 and 265/512, with the fraction carried on. -/
theorem Clock.slowAdvance_eq {c : Clock} (h : c.fraction < 512) : c.slowAdvance = { c with
    count := c.count + BitVec.ofNat 48 (30 + (c.fraction + 265) / 512), fraction := (c.fraction + 265) % 512 } := by
  unfold Clock.slowAdvance
  split
  case isTrue small =>
    have whole : (c.fraction + 265) / 512 = 0 := by omega
    have part : (c.fraction + 265) % 512 = c.fraction + 265 := by omega
    rw [whole, part]
    rfl
  case isFalse large =>
    have whole : (c.fraction + 265) / 512 = 1 := by omega
    have part : (c.fraction + 265) % 512 = c.fraction + 265 - 512 := by omega
    rw [whole, part]
    rfl

theorem Clock.ticks_of_slow {c : Clock} (slow : c.path = .slow) (none : c.handover = .none) (h : c.fraction < 512) (n : Nat) :
    (fun d : Clock => d.tick false)^[n] c = { c with
      count := c.count + BitVec.ofNat 48 (30 * n + (c.fraction + 265 * n) / 512), fraction := (c.fraction + 265 * n) % 512 } := by
  induction n with
  | zero => simp [Nat.mod_eq_of_lt h, Nat.div_eq_of_lt h]
  | succ n ih =>
    have micros : 30 * n + (c.fraction + 265 * n) / 512 + (30 + ((c.fraction + 265 * n) % 512 + 265) / 512) =
        30 * (n + 1) + (c.fraction + 265 * (n + 1)) / 512 := by omega
    have part : ((c.fraction + 265 * n) % 512 + 265) % 512 = (c.fraction + 265 * (n + 1)) % 512 := by omega
    rw [Function.iterate_succ_apply', ih, Clock.tick_of_slow (by exact slow) (by exact none),
      Clock.slowAdvance_eq (Nat.mod_lt _ (by decide)), ← micros, ← part, BitVec.ofNat_add _ (30 + _), BitVec.add_assoc]

end Sys2Proof.Machine

namespace Sys2Proof.Proofs

open Sys2Proof.Machine

/-- Settles O5, by induction on the pulses of a group, and on the ticks. -/
theorem clockKeepsTime : Obligations.ClockKeepsTime := by
  constructor
  · intro c fast fresh
    refine ⟨fun k hk => ⟨pulsesPassed k, ?_, pulsesPassed_bounds k hk⟩, ?_⟩
    · rw [Clock.pulses_of_fast fast fresh hk]
    · rw [Clock.pulses_of_fast fast fresh (le_refl 128), show (128 % 128 : Nat) = c.group from fresh.symm]
      rfl
  · intro c slow none h
    have whole : 30 * 512 + (c.fraction + 265 * 512) / 512 = 15625 := by omega
    have part : (c.fraction + 265 * 512) % 512 = c.fraction := by omega
    rw [Clock.ticks_of_slow slow none h, whole, part]
    rfl

end Sys2Proof.Proofs
end

section
/-! PROOFS. The still test and the learning of the bias (O17). -/

namespace Sys2Proof.Machine

/-- A sample is still when the calibrated rates of its three axes are within the threshold (R27). -/
def Sample.Still (r : Sample) (threshold : Nat) (bias : Axes Int) : Prop :=
  (r.gyro.yaw * 16 - bias.yaw).natAbs ≤ threshold ∧ (r.gyro.pitch * 16 - bias.pitch).natAbs ≤ threshold ∧
    (r.gyro.roll * 16 - bias.roll).natAbs ≤ threshold

theorem Sample.still_iff (r : Sample) (threshold : Nat) (bias : Axes Int) :
    (r.gyro.map₂ (Machine.still threshold) bias).all = true ↔ r.Still threshold bias := by
  simp only [Axes.all, Axes.map₂, Machine.still, Bool.and_eq_true, decide_eq_true_eq, and_assoc]
  rfl

section
variable {p : MotionPort} {q : MotionProfile} {r : Sample}

theorem MotionPort.stillTest_of_suspended (h : p.learning = .suspended) : p.stillTest q r = p := by
  simp only [MotionPort.stillTest, h]

theorem MotionPort.stillTest_of_settling_still (h : p.learning = .settling) (still : r.Still q.stillThreshold p.bias) :
    p.stillTest q r = { p with
      stillRun := min 65535 (p.stillRun + 1)
      learning := if q.stillRun ≤ p.stillRun + 1 then .learning else .settling } := by
  simp only [MotionPort.stillTest, h, (r.still_iff _ _).2 still, if_true, bump]

theorem MotionPort.stillTest_of_settling_moving (h : p.learning = .settling) (moving : ¬r.Still q.stillThreshold p.bias) :
    p.stillTest q r = { p with stillRun := 0 } := by
  have off : (r.gyro.map₂ (still q.stillThreshold) p.bias).all = false := by
    rwa [← Bool.not_eq_true, r.still_iff]
  simp [MotionPort.stillTest, h, off]

theorem MotionPort.stillTest_of_learning_still (h : p.learning = .learning) (still : r.Still q.stillThreshold p.bias) :
    p.stillTest q r = { p with stillRun := min 65535 (p.stillRun + 1), bias := r.gyro.map₂ learnBias p.bias } := by
  simp only [MotionPort.stillTest, h, (r.still_iff _ _).2 still, if_true, bump]

theorem MotionPort.stillTest_of_learning_moving (h : p.learning = .learning) (moving : ¬r.Still q.stillThreshold p.bias) :
    p.stillTest q r = { p with stillRun := 0, learning := .settling } := by
  have off : (r.gyro.map₂ (still q.stillThreshold) p.bias).all = false := by
    rwa [← Bool.not_eq_true, r.still_iff]
  simp [MotionPort.stillTest, h, off]

end

/-! ### One axis (R28) -/

theorem learnBias_eq (raw bias : Int) :
    learnBias raw bias = max (-65536) (min 65536 (bias + (raw * 16 - bias).tdiv 256)) := rfl

/-- The step, a 256th of the way truncated, lies between 0 and the whole way. -/
theorem tdiv_between (d : Int) : (0 ≤ d → 0 ≤ d.tdiv 256 ∧ d.tdiv 256 ≤ d) ∧ (d ≤ 0 → d ≤ d.tdiv 256 ∧ d.tdiv 256 ≤ 0) := by
  constructor
  · intro h
    rw [Int.tdiv_eq_ediv_of_nonneg h]
    omega
  · intro h
    obtain ⟨e, rfl⟩ : ∃ e, d = -e := ⟨-d, by omega⟩
    rw [Int.neg_tdiv, Int.tdiv_eq_ediv_of_nonneg (by omega)]
    omega

theorem tdiv_eq_zero_of_small {d : Int} (h : d.natAbs < 256) : d.tdiv 256 = 0 := by
  obtain ⟨n, rfl | rfl⟩ := Int.eq_nat_or_neg d
  all_goals
    have whole : (n : Int).tdiv 256 = 0 := by
      rw [Int.tdiv_eq_ediv_of_nonneg (Int.natCast_nonneg n)]
      omega
    simp [whole]

/-- R28: the bias does not move further from the reading. -/
theorem learnBias_natAbs_le {raw bias : Int} (low : -65536 ≤ bias) (high : bias ≤ 65536) :
    (raw * 16 - learnBias raw bias).natAbs ≤ (raw * 16 - bias).natAbs := by
  obtain ⟨up, down⟩ := tdiv_between (raw * 16 - bias)
  rw [learnBias_eq]
  rcases le_total 0 (raw * 16 - bias) with above | below
  · have := up above
    omega
  · have := down below
    omega

theorem learnBias_of_small {raw bias : Int} (low : -65536 ≤ bias) (high : bias ≤ 65536) (small : (raw * 16 - bias).natAbs < 256) :
    learnBias raw bias = bias := by
  rw [learnBias_eq, tdiv_eq_zero_of_small small]
  omega

end Sys2Proof.Machine

namespace Sys2Proof.Proofs

open Sys2Proof.Machine

/-- Settles O17: the five rows of the table, and one axis's step. -/
theorem biasLearning : Obligations.BiasLearning := by
  constructor
  · intro p q r
    exact ⟨MotionPort.stillTest_of_suspended, MotionPort.stillTest_of_settling_still,
      MotionPort.stillTest_of_settling_moving, MotionPort.stillTest_of_learning_still, MotionPort.stillTest_of_learning_moving⟩
  · intro raw bias low high
    obtain ⟨above, below⟩ := learnBias_inRange raw bias
    exact ⟨learnBias_eq raw bias, by omega, learnBias_natAbs_le low high, learnBias_of_small low high⟩

end Sys2Proof.Proofs
end

section
/-! PROOFS. A step of the integrator loses nothing but whole turns (O18), and what a sample taken leaves. -/

namespace Sys2Proof.Machine

/-! ### One axis (R39) -/

theorem wrapAngle_turns (x : Int) : ∃ turns : Int, wrapAngle x = x + turns * 360000000 := by
  unfold wrapAngle
  split
  · exact ⟨-1, by omega⟩
  · split
    · exact ⟨1, by omega⟩
    · exact ⟨0, by omega⟩

theorem angleSum_turns (x y : Int) : ∃ turns : Int, angleSum x y = x + y + turns * 360000000 :=
  wrapAngle_turns (x + y)

/-- What the truncation leaves out of the increment is the carry; the rest is the increment, whole turns apart. -/
theorem stepAxis_exact (n theta : Int) : ∃ turns : Int,
    (stepAxis n theta).1 * 524288 + (stepAxis n theta).2 = theta * 524288 + n + turns * (360000000 * 524288) := by
  obtain ⟨turns, sum⟩ := angleSum_turns theta (truncDiv n angleUnit)
  refine ⟨turns, ?_⟩
  simp only [stepAxis, sum]
  rw [angleUnit]
  ring

theorem stepAxis_carry (n theta : Int) : (stepAxis n theta).2 = n.tmod 524288 := by
  rw [stepAxis, truncDiv, angleUnit, Int.tmod_def]
  ring

theorem stepAxis_carry_natAbs_lt (n theta : Int) : (stepAxis n theta).2.natAbs < 524288 := by
  have bounds := (truncDiv_spec n (show (0 : Int) < angleUnit by decide)).2
  have unit : angleUnit = 524288 := rfl
  simp only [stepAxis]
  rw [unit] at bounds ⊢
  omega

/-- The carry has the numerator's sign. -/
theorem stepAxis_carry_sign (n theta : Int) : 0 ≤ n * (stepAxis n theta).2 := by
  rw [stepAxis_carry]
  rcases le_total 0 n with positive | negative
  · exact mul_nonneg positive (Int.tmod_nonneg _ positive)
  · obtain ⟨m, rfl⟩ : ∃ m, n = -m := ⟨-n, by omega⟩
    rw [Int.neg_tmod, neg_mul_neg]
    exact mul_nonneg (by omega) (Int.tmod_nonneg _ (by omega))

theorem stepAxis_angle_of_natAbs_le {n theta : Int} (h : n.natAbs ≤ 2 ^ 45) (low : -180000000 ≤ theta)
    (high : theta < 180000000) : -180000000 ≤ (stepAxis n theta).1 ∧ (stepAxis n theta).1 < 180000000 := by
  have quotient := truncDiv_spec n (show (0 : Int) < angleUnit by decide)
  have unit : angleUnit = 524288 := rfl
  have small : -67108865 ≤ truncDiv n angleUnit ∧ truncDiv n angleUnit ≤ 67108865 := by
    rw [unit] at quotient ⊢
    omega
  exact wrapAngle_bounds (by omega) (by omega)

/-- Over a run of steps, each with the carry of the one before, nothing is lost but whole turns. -/
theorem stepAxis_foldl_exact (products : List Int) (theta carry : Int) :
    ∃ turns : Int, (products.foldl (fun (a : Int × Int) p => stepAxis (p + a.2) a.1) (theta, carry)).1 * 524288 +
      (products.foldl (fun (a : Int × Int) p => stepAxis (p + a.2) a.1) (theta, carry)).2 =
        theta * 524288 + carry + products.sum + turns * (360000000 * 524288) := by
  induction products generalizing theta carry with
  | nil => exact ⟨0, by simp⟩
  | cons p rest ih =>
    obtain ⟨first, exact_⟩ := stepAxis_exact (p + carry) theta
    obtain ⟨later, run⟩ := ih (stepAxis (p + carry) theta).1 (stepAxis (p + carry) theta).2
    refine ⟨first + later, ?_⟩
    rw [List.foldl_cons, List.sum_cons, run, exact_]
    ring

/-! ### A sample taken (R35 to R40) -/

/-- R36, R40: a seed joins the history with the orientation as it stands. -/
theorem Integrator.seed_eq (g : Integrator) (s : Sample) : g.seed s = { g with
    state := .integrating
    lastStamp := some s.stamp
    satTotal := if s.sat.any then min 65535 (g.satTotal + 1) else g.satTotal
    history := appendBounded 128 g.history ⟨s.stamp, g.theta, false, s.sat.any, decide (0 < s.missedBefore)⟩ } := by
  simp only [Integrator.seed, Integrator.append, Sample.entry, bump]
  rfl

theorem Integrator.take_of_idle {g : Integrator} (q : MotionProfile) (period : Nat) (s : Sample) (h : g.state = .idle) :
    g.take q period s = g := by
  unfold Integrator.take
  split <;> simp_all

theorem Integrator.take_of_unseeded {g : Integrator} (q : MotionProfile) (period : Nat) (s : Sample)
    (h : g.state = .seeding ∨ (g.state = .integrating ∧ g.lastStamp = none)) : g.take q period s = g.seed s := by
  unfold Integrator.take
  split <;> simp_all

theorem Integrator.take_of_integrating {g : Integrator} {last : Stamp} (q : MotionProfile) (period : Nat) (s : Sample)
    (h : g.state = .integrating) (known : g.lastStamp = some last) :
    g.take q period s = g.integrate q.fullScale period last s := by
  unfold Integrator.take
  split <;> simp_all

end Sys2Proof.Machine

namespace Sys2Proof.Proofs

open Sys2Proof.Machine

/-- Settles O18: the exactness of one step, by induction of a run of them, and the three ways a sample is taken. -/
theorem stepsLoseNothing : Obligations.StepsLoseNothing := by
  refine ⟨?_, stepAxis_foldl_exact, ?_⟩
  · intro n theta h low high
    obtain ⟨angleLow, angleHigh⟩ := stepAxis_angle_of_natAbs_le h low high
    exact ⟨stepAxis_carry_natAbs_lt n theta, stepAxis_carry_sign n theta, angleLow, angleHigh, stepAxis_exact n theta⟩
  · intro g q period s
    refine ⟨Integrator.take_of_idle q period s, fun h => ?_, fun last h known => ?_⟩
    · rw [Integrator.take_of_unseeded q period s h, Integrator.seed_eq]
      rfl
    · rw [Integrator.take_of_integrating q period s h known]
      simp only [Integrator.integrate, Integrator.append, Sample.entry, bump, gapStep, appendBounded]
      rfl

end Sys2Proof.Proofs
end

section
/-! PROOFS. The path and the corrections keep their limits (O22): angles, the path's follow and catch, the band angle and its conversion, and
a frame as computed. -/

namespace Sys2Proof.Machine

/-! ### Angles -/

theorem angleDiff_turns (x y : Int) : ∃ turns : Int, angleDiff x y = x - y + turns * 360000000 :=
  wrapAngle_turns (x - y)

theorem angleDiff_inRange {x y : Int} (hx : Safety.AngleInRange x) (hy : Safety.AngleInRange y) :
    Safety.AngleInRange (angleDiff x y) := by
  obtain ⟨lowX, highX⟩ := hx
  obtain ⟨lowY, highY⟩ := hy
  exact wrapAngle_bounds (by omega) (by omega)

theorem angleSum_inRange {x y : Int} (hx : Safety.AngleInRange x) (low : -360000000 ≤ y) (high : y < 360000000) :
    Safety.AngleInRange (angleSum x y) := by
  obtain ⟨lowX, highX⟩ := hx
  exact wrapAngle_bounds (by omega) (by omega)

/-- The difference from an angle moved by less than half a turn is that move. -/
theorem angleDiff_angleSum {theta x : Int} (h : Safety.AngleInRange theta) (low : -180000000 < x) (high : x < 180000000) :
    angleDiff theta (angleSum theta x) = -x := by
  obtain ⟨lowT, highT⟩ := h
  simp only [angleDiff, angleSum, wrapAngle]
  (repeat' split) <;> omega

/-! ### The path (R57, R58) -/

theorem truncDiv_follow_bounds {d : Int} {k : Nat} (hd : Safety.AngleInRange d) (hk : k ≤ 256) :
    -360000000 ≤ truncDiv (d * k) 256 ∧ truncDiv (d * k) 256 < 360000000 := by
  obtain ⟨low, high⟩ := hd
  have quotient := truncDiv_spec (d * k) (show (0 : Int) < 256 by decide)
  have product : |d * k| ≤ 180000000 * 256 := by
    rw [abs_mul, abs_of_nonneg (Int.natCast_nonneg k)]
    have magnitude : |d| ≤ 180000000 := abs_le.2 ⟨by omega, by omega⟩
    have part : (k : Int) ≤ 256 := by exact_mod_cast hk
    gcongr
  rw [abs_le] at product
  omega

theorem followPath_inRange {k : Nat} {p theta : Int} (hk : k ≤ 256) (hp : Safety.AngleInRange p)
    (ht : Safety.AngleInRange theta) : Safety.AngleInRange (followPath k p theta) := by
  obtain ⟨low, high⟩ := truncDiv_follow_bounds (angleDiff_inRange ht hp) hk
  exact angleSum_inRange hp low high

section
variable {m p theta : Int}

theorem catchPath_of_within (h : |angleDiff theta p| ≤ m) : catchPath m p theta = (p, false) := by
  rw [abs_le] at h
  dsimp only [catchPath]
  rw [if_neg (by omega), if_neg (by omega)]

theorem catchPath_of_behind (h : m < angleDiff theta p) : catchPath m p theta = (angleSum theta (-m), true) :=
  if_pos h

theorem catchPath_of_ahead (hm : 0 ≤ m) (h : m < -angleDiff theta p) : catchPath m p theta = (angleSum theta m, true) := by
  dsimp only [catchPath]
  rw [if_neg (by omega), if_pos h]

/-- R58: after the catch the path is within the margin of the orientation. -/
theorem catchPath_within (hm : 0 ≤ m) (hp : Safety.AngleInRange p) (ht : Safety.AngleInRange theta) :
    Safety.AngleInRange (catchPath m p theta).1 ∧ (angleDiff theta (catchPath m p theta).1).natAbs ≤ m := by
  obtain ⟨low, high⟩ := angleDiff_inRange ht hp
  by_cases behind : m < angleDiff theta p
  · rw [catchPath_of_behind behind]
    refine ⟨angleSum_inRange ht (by omega) (by omega), ?_⟩
    rw [angleDiff_angleSum ht (by omega) (by omega)]
    omega
  · by_cases ahead : m < -angleDiff theta p
    · rw [catchPath_of_ahead hm ahead]
      by_cases opposite : m = 180000000
      · omega
      · refine ⟨angleSum_inRange ht (by omega) (by omega), ?_⟩
        rw [angleDiff_angleSum ht (by omega) (by omega)]
        omega
    · rw [catchPath_of_within (abs_le.2 ⟨by omega, by omega⟩)]
      exact ⟨hp, by dsimp only; omega⟩

theorem stepPath_of_enabled (k : Nat) : stepPath true true k m p theta = catchPath m (followPath k p theta) theta := rfl

theorem stepPath_of_disabled (seeded : Bool) (k : Nat) : stepPath false seeded k m p theta = (theta, false) := rfl

theorem stepPath_of_unseeded (enabled : Bool) (k : Nat) : stepPath enabled false k m p theta = (theta, false) := by
  cases enabled <;> rfl

/-- The path steps on an enabled axis of a seeded path, and takes the orientation elsewhere. -/
theorem stepPath_eq (enabled seeded : Bool) (k : Nat) : stepPath enabled seeded k m p theta =
    if enabled = true ∧ seeded = true then stepPath true true k m p theta else (theta, false) := by
  cases enabled <;> cases seeded <;> rfl

/-! ### A band's angle (R59) -/

theorem bandAngle_of_within (h : |angleDiff p theta| ≤ m) : bandAngle true m p theta = (angleDiff p theta, false) := by
  rw [abs_le] at h
  have unmoved : clampInt (-m) m (angleDiff p theta) = angleDiff p theta := by
    unfold clampInt
    omega
  simp only [bandAngle, if_true, unmoved, Prod.mk.injEq, decide_eq_false_iff_not, true_and]
  omega

theorem bandAngle_of_beyond (hm : 0 ≤ m) (h : m < |angleDiff p theta|) :
    bandAngle true m p theta = (if 0 < angleDiff p theta then m else -m, true) := by
  rw [lt_abs] at h
  simp only [bandAngle, if_true, Prod.mk.injEq, decide_eq_true_eq, clampInt]
  split <;> omega

end

/-! ### The conversion (R60) -/

/-- A quotient is the nearest whole number, and one that lies between two goes away from zero. -/
def IsNearest (x n : Int) (d : Nat) : Prop :=
  2 * |x * d - n| ≤ d ∧ (2 * |x * d - n| = d → |n| < |x * d|)

theorem isNearest_of_nonneg {n : Int} {d : Nat} (hd : 0 < d) (h : 0 ≤ n) : IsNearest ((2 * n + d) / (2 * d : Nat)) n d := by
  have positive : (0 : Int) < (2 * d : Nat) := by omega
  have below := Int.ediv_mul_le (2 * n + d) positive.ne'
  have above := Int.lt_ediv_add_one_mul_self (2 * n + d) positive
  have nonneg : 0 ≤ (2 * n + d) / (2 * d : Nat) := Int.ediv_nonneg (by omega) positive.le
  generalize (2 * n + d) / (2 * d : Nat) = x at below above nonneg ⊢
  have product : 0 ≤ x * d := mul_nonneg nonneg (Int.natCast_nonneg d)
  push_cast at below above
  have twice : x * (2 * (d : Int)) = 2 * (x * d) := by ring
  have twice' : (x + 1) * (2 * (d : Int)) = 2 * (x * d) + 2 * d := by ring
  rw [twice] at below
  rw [twice'] at above
  unfold IsNearest
  generalize x * (d : Int) = y at below above product ⊢
  rw [abs_of_nonneg h, abs_of_nonneg product]
  rcases abs_cases (y - n) with ⟨distance, _⟩ | ⟨distance, _⟩ <;> rw [distance] <;> constructor <;> omega

theorem IsNearest.neg {x n : Int} {d : Nat} (h : IsNearest x n d) : IsNearest (-x) (-n) d := by
  have same : -x * d - -n = -(x * d - n) := by ring
  rw [IsNearest, same, abs_neg, abs_neg, neg_mul, abs_neg]
  exact h

theorem roundDiv_isNearest (n : Int) {d : Nat} (hd : 0 < d) : IsNearest (roundDiv n d) n d := by
  unfold roundDiv
  split
  case isTrue h => exact isNearest_of_nonneg hd h
  case isFalse h =>
    have mirrored := (isNearest_of_nonneg hd (show 0 ≤ -n by omega)).neg
    rwa [neg_neg] at mirrored

/-- A value clamped to a symmetric range, with whether the clamp changed it. -/
theorem clampInt_symmetric (x : Int) (limit : Nat) :
    (clampInt (-(limit : Int)) limit x, decide (clampInt (-(limit : Int)) limit x ≠ x)) =
      (max (-limit : Int) (min limit x), decide ((limit : Int) < |x|)) := by
  refine Prod.ext rfl ?_
  show decide _ = decide _
  rw [decide_eq_decide, lt_abs]
  unfold clampInt
  omega

theorem offset_eq (focal margin : Nat) (a : Int) : offset focal margin a =
    (max (-(margin * 16) : Int) (min (margin * 16) (roundDiv (a * focal * 16) 57295780)),
      decide ((margin * 16 : Int) < |roundDiv (a * focal * 16) 57295780|)) := by
  have h := clampInt_symmetric (roundDiv (a * focal * 16) 57295780) (margin * 16)
  push_cast at h
  rw [← h]
  simp [offset]

theorem rollOf_eq (limit : Nat) (a : Int) : rollOf limit a =
    (max (-limit : Int) (min limit (roundDiv a 1000)), decide ((limit : Int) < |roundDiv a 1000|)) :=
  clampInt_symmetric (roundDiv a 1000) limit

theorem clampInt_natAbs_le (x : Int) (limit : Nat) : (clampInt (-(limit : Int)) limit x).natAbs ≤ limit := by
  have bounds := clampInt_bounds (show -(limit : Int) ≤ limit by omega) x
  omega

theorem roundDiv_zero (d : Nat) : roundDiv 0 d = 0 := by
  rcases Nat.eq_zero_or_pos d with rfl | hd
  · rfl
  · have half : ((2 * 0 + d : Int)) / (2 * d : Nat) = 0 := Int.ediv_eq_zero_of_lt (by omega) (by omega)
    simpa [roundDiv] using half

theorem clampInt_zero (limit : Nat) : clampInt (-(limit : Int)) limit 0 = 0 := by
  unfold clampInt
  omega

theorem offset_zero (focal margin : Nat) : (offset focal margin 0).1 = 0 := by
  simp only [offset, zero_mul, roundDiv_zero]
  exact clampInt_zero (margin * 16)

theorem rollOf_zero (limit : Nat) : (rollOf limit 0).1 = 0 := by
  simp only [rollOf, roundDiv_zero]
  exact clampInt_zero limit

end Sys2Proof.Machine

namespace Sys2Proof.Proofs

open Sys2Proof.Machine

/-- Settles O22, clause by clause. -/
theorem correctionsWithinLimits : Obligations.CorrectionsWithinLimits := by
  refine ⟨?_, ?_, fun _ => rfl, ?_, ?_, ?_, ?_, fun _ _ _ => rfl, ?_⟩
  · intro k m p theta hk hm lowP highP lowT highT
    have followed := followPath_inRange hk ⟨lowP, highP⟩ (show Safety.AngleInRange theta from ⟨lowT, highT⟩)
    obtain ⟨⟨low, high⟩, within⟩ := catchPath_within hm followed ⟨lowT, highT⟩
    exact ⟨low, high, within, stepPath_of_disabled true k, stepPath_of_unseeded true k⟩
  · intro p path l
    refine ⟨clampInt_natAbs_le _ _, clampInt_natAbs_le _ _, clampInt_natAbs_le _ _, fun off => ?_, fun off => ?_,
      fun off => ?_, rfl, rfl⟩
    · simp only [bandOf, off, bandAngle, Bool.false_eq_true, if_false, offset_zero]
    · simp only [bandOf, off, bandAngle, Bool.false_eq_true, if_false, offset_zero]
    · simp only [bandOf, off, bandAngle, Bool.false_eq_true, if_false, rollOf_zero]
  · intro x y hx hy
    obtain ⟨low, high⟩ := hy
    exact ⟨angleDiff_turns x y, angleDiff_inRange hx ⟨low, high⟩, angleSum_turns x y,
      angleSum_inRange hx (by omega) (by omega)⟩
  · intro k m p theta hm
    refine ⟨catchPath_of_within, fun far behind => catchPath_of_behind ?_, fun far ahead => catchPath_of_ahead hm ?_⟩
    · rwa [abs_of_pos behind] at far
    · rwa [abs_of_neg ahead] at far
  · intro m p theta hm
    exact ⟨rfl, bandAngle_of_within, bandAngle_of_beyond hm⟩
  · intro a focal margin limit
    exact ⟨roundDiv (a * focal * 16) 57295780, roundDiv a 1000, roundDiv_isNearest _ (by decide),
      roundDiv_isNearest _ (by decide), offset_eq focal margin a, rollOf_eq limit a⟩
  · intro y f h history
    refine ⟨rfl, rfl, rfl, ?_, ?_, rfl, rfl, rfl, ?_, ?_, List.any_eq_true, List.any_eq_true, List.any_eq_true,
      List.any_eq_true, List.any_eq_true⟩
    · simp only [← stepPath_eq]
      rfl
    · exact List.map_map
    · simp [Steady.computeFrame, Axes.any, or_assoc]
    · simp only [← stepPath_eq]
      rfl

end Sys2Proof.Proofs
end

section
/-! PROOFS. Counting loses no charge but at an end of the range (O41); the estimate, the anchors, a measurement's account and a load of
another capacity. -/

namespace Sys2Proof.Machine

/-! ### Q brought into its range (R170 step 4) -/

section
variable {g : Gauge} {o : ChargeOptions} {q carry : Int}

theorem Gauge.setQ_of_below (h : q < 0) : g.setQ o q carry = { g with q := 0, carry := 0 } :=
  if_pos h

theorem Gauge.setQ_of_above (h : (o.capacity * 1000 : Nat) < q) :
    g.setQ o q carry = { g with q := (o.capacity * 1000 : Nat), carry := 0 } := by
  have low : ¬q < 0 := by omega
  rw [Gauge.setQ, if_neg low, if_pos (show fullCharge o < q from h)]
  rfl

theorem Gauge.setQ_of_within (low : 0 ≤ q) (high : q ≤ (o.capacity * 1000 : Nat)) :
    g.setQ o q carry = { g with q := q, carry := carry } := by
  rw [Gauge.setQ, if_neg (not_lt.2 low), if_neg (show ¬fullCharge o < q from not_lt.2 high)]

theorem Gauge.setQ_frame (g : Gauge) (o : ChargeOptions) (q carry : Int) :
    g.setQ o q carry = { g with q := (g.setQ o q carry).q, carry := (g.setQ o q carry).carry } := by
  unfold Gauge.setQ
  split
  · rfl
  · split <;> rfl

end

/-! ### Counting (R170) -/

/-- The whole milliseconds' charge with the carry, in µA·ms. -/
def Gauge.charge (g : Gauge) (current interval : Int) : Int :=
  current * ((interval.toNat + g.remainder) / 1000 : Nat) + g.carry

theorem Gauge.count_eq (g : Gauge) (o : ChargeOptions) (current interval : Int) :
    g.count o current interval = { g.setQ o (g.q + (g.charge current interval).tdiv 3600)
      (g.charge current interval - (g.charge current interval).tdiv 3600 * 3600) with
        remainder := (interval.toNat + g.remainder) % 1000 } := rfl

theorem Gauge.count_frame (g : Gauge) (o : ChargeOptions) (current interval : Int) :
    g.count o current interval = { g with
      q := (g.count o current interval).q
      carry := (g.count o current interval).carry
      remainder := (interval.toNat + g.remainder) % 1000 } := by
  rw [Gauge.count_eq, Gauge.setQ_frame]

/-- What the counted charge leaves below one µAh. -/
theorem charge_left_bounds (n : Int) : -3600 < n - n.tdiv 3600 * 3600 ∧ n - n.tdiv 3600 * 3600 < 3600 :=
  (truncDiv_spec n (by decide)).2

section
variable {g : Gauge} {o : ChargeOptions} {current interval : Int}

theorem Gauge.count_of_below (h : g.q + (g.charge current interval).tdiv 3600 < 0) :
    (g.count o current interval).q = 0 ∧ (g.count o current interval).carry = 0 := by
  rw [Gauge.count_eq, Gauge.setQ_of_below h]
  exact ⟨rfl, rfl⟩

theorem Gauge.count_of_above (h : (o.capacity * 1000 : Nat) < g.q + (g.charge current interval).tdiv 3600) :
    (g.count o current interval).q = (o.capacity * 1000 : Nat) ∧ (g.count o current interval).carry = 0 := by
  rw [Gauge.count_eq, Gauge.setQ_of_above h]
  exact ⟨rfl, rfl⟩

/-- Within the range, Q and its carry take exactly the charge. -/
theorem Gauge.count_of_within (low : 0 ≤ g.q + (g.charge current interval).tdiv 3600)
    (high : g.q + (g.charge current interval).tdiv 3600 ≤ (o.capacity * 1000 : Nat)) :
    (g.count o current interval).q = g.q + (g.charge current interval).tdiv 3600 ∧
      (g.count o current interval).carry = g.charge current interval - (g.charge current interval).tdiv 3600 * 3600 := by
  rw [Gauge.count_eq, Gauge.setQ_of_within low high]
  exact ⟨rfl, rfl⟩

theorem Gauge.count_carry_natAbs_lt : (g.count o current interval).carry.natAbs < 3600 := by
  obtain ⟨above, below⟩ := charge_left_bounds (g.charge current interval)
  by_cases low : g.q + (g.charge current interval).tdiv 3600 < 0
  · simp [Gauge.count_of_below low]
  · by_cases high : (o.capacity * 1000 : Nat) < g.q + (g.charge current interval).tdiv 3600
    · simp [Gauge.count_of_above high]
    · rw [(Gauge.count_of_within (not_lt.1 low) (not_lt.1 high)).2]
      omega

theorem Gauge.count_q_bounds : 0 ≤ (g.count o current interval).q ∧ (g.count o current interval).q ≤ (o.capacity * 1000 : Nat) := by
  by_cases low : g.q + (g.charge current interval).tdiv 3600 < 0
  · simp only [(Gauge.count_of_below low).1]
    omega
  · by_cases high : (o.capacity * 1000 : Nat) < g.q + (g.charge current interval).tdiv 3600
    · simp only [(Gauge.count_of_above high).1]
      omega
    · rw [(Gauge.count_of_within (not_lt.1 low) (not_lt.1 high)).1]
      exact ⟨not_lt.1 low, not_lt.1 high⟩

end

/-! ### The open-circuit estimate (R173) -/

section
variable (capacity vbat i : Nat)

theorem estimateFrom_of_passed {v w : Nat} (rest : List Nat) (h : w ≤ vbat) :
    estimateFrom capacity vbat i (v :: w :: rest) = estimateFrom capacity vbat (i + 1) (w :: rest) := by
  rw [estimateFrom, if_pos h]

theorem estimateFrom_of_below {v w : Nat} (rest : List Nat) (h : vbat ≤ v) (rise : v < w) :
    estimateFrom capacity vbat i (v :: w :: rest) = capacity * 100 * i := by
  rw [estimateFrom, if_neg (by omega), if_pos h]

/-- Between two points, and at the lower one, the interpolation. -/
theorem estimateFrom_of_between {v w : Nat} (rest : List Nat) (low : v ≤ vbat) (high : vbat < w) :
    estimateFrom capacity vbat i (v :: w :: rest) = capacity * (100 * i * (w - v) + 100 * (vbat - v)) / (w - v) := by
  rw [estimateFrom, if_neg (not_le.2 high)]
  split
  case isTrue same =>
    have equal : vbat = v := Nat.le_antisymm same low
    rw [equal, Nat.sub_self, Nat.mul_zero, Nat.add_zero, ← Nat.mul_assoc, Nat.mul_div_cancel _ (by omega)]
    ring
  case isFalse => rfl

theorem strictlyRising_tail {v : Nat} {rest : List Nat} (h : strictlyRising (v :: rest) = true) :
    strictlyRising rest = true := by
  cases rest with
  | nil => rfl
  | cons w rest => exact (Bool.and_eq_true_iff.1 h).2

theorem strictlyRising_head {v w : Nat} {rest : List Nat} (h : strictlyRising (v :: w :: rest) = true) : v < w :=
  of_decide_eq_true (Bool.and_eq_true_iff.1 h).1

/-- In a rising table the head is not above any point. -/
theorem strictlyRising_head_le {v : Nat} {rest : List Nat} (h : strictlyRising (v :: rest) = true) {j : Nat}
    (hj : j < (v :: rest).length) : v ≤ (v :: rest).getD j 0 := by
  induction rest generalizing v j with
  | nil =>
    have first : j = 0 := by simpa using hj
    simp [first]
  | cons w rest ih =>
    cases j with
    | zero => simp
    | succ j => exact (strictlyRising_head h).le.trans (ih (strictlyRising_tail h) (by simpa using hj))

/-- The points passed are those at or below the reading. -/
theorem estimateFrom_between {table : List Nat} (rising : strictlyRising table = true) {j : Nat} (hj : j + 1 < table.length)
    (low : table.getD j 0 ≤ vbat) (high : vbat < table.getD (j + 1) 0) :
    estimateFrom capacity vbat i table =
      capacity * (100 * (i + j) * (table.getD (j + 1) 0 - table.getD j 0) + 100 * (vbat - table.getD j 0)) /
        (table.getD (j + 1) 0 - table.getD j 0) := by
  induction j generalizing table i with
  | zero =>
    match table, hj with
    | v :: w :: rest, _ => exact estimateFrom_of_between capacity vbat i rest low high
  | succ j ih =>
    match table, hj with
    | v :: w :: rest, hj =>
      have passed : w ≤ vbat :=
        (strictlyRising_head_le (strictlyRising_tail rising) (show j < (w :: rest).length by simp at hj ⊢; omega)).trans low
      rw [estimateFrom_of_passed capacity vbat i rest passed,
        ih (i + 1) (strictlyRising_tail rising) (by simpa using hj) low high, show i + 1 + j = i + (j + 1) by omega]
      rfl

/-- A reading at or above the last point passes them all. -/
theorem estimateFrom_beyond {table : List Nat} (rising : strictlyRising table = true) {n : Nat} (hn : table.length = n + 1)
    (high : table.getD n 0 ≤ vbat) : estimateFrom capacity vbat i table = capacity * 100 * (i + n) := by
  induction n generalizing table i with
  | zero =>
    match table, hn with
    | [v], _ => rfl
  | succ n ih =>
    match table, hn with
    | v :: w :: rest, hn =>
      have passed : w ≤ vbat :=
        (strictlyRising_head_le (strictlyRising_tail rising) (show n < (w :: rest).length by simp at hn ⊢; omega)).trans high
      rw [estimateFrom_of_passed capacity vbat i rest passed, ih (i + 1) (strictlyRising_tail rising) (by simpa using hn) high,
        show i + 1 + n = i + (n + 1) by omega]

/-- An interpolated estimate between two of eleven points is within the capacity. -/
theorem interpolated_le {v w : Nat} (hi : i < 10) (low : v ≤ vbat) (high : vbat < w) :
    capacity * (100 * i * (w - v) + 100 * (vbat - v)) / (w - v) ≤ capacity * 1000 := by
  refine Nat.div_le_of_le_mul ?_
  have steps : 100 * i * (w - v) ≤ 900 * (w - v) := Nat.mul_le_mul_right _ (by omega)
  have share : 100 * i * (w - v) + 100 * (vbat - v) ≤ 1000 * (w - v) := by omega
  calc capacity * (100 * i * (w - v) + 100 * (vbat - v)) ≤ capacity * (1000 * (w - v)) := Nat.mul_le_mul_left _ share
    _ = (w - v) * (capacity * 1000) := by ring

end

theorem Gauge.estimate_q (g : Gauge) (o : ChargeOptions) (vbat : Nat) (stamp : Stamp) :
    (g.estimate o vbat stamp).q = (min (o.capacity * 1000) (estimateFrom o.capacity vbat 0 o.openCircuit) : Nat) := by
  simp only [Gauge.estimate, fullCharge, Nat.cast_min]

/-! ### A measurement's account (R170, R172, R173) -/

/-- The account takes the estimate or the count, notes whether the thermistor is OPEN, and anchors an empty battery. -/
theorem Gauge.account_eq (g : Gauge) (o : ChargeOptions) (r : Readings) (stamp : Stamp) :
    g.account o r stamp =
      let taken : Gauge := { (if g.estimates r then g.estimate o r.vbat stamp else g.countMeasurement o r stamp) with
        wasOpen := r.temperature.isNone }
      if emptyTest o r then taken.anchor 0 else taken := rfl

section
variable {g : Gauge} {o : ChargeOptions} {r : Readings} {stamp : Stamp}

theorem emptyTest_of_open (h : ¬r.temperature.isSome = true) : emptyTest o r = false := by
  simp [emptyTest, h]

theorem emptyTest_of_read (h : r.temperature.isSome = true) :
    emptyTest o r = decide (r.vbat ≤ o.emptyVoltage ∧ max (-5000) (min 5000 r.current) < 0) := by
  rw [emptyTest, h]
  rfl

theorem isNone_of_read (h : r.temperature.isSome = true) : r.temperature.isNone = false := by
  simpa [Option.isSome_iff_exists, Option.isNone_iff_eq_none, Option.ne_none_iff_exists'] using h

theorem Gauge.account_of_open (h : ¬r.temperature.isSome = true) : g.account o r stamp = { g with
    lastStamp := some stamp, wasOpen := true, remainder := if g.lastStamp = none then 0 else g.remainder } := by
  have open_ : r.temperature = none := by simpa using h
  have counted : g.estimates r = false := by simp [Gauge.estimates, open_]
  rw [Gauge.account_eq, counted, emptyTest_of_open h]
  cases known : g.lastStamp <;> simp [Gauge.countMeasurement, known, open_]

/-- With a temperature the account is what was taken, anchored where the battery is empty. -/
theorem Gauge.account_of_read (h : r.temperature.isSome = true) {taken : Gauge}
    (took : (if g.estimates r then g.estimate o r.vbat stamp else g.countMeasurement o r stamp) = taken) :
    g.account o r stamp = if r.vbat ≤ o.emptyVoltage ∧ max (-5000) (min 5000 r.current) < 0 then
      { { taken with wasOpen := false } with q := 0, carry := 0, state := .anchored } else { taken with wasOpen := false } := by
  rw [Gauge.account_eq, took, isNone_of_read h, emptyTest_of_read h]
  simp only [decide_eq_true_eq]
  rfl

theorem Gauge.estimates_iff : g.estimates r = true ↔ r.temperature.isSome = true ∧ (g.state = .unset ∨ g.wasOpen = true) := by
  simp only [Gauge.estimates, Bool.and_eq_true, Bool.or_eq_true, decide_eq_true_eq]

theorem Gauge.countMeasurement_of_known {last : Stamp} (read : r.temperature.isSome = true)
    (counted : ¬(r.temperature.isSome = true ∧ (g.state = .unset ∨ g.wasOpen = true))) (known : g.lastStamp = some last) :
    g.countMeasurement o r stamp =
      { g.count o (max (-5000) (min 5000 r.current)) (stamp - last).toInt with lastStamp := some stamp } := by
  have set : ¬(g.state = .unset ∨ r.temperature = none) := by
    rintro (unset | open_)
    · exact counted ⟨read, .inl unset⟩
    · simp [open_] at read
  simp only [Gauge.countMeasurement, known, if_neg set]
  rfl

theorem Gauge.countMeasurement_of_first (first : g.lastStamp = none) :
    g.countMeasurement o r stamp = { g with remainder := 0, lastStamp := some stamp } := by
  simp only [Gauge.countMeasurement, first]

/-! ### A load of another capacity (R171) -/

theorem Gauge.newCapacity_of_same {before : ChargeOptions} (same : before.capacity = o.capacity) : g.newCapacity before o = g :=
  if_pos same

theorem Gauge.newCapacity_of_other {before : ChargeOptions} (other : before.capacity ≠ o.capacity) (low : 0 ≤ g.q) :
    g.newCapacity before o = { g with
      state := if g.state = .unset then .unset else .estimated
      q := min g.q (o.capacity * 1000 : Nat)
      carry := if g.q ≤ (o.capacity * 1000 : Nat) then g.carry else 0 } := by
  rw [Gauge.newCapacity, if_neg other]
  by_cases within : g.q ≤ (o.capacity * 1000 : Nat)
  · rw [Gauge.setQ_of_within low within, min_eq_left within, if_pos within]
  · rw [Gauge.setQ_of_above (not_le.1 within), min_eq_right (le_of_not_ge within), if_neg within]

end

end Sys2Proof.Machine

namespace Sys2Proof.Proofs

open Sys2Proof.Machine

/-- Settles O41: the count by the side on which the sum lies, the estimate by the points passed, the account by its readings. -/
theorem gaugeCount : Obligations.GaugeCount := by
  intro g o current interval _ _
  refine ⟨g.count_frame o current interval, Gauge.count_carry_natAbs_lt, Gauge.count_q_bounds.1, Gauge.count_q_bounds.2,
    Gauge.count_of_below, Gauge.count_of_above, fun low high => ?_, ?_, ?_, ?_⟩
  · obtain ⟨q, carry⟩ := Gauge.count_of_within low high
    refine ⟨q, ?_⟩
    rw [q, carry, Gauge.charge]
    ring
  · intro vbat stamp rising length
    refine ⟨rfl, fun low => ?_, fun high => ?_, fun i hi low high => ?_⟩
    · match table : o.openCircuit, length with
      | v :: w :: rest, _ =>
        rw [table] at rising low
        have below : vbat ≤ v := low
        rw [Gauge.estimate_q, table, estimateFrom_of_below _ _ _ rest below (strictlyRising_head rising)]
        simp
    · rw [Gauge.estimate_q, estimateFrom_beyond _ _ _ rising length high, show o.capacity * 100 * (0 + 10) = o.capacity * 1000 by ring,
        min_self]
    · rw [Gauge.estimate_q, estimateFrom_between _ _ _ rising (by omega) low high, Nat.zero_add,
        min_eq_right (interpolated_le _ _ _ hi low high)]
  · intro r stamp
    refine ⟨Gauge.account_of_open, fun estimated => ?_, fun last read counted known => ?_, fun read counted first => ?_, rfl⟩
    · exact Gauge.account_of_read estimated.1 (if_pos (Gauge.estimates_iff.2 estimated))
    · exact Gauge.account_of_read read ((if_neg fun h => counted (Gauge.estimates_iff.1 h)).trans
        (Gauge.countMeasurement_of_known read counted known))
    · exact Gauge.account_of_read read ((if_neg fun h => counted (Gauge.estimates_iff.1 h)).trans
        (Gauge.countMeasurement_of_first first))
  · intro before
    exact ⟨Gauge.newCapacity_of_same, Gauge.newCapacity_of_other⟩

end Sys2Proof.Proofs
end

section
/-! PROOFS. The values that a profile section gives (R15, R16, R47, R70, R84, R153, R168). -/

namespace Sys2Proof.Machine

/-! ### Numbers of bytes -/

theorem leNat_lt (bs : List Byte) (i n : Nat) : leNat bs i n < 256 ^ n := by
  induction n generalizing i with
  | zero => simp [leNat]
  | succ n ih =>
    have byte := (byteAt bs i).isLt
    have rest := ih (i + 1)
    rw [leNat, pow_succ]
    omega

/-! ### Clamped and stepped fields -/

/-- A numeric field's value: the one written, or the nearest end of its range. -/
def IsClamped (low high raw v : Int) : Prop :=
  v = if raw < low then low else if high < raw then high else raw

/-- A stepped field's value: the largest allowed one not above the one written, or the lowest. -/
def IsStepped (allowed : List Nat) (low raw v : Nat) : Prop :=
  v ∈ allowed ∧ (raw < low → v = low) ∧ (low ≤ raw → v ≤ raw) ∧ ∀ k ∈ allowed, k ≤ raw → k ≤ v

theorem isClamped_clampInt {low high : Int} (h : low ≤ high) (raw : Int) : IsClamped low high raw (clampInt low high raw) := by
  unfold IsClamped clampInt
  split <;> [skip; split] <;> omega

theorem isClamped_clampNat {low high : Nat} (h : low ≤ high) (raw : Nat) : IsClamped low high raw (clampNat low high raw) := by
  unfold IsClamped clampNat
  split <;> [skip; split] <;> omega

theorem isClamped_min_max {low high : Nat} (h : low ≤ high) (raw : Nat) : IsClamped low high raw (min high (max low raw) : Nat) := by
  unfold IsClamped
  split <;> [skip; split] <;> omega

theorem isClamped_min (high raw : Nat) : IsClamped 0 high raw (min high raw : Nat) := by
  unfold IsClamped
  split <;> [skip; split] <;> omega

/-- The search keeps a value not above the one written, and meets every allowed one that is not above it. -/
theorem stepDown_of_rising {low raw : Nat} {allowed : List Nat} (rising : (low :: allowed).Pairwise (· < ·)) :
    low ≤ stepDown low allowed raw ∧ (low ≤ raw → stepDown low allowed raw ≤ raw) ∧
      (raw < low → stepDown low allowed raw = low) ∧ ∀ k ∈ allowed, k ≤ raw → k ≤ stepDown low allowed raw := by
  induction allowed generalizing low with
  | nil => simp [stepDown]
  | cons a rest ih =>
    obtain ⟨above, tail⟩ := List.pairwise_cons.1 rising
    have next : low < a := above a (List.mem_cons_self ..)
    by_cases within : a ≤ raw
    · have found : stepDown low (a :: rest) raw = stepDown a rest raw := by simp [stepDown, within]
      obtain ⟨least, atMost, _, met⟩ := ih tail
      rw [found]
      refine ⟨by omega, fun _ => atMost within, by omega, fun k hk hle => ?_⟩
      rcases List.mem_cons.1 hk with rfl | hk
      · exact least
      · exact met k hk hle
    · have found : stepDown low (a :: rest) raw = stepDown low rest raw := by simp [stepDown, within]
      obtain ⟨least, atMost, below, met⟩ := ih (low := low)
        (List.pairwise_cons.2 ⟨fun k hk => above k (List.mem_cons_of_mem a hk), (List.pairwise_cons.1 tail).2⟩)
      rw [found]
      refine ⟨least, atMost, below, fun k hk hle => ?_⟩
      rcases List.mem_cons.1 hk with rfl | hk
      · exact absurd hle within
      · exact met k hk hle

theorem isStepped_stepDown {low : Nat} {rest : List Nat} (rising : (low :: rest).Pairwise (· < ·)) (raw : Nat) :
    IsStepped (low :: rest) low raw (stepDown low (low :: rest) raw) := by
  have found : stepDown low (low :: rest) raw = stepDown low rest raw := by simp [stepDown]
  obtain ⟨least, atMost, below, met⟩ := stepDown_of_rising (raw := raw) rising
  rw [found]
  refine ⟨?_, below, atMost, fun k hk hle => ?_⟩
  · rcases stepDown_mem low rest raw with same | later
    · rw [same]; exact List.mem_cons_self ..
    · exact List.mem_cons_of_mem low later
  · rcases List.mem_cons.1 hk with rfl | hk
    · exact least
    · exact met k hk hle

/-! ### Codes of two values -/

theorem choice_isSome_iff (b : Byte) : (choice b).isSome = true ↔ b.toNat ≤ 1 := by
  unfold choice
  split
  · simp_all
  · split
    · simp_all
    · simp only [Option.isSome_none, Bool.false_eq_true, false_iff]
      bv_omega

theorem decide_one_of_choice {b : Byte} (h : b.toNat ≤ 1) : decide (b = 1) = b.getLsbD 0 := by
  have values : b = 0 ∨ b = 1 := by bv_omega
  rcases values with rfl | rfl <;> rfl

theorem strictlyRising_iff (l : List Nat) : strictlyRising l = true ↔ l.Pairwise (· < ·) := by
  induction l with
  | nil => simp [strictlyRising]
  | cons a rest ih =>
    rw [← List.isChain_iff_pairwise] at ih ⊢
    cases rest with
    | nil => simp [strictlyRising]
    | cons b rest => simp [strictlyRising, ih, List.isChain_cons_cons]

theorem motionStructureOk_iff (bs : List Byte) :
    motionStructureOk bs = true ↔ (∀ place ∈ [5, 6, 14, 16, 18], (byteAt bs place).toNat ≤ 1) ∧
      (∀ place ∈ [13, 15, 17], (byteAt bs place).toNat ≤ 2) ∧ byteAt bs 13 ≠ byteAt bs 15 ∧ byteAt bs 13 ≠ byteAt bs 17 ∧
      byteAt bs 15 ≠ byteAt bs 17 := by
  simp only [motionStructureOk, Bool.and_eq_true, choice_isSome_iff, decide_eq_true_eq, bne_iff_ne, ne_eq, BitVec.toNat_inj,
    List.forall_mem_cons, List.not_mem_nil, false_implies, implies_true, and_true, Nat.lt_succ_iff]
  tauto

theorem steadyStructureOk_iff (bs : List Byte) :
    steadyStructureOk bs = true ↔ ∀ place ∈ [14, 15, 16, 17], (byteAt bs place).toNat ≤ 1 := by
  simp only [steadyStructureOk, Bool.and_eq_true, choice_isSome_iff, List.forall_mem_cons, List.not_mem_nil, false_implies,
    implies_true, and_true, and_assoc]

/-! ### CLAMPED: a field differs from the one written -/

theorem parseSteady_unclamped_iff (bs : List Byte) :
    (parseSteady bs).clamped = false ↔
      let p := (parseSteady bs).value
      p.focal = leNat bs 4 2 ∧ p.marginX = leNat bs 6 2 ∧ p.marginY = leNat bs 8 2 ∧ p.rollLimit = leNat bs 10 2 ∧
        p.follow = leNat bs 12 2 := by
  simp only [parseSteady, Bool.or_eq_false_iff, bne_eq_false_iff_eq, and_assoc]

theorem parseIncident_unclamped_iff (bs : List Byte) :
    (parseIncident bs).clamped = false ↔
      let i := (parseIncident bs).value
      i.threshold = leNat bs 28 4 ∧ i.runLength = (byteAt bs 24).toNat ∧ i.windowSeconds = (byteAt bs 22).toNat ∧
        i.lookbackSeconds = (byteAt bs 23).toNat := by
  simp only [parseIncident, Bool.or_eq_false_iff, bne_eq_false_iff_eq, and_assoc]

theorem parseMotion_unclamped_iff (bs : List Byte) :
    (parseMotion bs).clamped = false ↔
      let q := (parseMotion bs).value
      q.port.clockCode = (byteAt bs 4).toNat ∧ q.dataAddress = (byteAt bs 7).toNat ∧ q.nominalRate = leNat bs 8 2 ∧
        q.fullScale = leNat bs 10 2 ∧ q.accelScale = (byteAt bs 12).toNat ∧
        q.initialBias = ⟨leInt bs 20 4, leInt bs 24 4, leInt bs 28 4⟩ ∧ q.stillThreshold = leNat bs 32 4 ∧
        q.stillRun = leNat bs 36 4 := by
  simp only [parseMotion, Bool.or_eq_false_iff, bne_eq_false_iff_eq, and_assoc]

theorem parseVolume_unclamped_iff (bs : List Byte) :
    (parseVolume bs).clamped = false ↔
      let v := (parseVolume bs).value
      v.segmentSize = leNat bs 8 4 ∧ v.segmentCount = leNat bs 12 4 ∧ (v.clipSeconds : Int) = leInt bs 16 4 ∧
        v.gapWait = (byteAt bs 20).toNat ∧ v.starvationSeconds = (byteAt bs 21).toNat := by
  simp only [parseVolume, Bool.or_eq_false_iff, bne_eq_false_iff_eq, and_assoc]

theorem parseCharge_unclamped_iff (bs : List Byte) :
    (parseCharge bs).clamped = false ↔
      let o := (parseCharge bs).value
      o.vreg = leNat bs 4 2 ∧ o.icc = leNat bs 6 2 ∧ o.prechargeCurrent = leNat bs 8 2 ∧ o.terminationCurrent = leNat bs 10 2 ∧
        o.prechargeMinutes = leNat bs 12 2 ∧ o.totalMinutes = leNat bs 14 2 ∧ o.t1 = leInt bs 16 1 ∧ o.t2 = leInt bs 17 1 ∧
        o.t3 = leInt bs 18 1 ∧ o.t4 = leInt bs 19 1 ∧ o.recordingCap = leNat bs 20 2 ∧ o.auxLimit = leNat bs 22 2 ∧
        o.auxSag = leNat bs 24 2 ∧ o.capacity = leNat bs 26 2 ∧ o.emptyVoltage = leNat bs 28 2 ∧
        o.cutoffVoltage = leNat bs 30 2 ∧ o.reserve = leNat bs 32 2 := by
  simp only [parseCharge, Bool.or_eq_false_iff, bne_eq_false_iff_eq, and_assoc]

/-! ### The values lie in their ranges -/

theorem natAbs_clampInt_le (x : Int) : (clampInt (-65536) 65536 x).natAbs ≤ 65536 := by
  have := clampInt_bounds (lo := -65536) (hi := 65536) (by decide) x
  omega

theorem parseMotion_values (bs : List Byte) :
    let q := (parseMotion bs).value
    q.port.clockCode ≤ 3 ∧ q.dataAddress ≤ 127 ∧ (q.nominalRate = 500 ∨ q.nominalRate = 1000 ∨ q.nominalRate = 2000) ∧
      (q.fullScale = 500 ∨ q.fullScale = 1000 ∨ q.fullScale = 2000) ∧
      (q.accelScale = 4 ∨ q.accelScale = 8 ∨ q.accelScale = 16) ∧
      q.initialBias.yaw.natAbs ≤ 65536 ∧ q.initialBias.pitch.natAbs ≤ 65536 ∧ q.initialBias.roll.natAbs ≤ 65536 ∧
      q.stillThreshold ≤ 65535 ∧ 1 ≤ q.stillRun ∧ q.stillRun ≤ 65535 := by
  have rate := (isStepped_stepDown (low := 500) (rest := [1000, 2000]) (by decide) (leNat bs 8 2)).1
  have scale := (isStepped_stepDown (low := 500) (rest := [1000, 2000]) (by decide) (leNat bs 10 2)).1
  have accel := (isStepped_stepDown (low := 4) (rest := [8, 16]) (by decide) (byteAt bs 12).toNat).1
  simp only [List.mem_cons, List.not_mem_nil, or_false] at rate scale accel
  have run := clampNat_bounds (lo := 1) (hi := 65535) (by decide) (leNat bs 36 4)
  exact ⟨Nat.min_le_left .., Nat.min_le_left .., rate, scale, accel, natAbs_clampInt_le _, natAbs_clampInt_le _,
    natAbs_clampInt_le _, Nat.min_le_left .., run.1, run.2⟩

theorem parseSteady_values (bs : List Byte) :
    let p := (parseSteady bs).value
    200 ≤ p.focal ∧ p.focal ≤ 8000 ∧ p.marginX ≤ 1024 ∧ p.marginY ≤ 1024 ∧ p.rollLimit ≤ 15000 ∧ 1 ≤ p.follow ∧
      p.follow ≤ 256 := by
  have focal := clampNat_bounds (lo := 200) (hi := 8000) (by decide) (leNat bs 4 2)
  have follow := clampNat_bounds (lo := 1) (hi := 256) (by decide) (leNat bs 12 2)
  exact ⟨focal.1, focal.2, Nat.min_le_left .., Nat.min_le_left .., Nat.min_le_left .., follow.1, follow.2⟩

theorem parseVolume_clipSeconds (bs : List Byte) : ((parseVolume bs).value.clipSeconds : Int) = clampInt 10 3600 (leInt bs 16 4) :=
  Int.toNat_of_nonneg (le_trans (by decide) (clampInt_bounds (by decide) _).1)

theorem parseVolume_values (bs : List Byte) :
    let v := (parseVolume bs).value
    (v.segmentSize = 2048 ∨ v.segmentSize = 4096 ∨ v.segmentSize = 8192 ∨ v.segmentSize = 16384) ∧ 16 ≤ v.segmentCount ∧
      v.segmentCount ≤ 1024 ∧ 10 ≤ v.clipSeconds ∧ v.clipSeconds ≤ 3600 ∧ 1 ≤ v.gapWait ∧ v.gapWait ≤ 16 ∧
      1 ≤ v.starvationSeconds ∧ v.starvationSeconds ≤ 30 := by
  have size := (isStepped_stepDown (low := 2048) (rest := [4096, 8192, 16384]) (by decide) (leNat bs 8 4)).1
  simp only [List.mem_cons, List.not_mem_nil, or_false] at size
  have count := clampNat_bounds (lo := 16) (hi := 1024) (by decide) (leNat bs 12 4)
  have seconds := clampInt_bounds (lo := 10) (hi := 3600) (by decide) (leInt bs 16 4)
  rw [← parseVolume_clipSeconds] at seconds
  have gap := clampNat_bounds (lo := 1) (hi := 16) (by decide) (byteAt bs 20).toNat
  have starve := clampNat_bounds (lo := 1) (hi := 30) (by decide) (byteAt bs 21).toNat
  exact ⟨size, count.1, count.2, by omega, by omega, gap.1, gap.2, starve.1, starve.2⟩

theorem parseIncident_values (bs : List Byte) :
    let i := (parseIncident bs).value
    1 ≤ i.threshold ∧ i.threshold ≤ 98304 ∧ 1 ≤ i.runLength ∧ i.runLength ≤ 8 ∧ 1 ≤ i.windowSeconds ∧
      i.windowSeconds ≤ 60 ∧ i.lookbackSeconds ≤ 120 := by
  have threshold := clampNat_bounds (lo := 1) (hi := 98304) (by decide) (leNat bs 28 4)
  have run := clampNat_bounds (lo := 1) (hi := 8) (by decide) (byteAt bs 24).toNat
  have window := clampNat_bounds (lo := 1) (hi := 60) (by decide) (byteAt bs 22).toNat
  exact ⟨threshold.1, threshold.2, run.1, run.2, window.1, window.2, Nat.min_le_left ..⟩

theorem parseCharge_openCircuit (bs : List Byte) :
    (parseCharge bs).value.openCircuit = [leNat bs 34 2, leNat bs 36 2, leNat bs 38 2, leNat bs 40 2, leNat bs 42 2, leNat bs 44 2,
      leNat bs 46 2, leNat bs 48 2, leNat bs 50 2, leNat bs 52 2, leNat bs 54 2] := rfl

theorem parseCharge_values (bs : List Byte) :
    let o := (parseCharge bs).value
    4000 ≤ o.vreg ∧ o.vreg ≤ 4400 ∧ 100 ≤ o.icc ∧ o.icc ≤ 3000 ∧ 50 ≤ o.prechargeCurrent ∧ o.prechargeCurrent ≤ 500 ∧
      20 ≤ o.terminationCurrent ∧ o.terminationCurrent ≤ 500 ∧ 5 ≤ o.prechargeMinutes ∧ o.prechargeMinutes ≤ 120 ∧
      60 ≤ o.totalMinutes ∧ o.totalMinutes ≤ 720 ∧ (∀ t ∈ [o.t1, o.t2, o.t3, o.t4], -20 ≤ t ∧ t ≤ 80) ∧
      100 ≤ o.recordingCap ∧ o.recordingCap ≤ 3000 ∧ 100 ≤ o.auxLimit ∧ o.auxLimit ≤ 3000 ∧
      o.auxLimit % 50 = 0 ∧ 6000 ≤ o.auxSag ∧ o.auxSag ≤ 20000 ∧ 200 ≤ o.capacity ∧ o.capacity ≤ 5000 ∧
      3000 ≤ o.emptyVoltage ∧ o.emptyVoltage ≤ 3600 ∧ o.cutoffVoltage ≤ o.emptyVoltage ∧
      2900 ≤ o.cutoffVoltage ∧ o.reserve ≤ 300 ∧ o.openCircuit.length = 11 ∧ ∀ v ∈ o.openCircuit, v < 65536 := by
  have limits : ∀ t ∈ [(parseCharge bs).value.t1, (parseCharge bs).value.t2, (parseCharge bs).value.t3, (parseCharge bs).value.t4],
      -20 ≤ t ∧ t ≤ 80 := by
    simp only [List.forall_mem_cons, List.not_mem_nil, false_implies, implies_true, and_true]
    exact ⟨clampInt_bounds (by decide) _, clampInt_bounds (by decide) _, clampInt_bounds (by decide) _,
      clampInt_bounds (by decide) _⟩
  have points : ∀ v ∈ (parseCharge bs).value.openCircuit, v < 65536 := by
    intro v hv
    obtain ⟨i, _, rfl⟩ := List.mem_map.1 hv
    exact leNat_lt bs _ 2
  intro o
  refine ⟨?_, ?_, ?_, ?_, ?_, ?_, ?_, ?_, ?_, ?_, ?_, ?_, limits, ?_, ?_, ?_, ?_, ?_, ?_, ?_, ?_, ?_, ?_, ?_, ?_, ?_, ?_, rfl,
    points⟩ <;>
    simp only [o, parseCharge, clampNat] <;> omega

/-! ### The values against the bytes -/

theorem parseMotion_nearest (bs : List Byte) :
    let q := (parseMotion bs).value
    IsClamped 0 3 (byteAt bs 4).toNat q.port.clockCode ∧ IsClamped 0 127 (byteAt bs 7).toNat q.dataAddress ∧
      IsStepped [500, 1000, 2000] 500 (leNat bs 8 2) q.nominalRate ∧ IsStepped [500, 1000, 2000] 500 (leNat bs 10 2) q.fullScale ∧
      IsStepped [4, 8, 16] 4 (byteAt bs 12).toNat q.accelScale ∧ IsClamped (-65536) 65536 (leInt bs 20 4) q.initialBias.yaw ∧
      IsClamped (-65536) 65536 (leInt bs 24 4) q.initialBias.pitch ∧ IsClamped (-65536) 65536 (leInt bs 28 4) q.initialBias.roll ∧
      IsClamped 0 65535 (leNat bs 32 4) q.stillThreshold ∧ IsClamped 1 65535 (leNat bs 36 4) q.stillRun :=
  ⟨isClamped_min 3 _, isClamped_min 127 _, isStepped_stepDown (by decide) _, isStepped_stepDown (by decide) _,
    isStepped_stepDown (by decide) _, isClamped_clampInt (by decide) _, isClamped_clampInt (by decide) _,
    isClamped_clampInt (by decide) _, isClamped_min 65535 _, isClamped_clampNat (by decide) _⟩

theorem parseSteady_nearest (bs : List Byte) :
    let p := (parseSteady bs).value
    IsClamped 200 8000 (leNat bs 4 2) p.focal ∧ IsClamped 0 1024 (leNat bs 6 2) p.marginX ∧
      IsClamped 0 1024 (leNat bs 8 2) p.marginY ∧ IsClamped 0 15000 (leNat bs 10 2) p.rollLimit ∧
      IsClamped 1 256 (leNat bs 12 2) p.follow :=
  ⟨isClamped_clampNat (by decide) _, isClamped_min 1024 _, isClamped_min 1024 _, isClamped_min 15000 _,
    isClamped_clampNat (by decide) _⟩

theorem parseVolume_nearest (bs : List Byte) :
    let v := (parseVolume bs).value
    IsStepped [2048, 4096, 8192, 16384] 2048 (leNat bs 8 4) v.segmentSize ∧ IsClamped 16 1024 (leNat bs 12 4) v.segmentCount ∧
      IsClamped 10 3600 (leInt bs 16 4) v.clipSeconds ∧ IsClamped 1 16 (byteAt bs 20).toNat v.gapWait ∧
      IsClamped 1 30 (byteAt bs 21).toNat v.starvationSeconds :=
  ⟨isStepped_stepDown (by decide) _, isClamped_clampNat (by decide) _,
    (parseVolume_clipSeconds bs).symm ▸ isClamped_clampInt (by decide) _, isClamped_clampNat (by decide) _,
    isClamped_clampNat (by decide) _⟩

theorem parseIncident_nearest (bs : List Byte) :
    let i := (parseIncident bs).value
    IsClamped 1 98304 (leNat bs 28 4) i.threshold ∧ IsClamped 1 8 (byteAt bs 24).toNat i.runLength ∧
      IsClamped 1 60 (byteAt bs 22).toNat i.windowSeconds ∧ IsClamped 0 120 (byteAt bs 23).toNat i.lookbackSeconds :=
  ⟨isClamped_clampNat (by decide) _, isClamped_clampNat (by decide) _, isClamped_clampNat (by decide) _, isClamped_min 120 _⟩

/-- The cut-off voltage is clamped between its lower limit and the empty voltage in force. -/
theorem parseCharge_cutoff (bs : List Byte) :
    IsClamped 2900 (parseCharge bs).value.emptyVoltage (leNat bs 30 2) (parseCharge bs).value.cutoffVoltage := by
  have empty := (clampNat_bounds (lo := 3000) (hi := 3600) (by decide) (leNat bs 28 2)).1
  exact isClamped_min_max (le_trans (by decide) empty) _

theorem parseCharge_nearest (bs : List Byte) :
    let o := (parseCharge bs).value
    let raw := fun place : Nat => (leNat bs place 2 : Int)
    IsClamped 4000 4400 (raw 4) o.vreg ∧ IsClamped 100 3000 (raw 6) o.icc ∧ IsClamped 50 500 (raw 8) o.prechargeCurrent ∧
      IsClamped 20 500 (raw 10) o.terminationCurrent ∧ IsClamped 5 120 (raw 12) o.prechargeMinutes ∧
      IsClamped 60 720 (raw 14) o.totalMinutes ∧ IsClamped (-20) 80 (leInt bs 16 1) o.t1 ∧
      IsClamped (-20) 80 (leInt bs 17 1) o.t2 ∧ IsClamped (-20) 80 (leInt bs 18 1) o.t3 ∧
      IsClamped (-20) 80 (leInt bs 19 1) o.t4 ∧ IsClamped 100 3000 (raw 20) o.recordingCap ∧
      (∃ whole : Nat, IsClamped 100 3000 (raw 22) whole ∧ o.auxLimit = whole - whole % 50) ∧
      IsClamped 6000 20000 (raw 24) o.auxSag ∧ IsClamped 200 5000 (raw 26) o.capacity ∧
      IsClamped 3000 3600 (raw 28) o.emptyVoltage ∧ IsClamped 2900 o.emptyVoltage (raw 30) o.cutoffVoltage ∧
      IsClamped 0 300 (raw 32) o.reserve ∧
      (limitsOrdered o = true ↔ o.t1 < o.t2 ∧ o.t2 < o.t3 ∧ o.t3 < o.t4) ∧
      (strictlyRising o.openCircuit = true ↔ o.openCircuit.Pairwise (· < ·)) :=
  ⟨isClamped_clampNat (by decide) _, isClamped_clampNat (by decide) _, isClamped_clampNat (by decide) _,
    isClamped_clampNat (by decide) _, isClamped_clampNat (by decide) _, isClamped_clampNat (by decide) _,
    isClamped_clampInt (by decide) _, isClamped_clampInt (by decide) _, isClamped_clampInt (by decide) _,
    isClamped_clampInt (by decide) _, isClamped_clampNat (by decide) _,
    ⟨_, isClamped_clampNat (by decide) _, rfl⟩, isClamped_clampNat (by decide) _, isClamped_clampNat (by decide) _,
    isClamped_clampNat (by decide) _, parseCharge_cutoff bs, isClamped_min 300 _,
    by simp only [limitsOrdered, Bool.and_eq_true, decide_eq_true_eq, and_assoc], strictlyRising_iff _⟩

/-! ### The codes, where the structure is good -/

theorem parseMotion_codes {bs : List Byte} (h : motionStructureOk bs = true) :
    let q := (parseMotion bs).value
    q.port.idleHigh = (byteAt bs 5).getLsbD 0 ∧ q.port.captureSecond = (byteAt bs 6).getLsbD 0 ∧
      ∀ a ∈ [(q.axisMap.yaw, 13), (q.axisMap.pitch, 15), (q.axisMap.roll, 17)],
        a.1.source = (byteAt bs a.2).toNat ∧ a.1.negative = (byteAt bs (a.2 + 1)).getLsbD 0 := by
  have codes := ((motionStructureOk_iff bs).1 h).1
  simp only [List.forall_mem_cons, List.not_mem_nil, false_implies, implies_true, and_true] at codes ⊢
  obtain ⟨idle, capture, yaw, pitch, roll⟩ := codes
  exact ⟨decide_one_of_choice idle, decide_one_of_choice capture, ⟨rfl, decide_one_of_choice yaw⟩,
    ⟨rfl, decide_one_of_choice pitch⟩, rfl, decide_one_of_choice roll⟩

theorem parseSteady_codes {bs : List Byte} (h : steadyStructureOk bs = true) :
    let p := (parseSteady bs).value
    p.enable = ⟨(byteAt bs 14).getLsbD 0, (byteAt bs 15).getLsbD 0, (byteAt bs 16).getLsbD 0⟩ ∧
      p.track = (byteAt bs 17).getLsbD 0 := by
  have codes := (steadyStructureOk_iff bs).1 h
  simp only [List.forall_mem_cons, List.not_mem_nil, false_implies, implies_true, and_true] at codes
  obtain ⟨yaw, pitch, roll, track⟩ := codes
  simp only [parseSteady, decide_one_of_choice yaw, decide_one_of_choice pitch, decide_one_of_choice roll,
    decide_one_of_choice track, and_self]

end Sys2Proof.Machine

namespace Sys2Proof.Proofs
open Sys2Proof.Machine

/-- Settles O11: each section's fields one by one, by what the clamp and the step down give of any byte. -/
theorem loadedValuesInRange : Obligations.LoadedValuesInRange := by
  intro bs
  exact ⟨parseMotion_values bs, parseSteady_values bs, parseVolume_values bs, parseIncident_values bs, parseCharge_values bs,
    parseSteady_unclamped_iff bs, parseIncident_unclamped_iff bs, parseMotion_unclamped_iff bs, parseVolume_unclamped_iff bs,
    parseCharge_unclamped_iff bs, rfl, parseCharge_openCircuit bs, parseMotion_codes, parseSteady_codes, rfl, rfl,
    ⟨parseMotion_nearest bs, parseSteady_nearest bs, parseVolume_nearest bs, parseIncident_nearest bs, parseCharge_nearest bs⟩,
    motionStructureOk_iff bs, steadyStructureOk_iff bs⟩

end Sys2Proof.Proofs
end

section
/-! PROOFS. What stands in a record of bytes put together, and the charge options read back from the store (R186, R187). -/

namespace Sys2Proof.Machine

/-! ### Reading from bytes put together -/

theorem byteAt_append_of_le (a b : List Byte) {i : Nat} (h : a.length ≤ i) : byteAt (a ++ b) i = byteAt b (i - a.length) := by
  rw [← byteAt_append_right a b, Nat.add_sub_cancel' h]

theorem leNat_append_of_le (a b : List Byte) {i n : Nat} (h : a.length ≤ i) : leNat (a ++ b) i n = leNat b (i - a.length) n :=
  leNat_congr fun k _ => by rw [byteAt_append_of_le a b (by omega), show i + k - a.length = i - a.length + k by omega]

theorem leNat_append_of_lt (a b : List Byte) {i n : Nat} (h : i + n ≤ a.length) : leNat (a ++ b) i n = leNat a i n :=
  leNat_congr fun _ _ => byteAt_append_left a b (by omega)

theorem leNat_toLe_append (n v : Nat) (rest : List Byte) : leNat (toLe n v ++ rest) 0 n = v % 256 ^ n := by
  rw [leNat_append_of_lt _ _ (by simp), leNat_toLe_mod]

theorem byteAt_of_leNat {bs : List Byte} {i v : Nat} (h : leNat bs i 1 = v % 256) : byteAt bs i = BitVec.ofNat 8 v := by
  apply BitVec.eq_of_toNat_eq
  simpa [leNat] using h

theorem byteAt_slice (bs : List Byte) (i : Nat) {n k : Nat} (h : k < n) : byteAt (slice bs i n) k = byteAt bs (i + k) := by
  simp [slice, byteAt, List.getD_eq_getElem?_getD, h]

/-- Two lists of bytes of one length are the same where each byte is. -/
theorem eq_of_byteAt {a b : List Byte} (length : a.length = b.length) (bytes : ∀ k < a.length, byteAt a k = byteAt b k) :
    a = b := by
  refine List.ext_getElem length fun k ha hb => ?_
  have same := bytes k ha
  rwa [byteAt, byteAt, List.getD_eq_getElem _ _ ha, List.getD_eq_getElem _ _ hb] at same

theorem slice_append_of_le (a b : List Byte) {i : Nat} (n : Nat) (h : a.length ≤ i) :
    slice (a ++ b) i n = slice b (i - a.length) n := by
  refine eq_of_byteAt (by simp) fun k hk => ?_
  rw [slice_length] at hk
  rw [byteAt_slice _ _ hk, byteAt_slice _ _ hk, byteAt_append_of_le _ _ (by omega), show i + k - a.length = i - a.length + k by omega]

theorem slice_append_of_lt (a b : List Byte) {i n : Nat} (h : i + n ≤ a.length) : slice (a ++ b) i n = slice a i n := by
  refine eq_of_byteAt (by simp) fun k hk => ?_
  rw [slice_length] at hk
  rw [byteAt_slice _ _ hk, byteAt_slice _ _ hk, byteAt_append_left _ _ (by omega)]

theorem slice_all (a : List Byte) : slice a 0 a.length = a :=
  eq_of_byteAt (by simp) fun k hk => by
    rw [slice_length] at hk
    rw [byteAt_slice _ _ hk, Nat.zero_add]

/-- The first part of bytes put together. -/
theorem slice_append (a b : List Byte) {n : Nat} (h : a.length = n) : slice (a ++ b) 0 n = a := by
  subst h
  rw [slice_append_of_lt _ _ (by omega), slice_all]

/-- A byte of an item in a row of items of `m` bytes each. -/
theorem byteAt_flatMap {α : Type} {f : α → List Byte} {m : Nat} (hf : ∀ x, (f x).length = m) {l : List α} {i : Nat} {x : α}
    (hx : l[i]? = some x) {k : Nat} (hk : k < m) : byteAt (l.flatMap f) (m * i + k) = byteAt (f x) k := by
  induction l generalizing i with
  | nil => simp at hx
  | cons y rest ih =>
    rw [List.flatMap_cons]
    cases i with
    | zero =>
      obtain rfl : y = x := by simpa using hx
      rw [Nat.mul_zero, Nat.zero_add, byteAt_append_left _ _ (by rw [hf]; exact hk)]
    | succ i =>
      rw [byteAt_append_of_le _ _ (by rw [hf, Nat.mul_succ]; omega), hf, ← ih (by simpa using hx), Nat.mul_succ]
      congr 1
      omega

theorem leNat_flatMap {α : Type} {f : α → List Byte} {m : Nat} (hf : ∀ x, (f x).length = m) {l : List α} {i : Nat} {x : α}
    (hx : l[i]? = some x) {j n : Nat} (hj : j + n ≤ m) : leNat (l.flatMap f) (m * i + j) n = leNat (f x) j n :=
  leNat_congr fun k hk => by rw [Nat.add_assoc, byteAt_flatMap hf hx (by omega)]

theorem flatMap_length {α : Type} {f : α → List Byte} {m : Nat} (hf : ∀ x, (f x).length = m) (l : List α) :
    (l.flatMap f).length = m * l.length := by
  simp [List.length_flatMap, hf, Nat.mul_comm]

/-- A signed number whose low bytes stand at a place reads back. -/
theorem leInt_of_leNat {bs : List Byte} {i : Nat} {v : Int} (h : leNat bs i 1 = (BitVec.ofInt 8 v).toNat % 256) (low : -128 ≤ v)
    (high : v < 128) : leInt bs i 1 = v := by
  have same : BitVec.ofNat (8 * 1) (leNat bs i 1) = BitVec.ofInt 8 v := by
    apply BitVec.eq_of_toNat_eq
    rw [h, BitVec.toNat_ofNat]
    have := (BitVec.ofInt 8 v).isLt
    omega
  rw [leInt, same, BitVec.toInt_ofInt, Int.bmod_eq_of_le] <;> simp <;> omega

/-! ### The stored block -/

theorem storedHead_fits {o : ChargeOptions} (h : o.openCircuit.length = 11) : Fits 62 0 [(4, chargeFields o)] := by
  simp [Fits, chargeFields_length h]

theorem storedHead_length {o : ChargeOptions} (h : o.openCircuit.length = 11) :
    (layoutFrom 62 0 [(4, chargeFields o)]).length = 62 :=
  layoutFrom_length (storedHead_fits h)

/-- The fields of the block stand from byte 4 on. -/
theorem leNat_storedBlock {o : ChargeOptions} (h : o.openCircuit.length = 11) {j n : Nat} (hj : j + n ≤ 53) :
    leNat (storedBlock o) (4 + j) n = leNat (chargeFields o) j n := by
  rw [storedBlock, leNat_append_of_lt _ _ (by rw [storedHead_length h]; omega)]
  refine leNat_congr fun k hk => ?_
  rw [Nat.add_assoc]
  exact layoutFrom_byte (storedHead_fits h) (List.mem_singleton_self _) (by rw [chargeFields_length h]; omega)

/-- The fields of the options, each with its place from byte 4 on. -/
def chargeItems (o : ChargeOptions) : List (Nat × List Byte) :=
  [(0, toLe 2 o.vreg), (2, toLe 2 o.icc), (4, toLe 2 o.prechargeCurrent), (6, toLe 2 o.terminationCurrent),
    (8, toLe 2 o.prechargeMinutes), (10, toLe 2 o.totalMinutes), (12, toLeInt 1 o.t1), (13, toLeInt 1 o.t2),
    (14, toLeInt 1 o.t3), (15, toLeInt 1 o.t4), (16, toLe 2 o.recordingCap), (18, toLe 2 o.auxLimit), (20, toLe 2 o.auxSag),
    (22, toLe 2 o.capacity), (24, toLe 2 o.emptyVoltage), (26, toLe 2 o.cutoffVoltage), (28, toLe 2 o.reserve),
    (30, o.openCircuit.flatMap (toLe 2)), (52, toLe 1 (bitsNat [o.autoOn, o.fastSettle]))]

theorem openCircuit_bytes_length {o : ChargeOptions} (h : o.openCircuit.length = 11) :
    (o.openCircuit.flatMap (toLe 2)).length = 22 := by
  rw [flatMap_length (toLe_length 2), h]

theorem chargeItems_fit {o : ChargeOptions} (h : o.openCircuit.length = 11) : Fits 53 0 (chargeItems o) := by
  have table := openCircuit_bytes_length h
  simp only [chargeItems, Fits, toLeInt, toLe_length, table]
  decide

theorem chargeFields_eq {o : ChargeOptions} (h : o.openCircuit.length = 11) :
    chargeFields o = layoutFrom 53 0 (chargeItems o) := by
  have table := openCircuit_bytes_length h
  simp only [chargeFields, chargeItems, layoutFrom, toLeInt, toLe_length, table, Nat.reduceAdd, Nat.reduceSub, List.replicate_zero,
    List.nil_append, List.append_nil, List.append_assoc]

/-- A number among the fields of the options. -/
theorem chargeFields_number {o : ChargeOptions} (h : o.openCircuit.length = 11) (i : Nat) {place n v : Nat}
    (hi : (chargeItems o)[i]? = some (place, toLe n v)) : leNat (chargeFields o) place n = v % 256 ^ n := by
  rw [chargeFields_eq h]
  exact layoutFrom_leNat (chargeItems_fit h) (List.mem_of_getElem? hi)

/-- A point of the open-circuit table among the fields. -/
theorem chargeFields_point {o : ChargeOptions} (h : o.openCircuit.length = 11) {i v : Nat} (hv : o.openCircuit[i]? = some v) :
    leNat (chargeFields o) (30 + 2 * i) 2 = v % 65536 := by
  have length := (List.getElem?_eq_some_iff.1 hv).1
  have table : leNat (chargeFields o) (30 + 2 * i) 2 = leNat (o.openCircuit.flatMap (toLe 2)) (2 * i + 0) 2 := by
    rw [chargeFields_eq h]
    refine leNat_congr fun k hk => ?_
    rw [Nat.add_assoc]
    exact layoutFrom_byte (chargeItems_fit h) (x := (30, o.openCircuit.flatMap (toLe 2)))
      (List.mem_of_getElem? (i := 17) rfl) (by rw [openCircuit_bytes_length h]; omega)
  rw [table, leNat_flatMap (toLe_length 2) hv (by decide), leNat_toLe_mod]
  rfl

/-! ### Values within their ranges read back as they are -/

theorem clampNat_of_mem {low high x : Nat} (h1 : low ≤ x) (h2 : x ≤ high) : clampNat low high x = x := by
  unfold clampNat; omega

theorem clampInt_of_mem {low high x : Int} (h1 : low ≤ x) (h2 : x ≤ high) : clampInt low high x = x := by
  unfold clampInt; omega

theorem storedBlock_number {o : ChargeOptions} (h : o.openCircuit.length = 11) {place n v : Nat} (i : Nat)
    (hi : (chargeItems o)[i]? = some (place - 4, toLe n v)) (within : 4 ≤ place ∧ place + n ≤ 57) (small : v < 256 ^ n) :
    leNat (storedBlock o) place n = v := by
  rw [← Nat.add_sub_cancel' within.1, leNat_storedBlock h (by omega), chargeFields_number h i hi, Nat.mod_eq_of_lt small]

theorem storedBlock_limit {o : ChargeOptions} (h : o.openCircuit.length = 11) {place : Nat} {v : Int} (i : Nat)
    (hi : (chargeItems o)[i]? = some (place - 4, toLeInt 1 v)) (within : 4 ≤ place ∧ place + 1 ≤ 57) (low : -128 ≤ v)
    (high : v < 128) : leInt (storedBlock o) place 1 = v :=
  leInt_of_leNat (by rw [← Nat.add_sub_cancel' within.1, leNat_storedBlock h (by omega), chargeFields_number h i hi]; rfl) low high

theorem storedBlock_table {o : ChargeOptions} (h : o.openCircuit.length = 11) (small : ∀ v ∈ o.openCircuit, v < 65536) :
    (List.range 11).map (fun i => leNat (storedBlock o) (34 + 2 * i) 2) = o.openCircuit := by
  refine List.ext_getElem (by simp [h]) fun i hi hi' => ?_
  have point := leNat_storedBlock h (j := 30 + 2 * i) (n := 2) (by omega)
  rw [chargeFields_point h (List.getElem?_eq_getElem hi'), Nat.mod_eq_of_lt (small _ (List.getElem_mem hi')), ← Nat.add_assoc] at point
  simpa using point

theorem storedBlock_flags {o : ChargeOptions} (h : o.openCircuit.length = 11) :
    (byteAt (storedBlock o) 56).getLsbD 0 = o.autoOn ∧ (byteAt (storedBlock o) 56).getLsbD 1 = o.fastSettle := by
  have byte : byteAt (storedBlock o) (4 + 52) = BitVec.ofNat 8 (bitsNat [o.autoOn, o.fastSettle]) :=
    byteAt_of_leNat (by rw [leNat_storedBlock h (by decide), chargeFields_number h 18 rfl]; rfl)
  rw [show 56 = 4 + 52 from rfl, byte]
  cases o.autoOn <;> cases o.fastSettle <;> decide

theorem parseCharge_storedBlock {o : ChargeOptions} (h : Safety.OptionsInRange o) : (parseCharge (storedBlock o)).value = o := by
  obtain ⟨vreg, icc, precharge, termination, prechargeMinutes, totalMinutes, ⟨t1, t12, t23, t34, t4⟩, recording, ⟨aux1, aux2, aux3⟩,
    sag, capacity, empty, cutoff, reserve, length, points, _⟩ := h
  have flags := storedBlock_flags length
  simp only [parseCharge]
  rw [show leNat (storedBlock o) 4 2 = o.vreg from storedBlock_number length 0 rfl (by decide) (by omega),
    show leNat (storedBlock o) 6 2 = o.icc from storedBlock_number length 1 rfl (by decide) (by omega),
    show leNat (storedBlock o) 8 2 = o.prechargeCurrent from storedBlock_number length 2 rfl (by decide) (by omega),
    show leNat (storedBlock o) 10 2 = o.terminationCurrent from storedBlock_number length 3 rfl (by decide) (by omega),
    show leNat (storedBlock o) 12 2 = o.prechargeMinutes from storedBlock_number length 4 rfl (by decide) (by omega),
    show leNat (storedBlock o) 14 2 = o.totalMinutes from storedBlock_number length 5 rfl (by decide) (by omega),
    show leInt (storedBlock o) 16 1 = o.t1 from storedBlock_limit length 6 rfl (by decide) (by omega) (by omega),
    show leInt (storedBlock o) 17 1 = o.t2 from storedBlock_limit length 7 rfl (by decide) (by omega) (by omega),
    show leInt (storedBlock o) 18 1 = o.t3 from storedBlock_limit length 8 rfl (by decide) (by omega) (by omega),
    show leInt (storedBlock o) 19 1 = o.t4 from storedBlock_limit length 9 rfl (by decide) (by omega) (by omega),
    show leNat (storedBlock o) 20 2 = o.recordingCap from storedBlock_number length 10 rfl (by decide) (by omega),
    show leNat (storedBlock o) 22 2 = o.auxLimit from storedBlock_number length 11 rfl (by decide) (by omega),
    show leNat (storedBlock o) 24 2 = o.auxSag from storedBlock_number length 12 rfl (by decide) (by omega),
    show leNat (storedBlock o) 26 2 = o.capacity from storedBlock_number length 13 rfl (by decide) (by omega),
    show leNat (storedBlock o) 28 2 = o.emptyVoltage from storedBlock_number length 14 rfl (by decide) (by omega),
    show leNat (storedBlock o) 30 2 = o.cutoffVoltage from storedBlock_number length 15 rfl (by decide) (by omega),
    show leNat (storedBlock o) 32 2 = o.reserve from storedBlock_number length 16 rfl (by decide) (by omega),
    storedBlock_table length points, flags.1, flags.2, clampNat_of_mem vreg.1 vreg.2, clampNat_of_mem icc.1 icc.2,
    clampNat_of_mem precharge.1 precharge.2, clampNat_of_mem termination.1 termination.2,
    clampNat_of_mem prechargeMinutes.1 prechargeMinutes.2, clampNat_of_mem totalMinutes.1 totalMinutes.2,
    clampInt_of_mem t1 (by omega), clampInt_of_mem (x := o.t2) (by omega) (by omega), clampInt_of_mem (x := o.t3) (by omega) (by omega),
    clampInt_of_mem (x := o.t4) (by omega) t4, clampNat_of_mem recording.1 recording.2, clampNat_of_mem aux1 aux2, aux3, Nat.sub_zero,
    clampNat_of_mem sag.1 sag.2, clampNat_of_mem capacity.1 capacity.2, clampNat_of_mem empty.1 empty.2,
    max_eq_right cutoff.1, min_eq_right cutoff.2, min_eq_right reserve]

theorem chargeAcceptable_of_inRange {o : ChargeOptions} (h : Safety.OptionsInRange o) : chargeAcceptable o = true := by
  obtain ⟨_, _, _, _, _, _, ⟨_, t12, t23, t34, _⟩, _, _, _, _, _, _, _, _, _, rising⟩ := h
  simp only [chargeAcceptable, limitsOrdered, t12, t23, t34, rising, decide_true, Bool.and_self]

/-- The check stands over the 62 bytes before it. -/
theorem storedBlock_check {o : ChargeOptions} (h : o.openCircuit.length = 11) :
    leNat (storedBlock o) 62 2 = (crc16Stored (slice (storedBlock o) 0 62)).toNat := by
  have head := storedHead_length h
  rw [storedBlock, slice_append _ _ head, leNat_append_of_le _ _ (by rw [head]), head, leNat_toLe_mod]
  exact Nat.mod_eq_of_lt (BitVec.isLt _)

/-- Byte 0 of the block is 0, so that it is not erased. -/
theorem storedBlock_written {o : ChargeOptions} (h : o.openCircuit.length = 11) :
    (storedBlock o).all (fun b => b == 0xFF#8) = false := by
  have head := storedHead_length h
  have zero : byteAt (storedBlock o) 0 = 0 := by
    rw [storedBlock, byteAt_append_left _ _ (by omega)]
    exact layoutFrom_gap (storedHead_fits h) (by simp)
  have present : 0 < (storedBlock o).length := by
    rw [storedBlock, List.length_append, head]; omega
  rw [byteAt, List.getD_eq_getElem _ _ present] at zero
  rw [List.all_eq_false]
  exact ⟨_, List.getElem_mem present, by rw [zero]; decide⟩

end Sys2Proof.Machine

namespace Sys2Proof.Proofs
open Sys2Proof.Machine

/-- Settles O47: the fields stand at the places where they are read, and the clamps leave what lies in its range. -/
theorem storedBlockReadsBack : Obligations.StoredBlockReadsBack := by
  intro o inRange
  have length : o.openCircuit.length = 11 := inRange.2.2.2.2.2.2.2.2.2.2.2.2.2.2.1
  have same := parseCharge_storedBlock inRange
  rw [readStore, if_neg (by decide), storedBlock_written length, if_neg (by decide),
    if_pos ⟨storedBlock_check length, by rw [same]; exact chargeAcceptable_of_inRange inRange⟩, same]

end Sys2Proof.Proofs
end

section
/-! PROOFS. The records on the card, byte by byte, and their reading back (R86 to R91, R200, spec/12 section 12.10). -/

namespace Sys2Proof.Machine

/-! ### The checks, bit by bit (R200) -/

/-- One bit into the CRC-32 register, the least significant one of the byte first. -/
def crc32Step (b : Byte) (r : BitVec 32) (k : Nat) : BitVec 32 :=
  if r.getLsbD 0 != b.getLsbD k then (r >>> 1) ^^^ 0xEDB88320#32 else r >>> 1

/-- One bit into a CRC-16 register, the most significant one of the byte first. -/
def crc16Step (b : Byte) (r : BitVec 16) (k : Nat) : BitVec 16 :=
  if r.getLsbD 15 != b.getLsbD (7 - k) then (r <<< 1) ^^^ 0x1021#16 else r <<< 1

/-- The bits of the byte that have not gone into the register, taken in at once, go in one at a time. -/
theorem crc32Bit_xor (b : Byte) (r : BitVec 32) (k : Nat) :
    crc32Bit (r ^^^ (b >>> k).setWidth 32) = crc32Step b r k ^^^ (b >>> (k + 1)).setWidth 32 := by
  have bit : (r ^^^ (b >>> k).setWidth 32).getLsbD 0 = (r.getLsbD 0 != b.getLsbD k) := by
    have few : b.getLsbD k = true → k < 32 := fun h => by have := BitVec.lt_of_getLsbD h; omega
    simpa using few
  have shift : (r ^^^ (b >>> k).setWidth 32) >>> 1 = r >>> 1 ^^^ (b >>> (k + 1)).setWidth 32 := by
    ext i hi
    simp only [BitVec.getElem_ushiftRight, BitVec.getLsbD_xor, BitVec.getLsbD_setWidth, BitVec.getLsbD_ushiftRight,
      BitVec.getElem_xor, BitVec.getElem_setWidth, show k + (1 + i) = k + 1 + i by omega]
    by_cases h : 1 + i < 32
    · simp [h]
    · simp [show b.getLsbD (k + 1 + i) = false from BitVec.getLsbD_of_ge _ _ (by omega)]
  rw [crc32Bit, crc32Step, bit, shift]
  split
  · rw [BitVec.xor_assoc, BitVec.xor_comm (BitVec.setWidth 32 _), ← BitVec.xor_assoc]
  · rfl

theorem crc32Byte_eq (b : Byte) (r : BitVec 32) : crc32Byte r b = (List.range 8).foldl (crc32Step b) r := by
  have start : b.setWidth 32 = (b >>> 0).setWidth 32 := by simp
  have done : (b >>> (7 + 1)).setWidth 32 = 0#32 := by
    ext i hi
    simp [show b.getLsbD (8 + i) = false from BitVec.getLsbD_of_ge _ _ (by omega)]
  simp only [crc32Byte, start, crc32Bit_xor, done, BitVec.xor_zero]
  rfl

theorem crc16Bit_xor (b : Byte) (r : BitVec 16) {k : Nat} (hk : k ≤ 7) :
    crc16Bit (r ^^^ (b <<< k).setWidth 16 <<< 8) = crc16Step b r k ^^^ (b <<< (k + 1)).setWidth 16 <<< 8 := by
  have bit : (r ^^^ (b <<< k).setWidth 16 <<< 8).getLsbD 15 = (r.getLsbD 15 != b.getLsbD (7 - k)) := by
    simp [show ¬7 < k by omega, BitVec.getLsbD_eq_getElem (show 7 - k < 8 by omega)]
  have shift : (r ^^^ (b <<< k).setWidth 16 <<< 8) <<< 1 = r <<< 1 ^^^ (b <<< (k + 1)).setWidth 16 <<< 8 := by
    ext i hi
    simp only [BitVec.getElem_shiftLeft, BitVec.getElem_xor, BitVec.getLsbD_xor, BitVec.getElem_setWidth,
      BitVec.getLsbD_shiftLeft, BitVec.getLsbD_setWidth]
    by_cases h : i < 8
    · by_cases first : i < 1
      · simp [first, h]
      · simp [first, h, show i - 1 < 16 by omega, show i - 1 < 8 by omega]
    · have e : i - 8 - (k + 1) = i - 1 - 8 - k := by omega
      by_cases first : i = 8
      · simp [first]
      · by_cases passed : i - 8 < k + 1
        · simp [show ¬i < 1 by omega, h, show ¬i - 1 < 8 by omega, passed, show i - 1 - 8 < k by omega]
        · simp [show ¬i < 1 by omega, h, show i - 1 < 16 by omega, show ¬i - 1 < 8 by omega, passed,
            show ¬i - 1 - 8 < k by omega, e, show i - 1 - 8 < 16 by omega, show i - 8 < 8 by omega,
            show i - 1 - 8 < 8 by omega]
  rw [crc16Bit, crc16Step, bit, shift]
  split
  · rw [BitVec.xor_assoc, BitVec.xor_comm (BitVec.setWidth 16 _ <<< 8), ← BitVec.xor_assoc]
  · rfl

theorem crc16Byte_eq (b : Byte) (r : BitVec 16) : crc16Byte r b = (List.range 8).foldl (crc16Step b) r := by
  have start : b.setWidth 16 = (b <<< 0).setWidth 16 := by simp
  have done : (b <<< (7 + 1)).setWidth 16 <<< 8 = 0#16 := by
    rw [show b <<< (7 + 1) = 0#8 from BitVec.shiftLeft_eq_zero (by decide)]
    rfl
  rw [crc16Byte, start,
    crc16Bit_xor b _ (by decide), crc16Bit_xor b _ (by decide), crc16Bit_xor b _ (by decide), crc16Bit_xor b _ (by decide),
    crc16Bit_xor b _ (by decide), crc16Bit_xor b _ (by decide), crc16Bit_xor b _ (by decide), crc16Bit_xor b _ (by decide), done,
    BitVec.xor_zero]
  rfl

theorem crc32_snoc (bs : List Byte) (b : Byte) : ~~~crc32 (bs ++ [b]) = (List.range 8).foldl (crc32Step b) (~~~crc32 bs) := by
  rw [crc32, crc32, BitVec.not_not, BitVec.not_not, List.foldl_append, ← crc32Byte_eq]
  rfl

theorem crc16Stored_snoc (bs : List Byte) (b : Byte) :
    crc16Stored (bs ++ [b]) = (List.range 8).foldl (crc16Step b) (crc16Stored bs) := by
  rw [crc16Stored, crc16Stored, List.foldl_append, ← crc16Byte_eq]
  rfl

theorem crc16Block_snoc (bs : List Byte) (b : Byte) :
    crc16Block (bs ++ [b]) = (List.range 8).foldl (crc16Step b) (crc16Block bs) := by
  rw [crc16Block, crc16Block, List.foldl_append, ← crc16Byte_eq]
  rfl

end Sys2Proof.Machine
end

section
/-! PROOFS. Directory entries, headers, map entries and chunks, byte by byte and read back (R86 to R91, spec/12 section 12.10). -/

namespace Sys2Proof.Machine

/-- A number that stands at its place in a record laid out from byte 0. -/
theorem layout_number {size : Nat} {items : List (Nat × List Byte)} (fits : Fits size 0 items) (i : Nat) {place n v : Nat}
    (hi : items[i]? = some (place, toLe n v)) : leNat (layoutFrom size 0 items) place n = v % 256 ^ n :=
  layoutFrom_leNat fits (List.mem_of_getElem? hi)

theorem leNat_one (bs : List Byte) (i : Nat) : leNat bs i 1 = (byteAt bs i).toNat := by
  simp [leNat]

/-! ### Codes -/

theorem ClipState.ofCode_code (st : ClipState) : ClipState.ofCode st.code = some st := by
  cases st <;> rfl

theorem CloseCause.ofCode_code (c : Option CloseCause) : CloseCause.ofCode ((c.map CloseCause.code).getD 0) = c := by
  cases c with
  | none => rfl
  | some c => cases c <;> rfl

theorem MarkerKind.ofCode_code (k : MarkerKind) : MarkerKind.ofCode k.code = k := by
  cases k <;> rfl

theorem SegmentState.ofCode_code (st : SegmentState) : SegmentState.ofCode st.code = st := by
  cases st <;> rfl

theorem ClipState.code_lt (st : ClipState) : st.code < 256 := by
  cases st <;> decide

theorem CloseCause.code_lt (c : Option CloseCause) : (c.map CloseCause.code).getD 0 < 256 := by
  cases c with
  | none => decide
  | some c => cases c <;> decide

theorem MarkerKind.code_lt (k : MarkerKind) : k.code < 256 := by
  cases k <;> decide

theorem SegmentState.code_lt (st : SegmentState) : st.code < 256 := by
  cases st <;> decide

theorem ChunkKind.code_lt (k : ChunkKind) : k.code < 256 := by
  cases k <;> decide

/-- Three bits of a byte. -/
theorem bits_of_byte (a b c : Bool) :
    (BitVec.ofNat 8 (bitsNat [a, b, c])).getLsbD 0 = a ∧ (BitVec.ofNat 8 (bitsNat [a, b, c])).getLsbD 1 = b ∧
      (BitVec.ofNat 8 (bitsNat [a, b, c])).getLsbD 2 = c := by
  cases a <;> cases b <;> cases c <;> decide

theorem bitsNat_eq_foldr (l : List Bool) : bitsNat l = l.foldr (fun x n => 2 * n + (if x then 1 else 0)) 0 := by
  induction l with
  | nil => rfl
  | cons b l ih => rw [bitsNat, ih, List.foldr_cons, Nat.add_comm]

/-! ### Directory entries -/

/-- The fields of a directory entry with their places. -/
def dirItems (c : Clip) : List (Nat × List Byte) :=
  [(2, toLe 1 c.state.code), (3, toLe 1 ((c.cause.map CloseCause.code).getD 0)), (4, toLe 4 c.number),
    (8, stampBytes c.start), (16, stampBytes (c.endStamp.getD 0)), (24, toLe 2 (optSegment c.first)),
    (26, toLe 2 (optSegment c.last)), (28, toLe 2 c.segments), (30, toLe 1 c.causes.word), (31, toLe 1 c.flagWord),
    (32, toLe 4 c.hostCount), (36, toLe 4 c.motionCount), (40, toLe 8 c.bytes), (48, toLe 4 c.drops),
    (52, toLe 4 c.motionDrops), (56, toLe 1 c.markers.length), (64, c.markers.flatMap Marker.bytes)]

theorem dirEntryBytes_some (c : Clip) : dirEntryBytes (some c) = layoutFrom 256 0 (dirItems c) := rfl

@[simp] theorem stampBytes_length (s : Stamp) : (stampBytes s).length = 8 := toLe_length 8 _

@[simp] theorem Marker.bytes_length (m : Marker) : m.bytes.length = 9 := by
  simp [Marker.bytes]

theorem markers_length (c : Clip) : (c.markers.flatMap Marker.bytes).length = 9 * c.markers.length :=
  flatMap_length Marker.bytes_length c.markers

theorem dirItems_fit {c : Clip} (h : c.markers.length ≤ 16) : Fits 256 0 (dirItems c) := by
  have markers := markers_length c
  simp only [dirItems, Fits, stampBytes_length, toLe_length, markers]
  omega

theorem dirEntryBytes_length {c : Clip} (h : c.markers.length ≤ 16) : (dirEntryBytes (some c)).length = 256 :=
  layoutFrom_length (dirItems_fit h)

/-- A number of a directory entry. -/
theorem dirEntry_number {c : Clip} (h : c.markers.length ≤ 16) (i : Nat) {place n v : Nat}
    (hi : (dirItems c)[i]? = some (place, toLe n v)) : leNat (dirEntryBytes (some c)) place n = v % 256 ^ n :=
  layout_number (dirItems_fit h) i hi

theorem dirEntry_marker {c : Clip} (h : c.markers.length ≤ 16) {j : Nat} {m : Marker} (hm : c.markers[j]? = some m) {k n : Nat}
    (hk : k + n ≤ 9) : leNat (dirEntryBytes (some c)) (64 + 9 * j + k) n = leNat m.bytes k n := by
  have length := (List.getElem?_eq_some_iff.1 hm).1
  rw [← leNat_flatMap Marker.bytes_length hm hk]
  refine leNat_congr fun x hx => ?_
  rw [show 64 + 9 * j + k + x = 64 + (9 * j + k + x) by omega]
  exact layoutFrom_byte (dirItems_fit h) (x := (64, c.markers.flatMap Marker.bytes)) (List.mem_of_getElem? (i := 16) rfl)
    (by rw [markers_length]; omega)

theorem Marker.bytes_stamp (m : Marker) : leNat m.bytes 0 8 = m.stamp.toNat := by
  rw [Marker.bytes, leNat_append_of_lt _ _ (by simp), stampBytes, leNat_toLe_mod]
  exact Nat.mod_eq_of_lt (lt_trans m.stamp.isLt (by decide))

theorem Marker.bytes_kind (m : Marker) : leNat m.bytes 8 1 = m.kind.code := by
  rw [Marker.bytes, leNat_append_of_le _ _ (by simp), stampBytes_length, leNat_toLe_mod]
  exact Nat.mod_eq_of_lt m.kind.code_lt

theorem dirEntry_gap {c : Clip} (h : c.markers.length ≤ 16) {j : Nat}
    (hj : j < 2 ∨ (57 ≤ j ∧ j < 64) ∨ 64 + 9 * c.markers.length ≤ j) : byteAt (dirEntryBytes (some c)) j = 0 := by
  refine layoutFrom_gap (dirItems_fit h) ?_
  have markers := markers_length c
  simp only [dirItems, List.forall_mem_cons, List.not_mem_nil, false_implies, implies_true, and_true, stampBytes_length,
    toLe_length, markers]
  omega

/-- A stamp that stands at its place reads back. -/
theorem stampAt_of_leNat {bs : List Byte} {i : Nat} {s : Stamp} (h : leNat bs i 8 = s.toNat) : stampAt bs i = s := by
  rw [stampAt, h, BitVec.ofNat_toNat, BitVec.setWidth_eq]

theorem optSegment_read {o : Option Nat} (h : ∀ s, o = some s → s < 65535) :
    (if optSegment o = 65535 then none else some (optSegment o)) = o := by
  cases o with
  | none => rfl
  | some s =>
    have small := h s rfl
    rw [optSegment, Option.getD_some, if_neg (by omega)]

theorem optSegment_lt {o : Option Nat} (h : ∀ s, o = some s → s < 65535) : optSegment o < 65536 := by
  cases o with
  | none => decide
  | some s => exact lt_trans (h s rfl) (by decide)

/-- What a directory entry of a writable clip reads back as, field by field. -/
theorem parseDirEntry_dirEntryBytes {c : Clip} (h : Safety.Writable c) : parseDirEntry (dirEntryBytes (some c)) = some c := by
  obtain ⟨⟨named, number⟩, ends, first, last, segments, hostCount, motionCount, bytes, drops, motionDrops, markers⟩ := h
  have at_ (i : Nat) {place n v : Nat} (hi : (dirItems c)[i]? = some (place, toLe n v)) (small : v < 256 ^ n) :
      leNat (dirEntryBytes (some c)) place n = v := by
    rw [dirEntry_number markers i hi, Nat.mod_eq_of_lt small]
  have byte (i : Nat) {place v : Nat} (hi : (dirItems c)[i]? = some (place, toLe 1 v)) :
      byteAt (dirEntryBytes (some c)) place = BitVec.ofNat 8 v :=
    byteAt_of_leNat (dirEntry_number markers i hi)
  have stamp (i : Nat) {place : Nat} {x : Stamp} (hi : (dirItems c)[i]? = some (place, stampBytes x)) :
      stampAt (dirEntryBytes (some c)) place = x :=
    stampAt_of_leNat (at_ i hi (lt_trans x.isLt (by decide)))
  have state : ClipState.ofCode (byteAt (dirEntryBytes (some c)) 2).toNat = some c.state := by
    rw [← leNat_one, at_ 0 rfl c.state.code_lt, ClipState.ofCode_code]
  have cause : CloseCause.ofCode (byteAt (dirEntryBytes (some c)) 3).toNat = c.cause := by
    rw [← leNat_one, at_ 1 rfl (CloseCause.code_lt _), CloseCause.ofCode_code]
  have count : min 16 (byteAt (dirEntryBytes (some c)) 56).toNat = c.markers.length := by
    rw [← leNat_one, at_ 15 rfl (by omega), min_eq_right markers]
  have list : (List.range c.markers.length).map (fun i => (⟨stampAt (dirEntryBytes (some c)) (64 + 9 * i),
      MarkerKind.ofCode (byteAt (dirEntryBytes (some c)) (72 + 9 * i)).toNat⟩ : Marker)) = c.markers := by
    refine List.ext_getElem (by simp) fun i hi hi' => ?_
    have item := List.getElem?_eq_getElem hi'
    have marked := dirEntry_marker markers item (k := 0) (n := 8) (by decide)
    have kind := dirEntry_marker markers item (k := 8) (n := 1) (by decide)
    rw [Marker.bytes_stamp, Nat.add_zero] at marked
    rw [Marker.bytes_kind, leNat_one, show 64 + 9 * i + 8 = 72 + 9 * i by omega] at kind
    rw [List.getElem_map, List.getElem_range, stampAt_of_leNat marked, kind, MarkerKind.ofCode_code]
  have stop : (if c.state = .openClip then none else some (c.endStamp.getD 0)) = c.endStamp := by
    by_cases opened : c.state = .openClip
    · rw [if_pos opened, ends.1 opened]
    · obtain ⟨x, hx⟩ := Option.ne_none_iff_exists'.1 fun none => opened (ends.2 none)
      rw [if_neg opened, hx, Option.getD_some]
  obtain ⟨incident, mark, request⟩ := bits_of_byte c.causes.incident c.causes.mark c.causes.request
  obtain ⟨overflow, track, unkeyed⟩ := bits_of_byte c.overflow c.motionTrack c.unkeyed
  simp only [parseDirEntry]
  rw [state]
  simp only [at_ 2 rfl number, if_neg (show ¬c.number = 0 by omega), cause, stamp 3 rfl, stamp 4 rfl, stop,
    at_ 5 rfl (optSegment_lt first), optSegment_read first, at_ 6 rfl (optSegment_lt last), optSegment_read last,
    at_ 7 rfl segments, byte 8 rfl, byte 9 rfl, Causes.word, Clip.flagWord, incident, mark, request, overflow, track, unkeyed,
    at_ 10 rfl hostCount, at_ 11 rfl motionCount, at_ 12 rfl bytes, at_ 13 rfl drops, at_ 14 rfl motionDrops, count, list]

theorem parseDirEntry_empty : parseDirEntry (dirEntryBytes none) = none := by
  have state : byteAt (dirEntryBytes none) 2 = 0 := rfl
  simp only [parseDirEntry, state]
  rfl

/-- Every field of a directory entry at its place. -/
theorem dirEntry_fields {c : Clip} (h : c.markers.length ≤ 16) :
    ∀ x ∈ [(2, 1, c.state.code), (3, 1, c.cause.elim 0 CloseCause.code), (4, 4, c.number), (8, 8, c.start.toNat),
      (16, 8, c.endStamp.elim 0 BitVec.toNat), (24, 2, c.first.getD 65535), (26, 2, c.last.getD 65535), (28, 2, c.segments),
      (30, 1, [c.causes.incident, c.causes.mark, c.causes.request].foldr (fun x n => 2 * n + (if x then 1 else 0)) 0),
      (31, 1, [c.overflow, c.motionTrack, c.unkeyed].foldr (fun x n => 2 * n + (if x then 1 else 0)) 0),
      (32, 4, c.hostCount), (36, 4, c.motionCount), (40, 8, c.bytes), (48, 4, c.drops), (52, 4, c.motionDrops),
      (56, 1, c.markers.length)], leNat (dirEntryBytes (some c)) x.1 x.2.1 = x.2.2 % 256 ^ x.2.1 := by
  have cause : (c.cause.map CloseCause.code).getD 0 = c.cause.elim 0 CloseCause.code := by cases c.cause <;> rfl
  have stop : (c.endStamp.getD 0).toNat = c.endStamp.elim 0 BitVec.toNat := by cases c.endStamp <;> rfl
  simp only [List.forall_mem_cons, List.not_mem_nil, false_implies, implies_true, and_true, ← cause, ← stop, ← bitsNat_eq_foldr]
  exact ⟨dirEntry_number h 0 rfl, dirEntry_number h 1 rfl, dirEntry_number h 2 rfl, dirEntry_number h 3 rfl,
    dirEntry_number h 4 rfl, dirEntry_number h 5 rfl, dirEntry_number h 6 rfl, dirEntry_number h 7 rfl, dirEntry_number h 8 rfl,
    dirEntry_number h 9 rfl, dirEntry_number h 10 rfl, dirEntry_number h 11 rfl, dirEntry_number h 12 rfl,
    dirEntry_number h 13 rfl, dirEntry_number h 14 rfl, dirEntry_number h 15 rfl⟩

theorem dirEntry_markerFields {c : Clip} (h : c.markers.length ≤ 16) {j : Nat} {m : Marker} (hm : c.markers[j]? = some m) :
    ∀ x ∈ [(64 + 9 * j, 8, m.stamp.toNat), (72 + 9 * j, 1, m.kind.code)],
      leNat (dirEntryBytes (some c)) x.1 x.2.1 = x.2.2 % 256 ^ x.2.1 := by
  have marked := dirEntry_marker h hm (k := 0) (n := 8) (by decide)
  have kind := dirEntry_marker h hm (k := 8) (n := 1) (by decide)
  rw [Marker.bytes_stamp, Nat.add_zero] at marked
  rw [Marker.bytes_kind, show 64 + 9 * j + 8 = 72 + 9 * j by omega] at kind
  simp only [List.forall_mem_cons, List.not_mem_nil, false_implies, implies_true, and_true]
  exact ⟨by rw [marked, Nat.mod_eq_of_lt (lt_trans m.stamp.isLt (by decide))],
    kind.trans (Nat.mod_eq_of_lt m.kind.code_lt).symm⟩

/-! ### A sector of fields with its check -/

/-- The fields from byte 0, their CRC-32 after them, and zeros. -/
def checkedSector (fields : List Byte) : List Byte :=
  layoutFrom 512 0 [(0, fields), (fields.length, toLe 4 (crc32 fields).toNat)]

theorem checkedSector_fits {fields : List Byte} (h : fields.length ≤ 508) :
    Fits 512 0 [(0, fields), (fields.length, toLe 4 (crc32 fields).toNat)] := by
  simp only [Fits, toLe_length]
  omega

theorem checkedSector_length {fields : List Byte} (h : fields.length ≤ 508) : (checkedSector fields).length = 512 :=
  layoutFrom_length (checkedSector_fits h)

theorem checkedSector_leNat {fields : List Byte} (h : fields.length ≤ 508) {i n : Nat} (hi : i + n ≤ fields.length) :
    leNat (checkedSector fields) i n = leNat fields i n :=
  leNat_congr fun k hk => by
    have byte := layoutFrom_byte (checkedSector_fits h) (List.mem_cons_self ..) (k := i + k) (by dsimp only; omega)
    simpa [checkedSector] using byte

theorem checkedSector_slice {fields : List Byte} (h : fields.length ≤ 508) {i n : Nat} (hi : i + n ≤ fields.length) :
    slice (checkedSector fields) i n = slice fields i n := by
  refine eq_of_byteAt (by simp) fun k hk => ?_
  rw [slice_length] at hk
  rw [byteAt_slice _ _ hk, byteAt_slice _ _ hk]
  have byte := layoutFrom_byte (checkedSector_fits h) (List.mem_cons_self ..) (k := i + k) (by dsimp only; omega)
  simpa [checkedSector] using byte

theorem checkedSector_fields {fields : List Byte} (h : fields.length ≤ 508) :
    slice (checkedSector fields) 0 fields.length = fields := by
  rw [checkedSector_slice h (by omega), slice_all]

theorem checkedSector_check {fields : List Byte} (h : fields.length ≤ 508) :
    leNat (checkedSector fields) fields.length 4 = (crc32 (slice (checkedSector fields) 0 fields.length)).toNat := by
  rw [checkedSector_fields h]
  exact (layout_number (checkedSector_fits h) 1 rfl).trans (Nat.mod_eq_of_lt (BitVec.isLt _))

theorem checkedSector_gap {fields : List Byte} (h : fields.length ≤ 508) {j : Nat} (hj : fields.length + 4 ≤ j) :
    byteAt (checkedSector fields) j = 0 := by
  refine layoutFrom_gap (checkedSector_fits h) ?_
  simp only [List.forall_mem_cons, List.not_mem_nil, false_implies, implies_true, and_true, toLe_length]
  omega

/-! ### The volume header -/

theorem headerFields_length (a b c d : Nat) : (headerFields a b c d).length = 24 := by
  simp [headerFields, volumeSignature]

theorem headerSector_eq (a b c d : Nat) : headerSector a b c d = checkedSector (headerFields a b c d) := by
  rw [checkedSector, headerFields_length]; rfl

theorem headerFields_at (a b c d : Nat) :
    leNat (headerFields a b c d) 8 4 = a % 256 ^ 4 ∧ leNat (headerFields a b c d) 12 4 = b % 256 ^ 4 ∧
      leNat (headerFields a b c d) 16 4 = c % 256 ^ 4 ∧ leNat (headerFields a b c d) 20 4 = d % 256 ^ 4 := by
  have sign : volumeSignature.length = 8 := rfl
  refine ⟨?_, ?_, ?_, ?_⟩ <;> simp [headerFields, leNat_append_of_le, leNat_toLe_append, leNat_toLe_mod, sign]

theorem headerSector_length (a b c d : Nat) : (headerSector a b c d).length = 512 := by
  rw [headerSector_eq, checkedSector_length (by rw [headerFields_length]; decide)]

theorem headerSector_fields (a b c d : Nat) :
    let h := headerSector a b c d
    slice h 0 8 = volumeSignature ∧ leNat h 8 4 = a % 256 ^ 4 ∧ leNat h 12 4 = b % 256 ^ 4 ∧ leNat h 16 4 = c % 256 ^ 4 ∧
      leNat h 20 4 = d % 256 ^ 4 ∧ leNat h 24 4 = (crc32 (slice h 0 24)).toNat ∧ ∀ j, 28 ≤ j → byteAt h j = 0 := by
  have length := headerFields_length a b c d
  have small : (headerFields a b c d).length ≤ 508 := by rw [length]; decide
  obtain ⟨generation, size, count, next⟩ := headerFields_at a b c d
  have check := checkedSector_check small
  rw [length] at check
  dsimp only
  rw [headerSector_eq]
  refine ⟨?_, ?_, ?_, ?_, ?_, check, fun j hj => checkedSector_gap small (by rw [length]; exact hj)⟩
  · rw [checkedSector_slice small (by rw [length]; decide), headerFields, slice_append _ _ (show volumeSignature.length = 8 from rfl)]
  · rw [checkedSector_leNat small (by rw [length]; decide), generation]
  · rw [checkedSector_leNat small (by rw [length]; decide), size]
  · rw [checkedSector_leNat small (by rw [length]; decide), count]
  · rw [checkedSector_leNat small (by rw [length]), next]

theorem parseHeader_headerSector {generation size count nextClip : Nat} (h1 : generation < 4294967296) (h2 : nextClip < 4294967296)
    (h3 : size = 2048 ∨ size = 4096 ∨ size = 8192 ∨ size = 16384) (h4 : 16 ≤ count) (h5 : count ≤ 1024) :
    parseHeader (headerSector generation size count nextClip) = some ⟨generation, size, count, nextClip⟩ := by
  obtain ⟨sign, g, s, c, n, check, _⟩ := headerSector_fields generation size count nextClip
  rw [Nat.mod_eq_of_lt (by omega)] at g s c n
  simp only [parseHeader, g, s, c, n]
  rw [if_pos ⟨sign, check, h3, h4, h5⟩]

/-! ### Segment headers -/

theorem segmentHeaderFields_length (a b c d : Nat) : (segmentHeaderFields a b c d).length = 16 := by
  simp [segmentHeaderFields]

theorem segmentHeaderSector_eq (a b c d : Nat) : segmentHeaderSector a b c d = checkedSector (segmentHeaderFields a b c d) := by
  rw [checkedSector, segmentHeaderFields_length]; rfl

theorem segmentHeaderFields_at (a b c d : Nat) :
    leNat (segmentHeaderFields a b c d) 0 4 = a % 256 ^ 4 ∧ leNat (segmentHeaderFields a b c d) 4 4 = b % 256 ^ 4 ∧
      leNat (segmentHeaderFields a b c d) 8 4 = c % 256 ^ 4 ∧ leNat (segmentHeaderFields a b c d) 12 4 = d % 256 ^ 4 := by
  refine ⟨?_, ?_, ?_, ?_⟩ <;> simp [segmentHeaderFields, leNat_append_of_le, leNat_toLe_append, leNat_toLe_mod]

theorem segmentHeaderSector_length (a b c d : Nat) : (segmentHeaderSector a b c d).length = 512 := by
  rw [segmentHeaderSector_eq, checkedSector_length (by rw [segmentHeaderFields_length]; decide)]

theorem segmentHeaderSector_fields (a b c d : Nat) :
    let g := segmentHeaderSector a b c d
    leNat g 0 4 = a % 256 ^ 4 ∧ leNat g 4 4 = b % 256 ^ 4 ∧ leNat g 8 4 = c % 256 ^ 4 ∧ leNat g 12 4 = d % 256 ^ 4 ∧
      leNat g 16 4 = (crc32 (slice g 0 16)).toNat ∧ ∀ j, 20 ≤ j → byteAt g j = 0 := by
  have length := segmentHeaderFields_length a b c d
  have small : (segmentHeaderFields a b c d).length ≤ 508 := by rw [length]; decide
  obtain ⟨clip, ordinal, generation, first⟩ := segmentHeaderFields_at a b c d
  have check := checkedSector_check small
  rw [length] at check
  dsimp only
  rw [segmentHeaderSector_eq]
  refine ⟨?_, ?_, ?_, ?_, check, fun j hj => checkedSector_gap small (by rw [length]; exact hj)⟩
  · rw [checkedSector_leNat small (by rw [length]; decide), clip]
  · rw [checkedSector_leNat small (by rw [length]; decide), ordinal]
  · rw [checkedSector_leNat small (by rw [length]; decide), generation]
  · rw [checkedSector_leNat small (by rw [length]), first]

theorem segmentNames_iff {clip ordinal generation firstSeq : Nat} (clip' ordinal' generation' : Nat) (h1 : clip < 4294967296)
    (h2 : ordinal < 4294967296) (h3 : generation < 4294967296) :
    segmentNames (segmentHeaderSector clip ordinal generation firstSeq) clip' ordinal' generation' = true ↔
      clip' = clip ∧ ordinal' = ordinal ∧ generation' = generation := by
  obtain ⟨c, o, g, _, check, _⟩ := segmentHeaderSector_fields clip ordinal generation firstSeq
  rw [Nat.mod_eq_of_lt (by omega)] at c o g
  simp only [segmentNames, c, o, g, check, Bool.and_eq_true, beq_iff_eq, true_and, and_assoc, eq_comm (a := clip'),
    eq_comm (a := ordinal'), eq_comm (a := generation')]

/-! ### Map entries -/

@[simp] theorem MapEntry.bytes_length (e : MapEntry) : e.bytes.length = 4 := by
  simp [MapEntry.bytes]

theorem MapEntry.bytes_fields (e : MapEntry) :
    leNat e.bytes 0 1 = e.state.code ∧ byteAt e.bytes 1 = 0 ∧ leNat e.bytes 2 2 = e.link.getD 65535 % 65536 := by
  refine ⟨?_, ?_, ?_⟩
  · rw [MapEntry.bytes, leNat_toLe_append]
    exact Nat.mod_eq_of_lt e.state.code_lt
  · rw [MapEntry.bytes, byteAt_append_of_le _ _ (by simp), toLe_length]
    rfl
  · rw [MapEntry.bytes, leNat_append_of_le _ _ (by simp), toLe_length]
    exact (leNat_append_of_le [0] _ (by decide)).trans (leNat_toLe_mod 2 _)

theorem parseMapEntry_bytes {count : Nat} {e : MapEntry} (h1 : count ≤ 1024) (h2 : ∀ l, e.link = some l → l < count) :
    parseMapEntry count e.bytes = e := by
  obtain ⟨state, _, link⟩ := e.bytes_fields
  rw [leNat_one] at state
  obtain ⟨st, l⟩ := e
  simp only [parseMapEntry, state, SegmentState.ofCode_code, link]
  cases l with
  | none => rw [if_neg (by simp; omega)]
  | some l =>
    have small := h2 l rfl
    rw [Option.getD_some, Nat.mod_eq_of_lt (by omega), if_pos small]

/-! ### Chunks -/

theorem chunkHeader_length (kind : ChunkKind) (key : Bool) (seq length : Nat) (stamp : Stamp) (crc : Nat) :
    (chunkHeader kind key seq length stamp crc).length = 32 := by
  simp [chunkHeader, chunkMarker]

/-- The fields of a chunk header at their places. -/
theorem chunkHeader_fields (kind : ChunkKind) (key : Bool) (seq length : Nat) (stamp : Stamp) (crc : Nat) :
    let h := chunkHeader kind key seq length stamp crc
    slice h 0 4 = chunkMarker ∧ leNat h 4 1 = kind.code ∧ leNat h 5 1 = (if key then 1 else 0) ∧ leNat h 6 2 = 0 ∧
      leNat h 8 4 = seq % 256 ^ 4 ∧ leNat h 12 4 = length % 256 ^ 4 ∧ leNat h 16 8 = stamp.toNat ∧ leNat h 24 4 = 0 ∧
      leNat h 28 4 = crc % 256 ^ 4 := by
  have mark : chunkMarker.length = 4 := rfl
  have skip (b : Byte) (rest : List Byte) {i n : Nat} (h : 1 ≤ i) : leNat (b :: rest) i n = leNat rest (i - 1) n :=
    leNat_append_of_le [b] rest h
  refine ⟨slice_append _ _ rfl, ?_, ?_, ?_, ?_, ?_, ?_, ?_, ?_⟩
  · simp [chunkHeader, leNat_append_of_le, leNat_toLe_append, mark, Nat.mod_eq_of_lt kind.code_lt]
  · cases key <;> simp [chunkHeader, leNat_append_of_le, mark, leNat, byteAt, boolByte]
  · simp [chunkHeader, leNat_append_of_le, mark, leNat, byteAt]
  · simp [chunkHeader, leNat_append_of_le, leNat_toLe_append, mark, skip]
  · simp [chunkHeader, leNat_append_of_le, leNat_toLe_append, mark, skip]
  · have small : stamp.toNat < 256 ^ 8 := lt_trans stamp.isLt (by decide)
    simp only [chunkHeader, leNat_append_of_le, mark, skip, stampBytes, leNat_toLe_append, toLe_length, Nat.reduceLeDiff,
      Nat.reduceSub, le_refl, Nat.mod_eq_of_lt small]
  · simp [chunkHeader, leNat_append_of_le, mark, skip, leNat, byteAt]
  · simp [chunkHeader, leNat_append_of_le, mark, skip, leNat_toLe_mod]

/-- The CRC field is the last one: before it the header does not depend on it. -/
theorem chunkHeader_slice (kind : ChunkKind) (key : Bool) (seq length : Nat) (stamp : Stamp) (crc : Nat) :
    chunkHeader kind key seq length stamp crc = slice (chunkHeader kind key seq length stamp 0) 0 28 ++ toLe 4 crc := by
  obtain ⟨before, long, eq⟩ : ∃ before : List Byte, before.length = 28 ∧
      ∀ crc, chunkHeader kind key seq length stamp crc = before ++ toLe 4 crc :=
    ⟨chunkMarker ++ (toLe 1 kind.code ++ (boolByte key :: 0 :: 0 :: (toLe 4 seq ++ (toLe 4 length ++ (stampBytes stamp
      ++ [0, 0, 0, 0]))))), by simp [chunkMarker], fun crc => by simp [chunkHeader]⟩
  rw [eq crc, eq 0, slice_append _ _ long]

end Sys2Proof.Machine
end

section
/-! PROOFS. Chunks on the card, and what a mount reads, tidies and scans (R90, R91, R97 to R99). -/

namespace Sys2Proof.Machine

/-! ### A chunk on the card -/

section image
variable (kind : ChunkKind) (key : Bool) (seq : Nat) (stamp : Stamp) (payload : List Byte)

/-- The check of a chunk: over its header, the check's field zero, and the payload. -/
def chunkCrc : BitVec 32 :=
  crc32 (chunkHeader kind key seq payload.length stamp 0 ++ payload)

theorem chunkImage_eq : chunkImage kind key seq stamp payload =
    chunkHeader kind key seq payload.length stamp (chunkCrc kind key seq stamp payload).toNat
      ++ (payload ++ List.replicate (chunkSectors payload.length * 512 - (32 + payload.length)) 0) := rfl

theorem chunkImage_length : (chunkImage kind key seq stamp payload).length = 512 * ((32 + payload.length + 511) / 512) := by
  rw [chunkImage_eq, List.length_append, List.length_append, chunkHeader_length, List.length_replicate, chunkSectors]
  omega

theorem chunkImage_payload : slice (chunkImage kind key seq stamp payload) 32 payload.length = payload := by
  rw [chunkImage_eq, slice_append_of_le _ _ _ (by rw [chunkHeader_length]), chunkHeader_length]
  exact slice_append _ _ rfl

theorem chunkImage_header {i n : Nat} (h : i + n ≤ 32) : leNat (chunkImage kind key seq stamp payload) i n =
    leNat (chunkHeader kind key seq payload.length stamp (chunkCrc kind key seq stamp payload).toNat) i n := by
  rw [chunkImage_eq, leNat_append_of_lt _ _ (by rw [chunkHeader_length]; exact h)]

theorem chunkImage_mark : slice (chunkImage kind key seq stamp payload) 0 4 = chunkMarker := by
  rw [chunkImage_eq, slice_append_of_lt _ _ (by rw [chunkHeader_length]; decide)]
  exact (chunkHeader_fields ..).1

/-- The bytes that the check runs over are those that the writer took it over. -/
theorem chunkImage_checked : slice (chunkImage kind key seq stamp payload) 0 28 ++ [0, 0, 0, 0] ++ payload =
    chunkHeader kind key seq payload.length stamp 0 ++ payload := by
  have long : (slice (chunkHeader kind key seq payload.length stamp 0) 0 28).length = 28 := slice_length ..
  rw [chunkImage_eq, slice_append_of_lt _ _ (by rw [chunkHeader_length]; decide), chunkHeader_slice, slice_append _ _ long,
    chunkHeader_slice kind key seq payload.length stamp 0]
  rfl

theorem chunkImage_check : leNat (chunkImage kind key seq stamp payload) 28 4 = (chunkCrc kind key seq stamp payload).toNat := by
  obtain ⟨_, _, _, _, _, _, _, _, check⟩ := chunkHeader_fields kind key seq payload.length stamp
    (chunkCrc kind key seq stamp payload).toNat
  rw [chunkImage_header _ _ _ _ _ (by decide), check]
  exact Nat.mod_eq_of_lt (BitVec.isLt _)

theorem chunkCrcOk_chunkImage : chunkCrcOk (chunkImage kind key seq stamp payload) payload.length = true := by
  have rest : ((chunkImage kind key seq stamp payload).drop 32).take payload.length = payload := by
    rw [chunkImage_eq, List.drop_append_of_le_length (by rw [chunkHeader_length]),
      List.drop_of_length_le (by rw [chunkHeader_length]), List.nil_append, List.take_left]
  rw [chunkCrcOk, rest, chunkImage_check, ← List.append_assoc, chunkImage_checked]
  exact beq_self_eq_true _

theorem chunkImage_padding {j : Nat} (hj : 32 + payload.length ≤ j) : byteAt (chunkImage kind key seq stamp payload) j = 0 := by
  rw [chunkImage_eq, byteAt_append_of_le _ _ (by rw [chunkHeader_length]; omega), byteAt_append_of_le _ _
    (by rw [chunkHeader_length]; omega), byteAt, List.getD_eq_getElem?_getD, List.getElem?_replicate]
  split <;> rfl

theorem parseChunkHeader_chunkImage {size sector : Nat} (hseq : seq < 4294967296) (hne : payload ≠ [])
    (long : payload.length ≤ min 1048576 ((size - 1) * 512 - 32)) (fits : sector + (32 + payload.length + 511) / 512 ≤ size) :
    parseChunkHeader (chunkImage kind key seq stamp payload) size sector =
      some ⟨decide (kind = .motion), seq, payload.length, stamp⟩ := by
  obtain ⟨_, code, _, _, number, length, posted, _, _⟩ := chunkHeader_fields kind key seq payload.length stamp
    (chunkCrc kind key seq stamp payload).toNat
  have some_ : 1 ≤ payload.length := List.length_pos_iff.2 hne
  have kindByte : (byteAt (chunkImage kind key seq stamp payload) 4).toNat = kind.code := by
    rw [← leNat_one, chunkImage_header _ _ _ _ _ (by decide), code]
  have lengthRead : leNat (chunkImage kind key seq stamp payload) 12 4 = payload.length := by
    rw [chunkImage_header _ _ _ _ _ (by decide), length, Nat.mod_eq_of_lt (by omega)]
  have seqRead : leNat (chunkImage kind key seq stamp payload) 8 4 = seq := by
    rw [chunkImage_header _ _ _ _ _ (by decide), number, Nat.mod_eq_of_lt (by omega)]
  have stampRead : stampAt (chunkImage kind key seq stamp payload) 16 = stamp :=
    stampAt_of_leNat (by rw [chunkImage_header _ _ _ _ _ (by decide), posted])
  have codes : 1 ≤ kind.code ∧ kind.code ≤ 3 := by cases kind <;> decide
  simp only [parseChunkHeader, kindByte, lengthRead, seqRead, stampRead]
  rw [if_pos ⟨chunkImage_mark .., codes.1, codes.2, some_, long, fits⟩]
  cases kind <;> rfl

end image

/-! ### The zone read (R97 step 1) -/

/-- An entry before index `i` has the number. -/
def SeenBefore (l : List (Option Clip)) (i number : Nat) : Prop :=
  ∃ (j : Nat) (d : Clip), j < i ∧ entryAt l j = some d ∧ d.number = number

theorem entryAt_zero (e : Option Clip) (l : List (Option Clip)) : entryAt (e :: l) 0 = e := rfl

theorem entryAt_succ (e : Option Clip) (l : List (Option Clip)) (i : Nat) : entryAt (e :: l) (i + 1) = entryAt l i := rfl

theorem not_seenBefore_zero (l : List (Option Clip)) (number : Nat) : ¬SeenBefore l 0 number := by
  simp [SeenBefore]

theorem seenBefore_cons (e : Option Clip) (l : List (Option Clip)) (i number : Nat) :
    SeenBefore (e :: l) (i + 1) number ↔ (∃ d, e = some d ∧ d.number = number) ∨ SeenBefore l i number := by
  constructor
  · rintro ⟨_ | j, d, hj, hd, same⟩
    · exact .inl ⟨d, hd, same⟩
    · exact .inr ⟨j, d, by omega, hd, same⟩
  · rintro (⟨d, hd, same⟩ | ⟨j, d, hj, hd, same⟩)
    · exact ⟨0, d, by omega, hd, same⟩
    · exact ⟨j + 1, d, by omega, hd, same⟩

/-- An entry is taken unless its number was seen, among the numbers given or at a lower index. -/
theorem dropDuplicates_entry (seen : List Nat) (l : List (Option Clip)) (i : Nat) :
    (entryAt (dropDuplicates seen l) i = none ∨ entryAt (dropDuplicates seen l) i = entryAt l i) ∧
      (entryAt (dropDuplicates seen l) i = none ↔ entryAt l i = none ∨ ∃ c, entryAt l i = some c ∧
        (c.number ∈ seen ∨ SeenBefore l i c.number)) := by
  induction l generalizing seen i with
  | nil => simp [dropDuplicates, entryAt]
  | cons e rest ih =>
    cases e with
    | none =>
      cases i with
      | zero => simp [dropDuplicates, entryAt_zero]
      | succ i => simpa [dropDuplicates, entryAt_succ, seenBefore_cons] using ih seen i
    | some c =>
      by_cases dup : c.number ∈ seen
      · rw [dropDuplicates, if_pos (by simpa using dup)]
        cases i with
        | zero => simpa [entryAt_zero] using Or.inl dup
        | succ i =>
          obtain ⟨kept, dropped⟩ := ih seen i
          refine ⟨kept, dropped.trans (or_congr_right (exists_congr fun d => and_congr_right fun _ => ?_))⟩
          rw [seenBefore_cons]
          constructor
          · exact Or.imp_right .inr
          · rintro (old | ⟨c', hc, same⟩ | before)
            · exact .inl old
            · obtain rfl : c = c' := Option.some.inj hc
              exact .inl (same ▸ dup)
            · exact .inr before
      · rw [dropDuplicates, if_neg (by simpa using dup)]
        cases i with
        | zero => simpa [entryAt_zero, not_seenBefore_zero] using dup
        | succ i =>
          obtain ⟨kept, dropped⟩ := ih (c.number :: seen) i
          refine ⟨kept, dropped.trans (or_congr_right (exists_congr fun d => and_congr_right fun _ => ?_))⟩
          simp only [seenBefore_cons, List.mem_cons, Option.some.injEq, exists_eq_left', eq_comm (a := d.number)]
          tauto

theorem readZone_clipAt (g : Geometry) (generation nextClip : Nat) (zone : List Byte) {i : Nat} (hi : i < 256) :
    let t := readZone g generation nextClip zone
    let raw := fun i => parseDirEntry (slice zone (256 * i) 256)
    (t.clipAt i = none ∨ t.clipAt i = raw i) ∧ (t.clipAt i = none ↔ raw i = none ∨
      ∃ (j : Nat) (c d : Clip), j < i ∧ raw i = some c ∧ raw j = some d ∧ d.number = c.number) := by
  intro t raw
  have read (j : Nat) (hj : j < 256) : entryAt ((List.range 256).map fun i => parseDirEntry (zoneEntry zone i)) j = raw j := by
    simp [entryAt, List.getD_eq_getElem?_getD, hj, raw, zoneEntry]
  obtain ⟨kept, dropped⟩ := dropDuplicates_entry [] ((List.range 256).map fun i => parseDirEntry (zoneEntry zone i)) i
  rw [read i hi] at kept dropped
  refine ⟨kept, dropped.trans (or_congr_right ?_)⟩
  constructor
  · rintro ⟨c, hc, none | ⟨j, d, hj, hd, same⟩⟩
    · exact absurd none (List.not_mem_nil)
    · exact ⟨j, c, d, hj, hc, by rw [← read j (by omega)]; exact hd, same⟩
  · rintro ⟨j, c, d, hj, hc, hd, same⟩
    exact ⟨c, hc, .inr ⟨j, d, hj, by rw [read j (by omega)]; exact hd, same⟩⟩

theorem readZone_mapAt (g : Geometry) (generation nextClip : Nat) (zone : List Byte) {s : Nat} (hs : s < 1024) :
    let e := parseMapEntry g.segmentCount (slice zone (65536 + 4 * s) 4)
    mapAt (readZone g generation nextClip zone).map s = ⟨e.state, if e.state = .bad ∨ e.state = .free then none else e.link⟩ := by
  intro e
  have read : mapAt (readZone g generation nextClip zone).map s = if e.state = .bad ∨ e.state = .free then ⟨e.state, none⟩ else e := by
    simp [mapAt, List.getD_eq_getElem?_getD, readZone, hs, e, zoneMapEntry]
  rw [read]
  split <;> rfl

end Sys2Proof.Machine
end

section
/-! PROOFS. The tidy of a mount and the recovery scan (R97 to R99). -/

namespace Sys2Proof.Machine

/-! ### Entries of the tables -/

theorem Tables.clipAt_modClip_same (t : Tables) (i : Nat) (f : Clip → Clip) :
    (t.modClip i f).clipAt i = (t.clipAt i).map f := by
  simp only [Tables.clipAt, Tables.modClip, entryAt, List.getD_eq_getElem?_getD, List.getElem?_modify_eq]
  cases t.dir[i]? <;> rfl

theorem Tables.clipAt_modClip_other (t : Tables) {i j : Nat} (f : Clip → Clip) (h : j ≠ i) :
    (t.modClip i f).clipAt j = t.clipAt j := by
  simp only [Tables.clipAt, Tables.modClip, entryAt, List.getD_eq_getElem?_getD, List.getElem?_modify, if_neg (Ne.symm h), Option.map_eq_map, Option.map_id_fun', id_eq]

theorem mapAt_set_same {map : List MapEntry} {s : Nat} (h : s < map.length) (e : MapEntry) : mapAt (map.set s e) s = e := by
  simp [mapAt, List.getD_eq_getElem?_getD, h]

theorem mapAt_set_other (map : List MapEntry) {s u : Nat} (h : u ≠ s) (e : MapEntry) : mapAt (map.set s e) u = mapAt map u := by
  simp [mapAt, List.getD_eq_getElem?_getD, List.getElem?_set_ne (Ne.symm h)]

/-! ### A walk along links (R97 step 3) -/

/-- A segment that a walk may take: below the count and in a chainable state. -/
def Chainable (map : List MapEntry) (count s : Nat) : Prop :=
  s < count ∧ ((mapAt map s).state = .filling ∨ (mapAt map s).state = .filled ∨ (mapAt map s).state = .retiring)

/-- The link that the last segment of a chain holds, or the first segment's number where the chain is empty. -/
def chainEnd (map : List MapEntry) (first : Option Nat) (chain : List Nat) : Option Nat :=
  match chain.getLast? with
  | none => first
  | some s => (mapAt map s).link

theorem chainEnd_cons (map : List MapEntry) (first : Option Nat) (s : Nat) (rest : List Nat) :
    chainEnd map first (s :: rest) = chainEnd map (mapAt map s).link rest := by
  cases rest with
  | nil => rfl
  | cons u rest => rw [chainEnd, chainEnd, List.getLast?_cons_cons]; rfl

theorem walk_succ (map : List MapEntry) (count n : Nat) (used : List Nat) (s : Nat) :
    (Chainable map count s ∧ s ∉ used ∧
        walk map count (n + 1) used (some s) = s :: walk map count n (s :: used) (mapAt map s).link) ∨
      (¬(Chainable map count s ∧ s ∉ used) ∧ walk map count (n + 1) used (some s) = []) := by
  have test : (s < count ∧ ((mapAt map s).state = .filling ∨ (mapAt map s).state = .filled ∨ (mapAt map s).state = .retiring) ∧
      used.contains s = false) ↔ Chainable map count s ∧ s ∉ used := by
    simp [Chainable, and_assoc]
  by_cases h : Chainable map count s ∧ s ∉ used
  · exact .inl ⟨h.1, h.2, if_pos (test.2 h)⟩
  · exact .inr ⟨h, if_neg fun x => h (test.1 x)⟩

theorem walk_mem {map : List MapEntry} {count n : Nat} {used : List Nat} {first : Option Nat} :
    (walk map count n used first).Nodup ∧ ∀ s ∈ walk map count n used first, Chainable map count s ∧ s ∉ used := by
  induction n generalizing used first with
  | zero => simp [walk]
  | succ n ih =>
    cases first with
    | none => simp [walk]
    | some s =>
      rcases walk_succ map count n used s with ⟨ok, fresh, eq⟩ | ⟨_, eq⟩
      · obtain ⟨nodup, mem⟩ := ih (used := s :: used) (first := (mapAt map s).link)
        rw [eq]
        refine ⟨List.nodup_cons.2 ⟨fun again => (mem s again).2 (List.mem_cons_self ..), nodup⟩, fun u hu => ?_⟩
        rcases List.mem_cons.1 hu with rfl | hu
        · exact ⟨ok, fresh⟩
        · exact ⟨(mem u hu).1, fun old => (mem u hu).2 (List.mem_cons_of_mem s old)⟩
      · rw [eq]
        simp

theorem walk_head {map : List MapEntry} {count n : Nat} {used : List Nat} {first : Option Nat}
    (h : walk map count n used first ≠ []) : (walk map count n used first).head? = first := by
  cases n with
  | zero => exact absurd rfl h
  | succ n =>
    cases first with
    | none => exact absurd rfl h
    | some s =>
      rcases walk_succ map count n used s with ⟨_, _, eq⟩ | ⟨_, eq⟩
      · rw [eq]; rfl
      · exact absurd eq h

theorem walk_links {map : List MapEntry} {count n : Nat} {used : List Nat} {first : Option Nat} {k s u : Nat}
    (hs : (walk map count n used first)[k]? = some s) (hu : (walk map count n used first)[k + 1]? = some u) :
    (mapAt map s).link = some u := by
  induction n generalizing used first k with
  | zero => simp [walk] at hs
  | succ n ih =>
    cases first with
    | none => simp [walk] at hs
    | some x =>
      rcases walk_succ map count n used x with ⟨_, _, eq⟩ | ⟨_, eq⟩
      · rw [eq] at hs hu
        rw [List.getElem?_cons_succ] at hu
        cases k with
        | zero =>
          obtain rfl : x = s := by simpa using hs
          rw [← List.head?_eq_getElem?] at hu
          rw [← hu]
          exact (walk_head fun none => by rw [none] at hu; cases hu).symm
        | succ k =>
          rw [List.getElem?_cons_succ] at hs
          exact ih hs hu
      · rw [eq] at hs
        simp at hs

/-- Where a walk stops, the next segment is one that it may not take, or it has gone its whole length. -/
theorem walk_end {map : List MapEntry} {count n : Nat} {used : List Nat} {first : Option Nat} {u : Nat}
    (h : chainEnd map first (walk map count n used first) = some u) (ok : Chainable map count u) :
    u ∈ used ∨ u ∈ walk map count n used first ∨ (walk map count n used first).length = n := by
  induction n generalizing used first with
  | zero => simp [walk]
  | succ n ih =>
    cases first with
    | none => simp [walk, chainEnd] at h
    | some s =>
      rcases walk_succ map count n used s with ⟨_, _, eq⟩ | ⟨stops, eq⟩
      · rw [eq, chainEnd_cons] at h
        rw [eq]
        rcases ih h with old | taken | whole
        · rcases List.mem_cons.1 old with rfl | old
          · exact .inr (.inl (List.mem_cons_self ..))
          · exact .inl old
        · exact .inr (.inl (List.mem_cons_of_mem s taken))
        · exact .inr (.inr (by rw [List.length_cons, whole]))
      · rw [eq] at h
        obtain rfl : s = u := Option.some.inj h
        exact .inl (by_contra fun fresh => stops ⟨ok, fresh⟩)

/-- `count` different numbers below `count` are all of them. -/
theorem mem_of_nodup_of_length {l : List Nat} {count u : Nat} (nodup : l.Nodup) (below : ∀ s ∈ l, s < count)
    (whole : l.length = count) (hu : u < count) : u ∈ l := by
  have sub : l.Subperm (List.range count) := nodup.subperm fun s hs => List.mem_range.2 (below s hs)
  exact (sub.perm_of_length_le (by rw [List.length_range, whole])).mem_iff.2 (List.mem_range.2 hu)

/-- A walk as long as the count allows ends before a segment that it may not take. -/
theorem walk_closed {map : List MapEntry} {count : Nat} {used : List Nat} {first : Option Nat} {u : Nat}
    (h : chainEnd map first (walk map count count used first) = some u) (ok : Chainable map count u) :
    u ∈ used ∨ u ∈ walk map count count used first := by
  obtain ⟨nodup, mem⟩ := walk_mem (map := map) (count := count) (n := count) (used := used) (first := first)
  rcases walk_end h ok with old | taken | whole
  · exact .inl old
  · exact .inr taken
  · exact .inr (mem_of_nodup_of_length nodup (fun s hs => (mem s hs).1.1) whole ok.1)

/-! ### The links of a chain set anew -/

theorem linkChain_length (map : List MapEntry) (chain : List Nat) : (linkChain map chain).length = map.length := by
  induction chain generalizing map with
  | nil => rfl
  | cons s rest ih =>
    cases rest with
    | nil => simp [linkChain]
    | cons u rest => rw [linkChain, ih, List.length_set]

theorem mapAt_set_state (map : List MapEntry) (s u : Nat) (link : Option Nat) :
    (mapAt (map.set s ⟨(mapAt map s).state, link⟩) u).state = (mapAt map u).state := by
  by_cases same : u = s
  · subst same
    by_cases h : u < map.length
    · rw [mapAt_set_same h]
    · rw [List.set_eq_of_length_le (by omega)]
  · rw [mapAt_set_other _ same]

theorem linkChain_state (map : List MapEntry) (chain : List Nat) (u : Nat) :
    (mapAt (linkChain map chain) u).state = (mapAt map u).state := by
  induction chain generalizing map with
  | nil => rfl
  | cons s rest ih =>
    cases rest with
    | nil => exact mapAt_set_state ..
    | cons v rest => rw [linkChain, ih, mapAt_set_state]

theorem linkChain_other (map : List MapEntry) {chain : List Nat} {u : Nat} (h : u ∉ chain) :
    mapAt (linkChain map chain) u = mapAt map u := by
  induction chain generalizing map with
  | nil => rfl
  | cons s rest ih =>
    obtain ⟨first, later⟩ := not_or.1 (mt List.mem_cons.2 h)
    cases rest with
    | nil => exact mapAt_set_other _ first _
    | cons v rest => rw [linkChain, ih _ later, mapAt_set_other _ first]

theorem chainFrom_linkChain {map : List MapEntry} {chain : List Nat} (nodup : chain.Nodup) (below : ∀ s ∈ chain, s < map.length) :
    chainFrom (linkChain map chain) chain.length chain.head? = chain := by
  induction chain generalizing map with
  | nil => rfl
  | cons s rest ih =>
    obtain ⟨once, nodup⟩ := List.nodup_cons.1 nodup
    have here := below s (List.mem_cons_self ..)
    cases rest with
    | nil => simp [linkChain, chainFrom]
    | cons u rest =>
      have tail := ih (map := map.set s ⟨(mapAt map s).state, some u⟩) nodup fun v hv => by
        rw [List.length_set]; exact below v (List.mem_cons_of_mem s hv)
      have link : (mapAt (linkChain map (s :: u :: rest)) s).link = (u :: rest).head? := by
        rw [linkChain, linkChain_other _ once, mapAt_set_same here]; rfl
      rw [List.length_cons, List.head?_cons, chainFrom, link, linkChain, tail]

/-! ### The tidy of one entry, and of all -/

theorem tidyEntry_of_clip {t : Tables} {used : List Nat} {i : Nat} {c : Clip} (hc : t.clipAt i = some c) :
    let chain := walk t.map t.geometry.segmentCount t.geometry.segmentCount used c.first
    tidyEntry (t, used) i = ({ t.modClip i fun c => { c with
      first := chain.head?, last := chain.getLast?, segments := chain.length } with map := linkChain t.map chain }, used ++ chain) := by
  simp only [tidyEntry, hc]
  rfl

theorem tidyEntry_spec {t : Tables} {used : List Nat} {i : Nat} {c : Clip} (hc : t.clipAt i = some c)
    (long : t.geometry.segmentCount ≤ t.map.length) :
    let chain := walk t.map t.geometry.segmentCount t.geometry.segmentCount used c.first
    let e : Clip := { c with first := chain.head?, last := chain.getLast?, segments := chain.length }
    let u := (tidyEntry (t, used) i).1
    (tidyEntry (t, used) i).2 = used ++ chain ∧ u.clipAt i = some e ∧ u.chain e = chain ∧
      (∀ j, j ≠ i → u.clipAt j = t.clipAt j) ∧ (∀ s, (mapAt u.map s).state = (mapAt t.map s).state) ∧
      ∀ s, s ∉ chain → mapAt u.map s = mapAt t.map s := by
  intro chain e
  obtain ⟨nodup, mem⟩ := walk_mem (map := t.map) (count := t.geometry.segmentCount) (n := t.geometry.segmentCount) (used := used)
    (first := c.first)
  rw [tidyEntry_of_clip hc]
  refine ⟨rfl, ?_, ?_, fun j hj => t.clipAt_modClip_other _ hj, linkChain_state _ _, fun s => linkChain_other _⟩
  · exact (t.clipAt_modClip_same i _).trans (by rw [hc]; rfl)
  · exact chainFrom_linkChain nodup fun s hs => lt_of_lt_of_le (mem s hs).1.1 long

theorem mem_byNumber (t : Tables) (i : Nat) : i ∈ t.byNumber ↔ i < 256 ∧ ∃ c, t.clipAt i = some c := by
  simp [Tables.byNumber, List.mem_insertionSort, Option.isSome_iff_exists]

theorem byNumber_ascends (t : Tables) :
    t.byNumber.Pairwise fun i j => ∀ c d : Clip, t.clipAt i = some c → t.clipAt j = some d → c.number ≤ d.number := by
  have total : Std.Total fun i j => (t.clipAt i).elim 0 Clip.number ≤ (t.clipAt j).elim 0 Clip.number :=
    ⟨fun _ _ => Nat.le_total _ _⟩
  have trans : IsTrans Nat fun i j => (t.clipAt i).elim 0 Clip.number ≤ (t.clipAt j).elim 0 Clip.number :=
    ⟨fun _ _ _ => Nat.le_trans⟩
  refine (List.pairwise_insertionSort _ _).imp fun {i j} h c d hc hd => ?_
  simpa [hc, hd] using h

theorem tidy_mapAt (t : Tables) {s : Nat} (hs : s < (t.byNumber.foldl tidyEntry (t, [])).1.map.length) :
    let p := t.byNumber.foldl tidyEntry (t, [])
    mapAt (tidy t).map s = if s < t.geometry.segmentCount ∧ s ∉ p.2 ∧ ((mapAt p.1.map s).state = .filling ∨
        (mapAt p.1.map s).state = .filled ∨ (mapAt p.1.map s).state = .retiring) then
        ⟨if (mapAt p.1.map s).state = .retiring then .bad else .free, none⟩
      else mapAt p.1.map s := by
  intro p
  have orphan : mapAt (tidy t).map s = freeOrphan t.geometry.segmentCount p.2 (mapAt p.1.map s) s := by
    simp only [mapAt, tidy, List.getD_eq_getElem?_getD, List.getElem?_mapIdx, p]
    rw [List.getElem?_eq_getElem hs]
    rfl
  have test : (s < t.geometry.segmentCount ∧ p.2.contains s = false ∧ ((mapAt p.1.map s).state = .filling ∨
      (mapAt p.1.map s).state = .filled ∨ (mapAt p.1.map s).state = .retiring)) ↔
      s < t.geometry.segmentCount ∧ s ∉ p.2 ∧ ((mapAt p.1.map s).state = .filling ∨
        (mapAt p.1.map s).state = .filled ∨ (mapAt p.1.map s).state = .retiring) := by
    simp
  rw [orphan, freeOrphan, if_congr test rfl rfl]
  rfl

/-! ### The recovery scan (R98) -/

theorem above_iff (seq : Nat) (last : Option Nat) : above seq last = true ↔ ∀ l, last = some l → l < seq := by
  cases last <;> simp [above]

theorem Scan.judge_bad (s : Scan) (c : ReadChunk) : s.judge c false = none :=
  if_pos (.inl rfl)

theorem Scan.judge_of_wrong_first {s : Scan} {c : ReadChunk} (h : s.atFirst = true) (wrong : c.seq ≠ s.firstSeq) :
    s.judge c true = none :=
  if_pos (.inr ⟨h, wrong⟩)

section judge
variable {s : Scan} {c : ReadChunk} (place : s.atFirst = false ∨ c.seq = s.firstSeq)
include place

theorem Scan.judge_of_place : s.judge c true =
    if above c.seq (s.last c.motion) then some (s.count c)
    else if s.atFirst = true ∧ s.last c.motion = some c.seq then
      some { s with sector := s.sector + chunkSectors c.length, atFirst := false }
    else none := by
  refine if_neg ?_
  rintro (bad | ⟨first, wrong⟩)
  · cases bad
  · rcases place with other | right
    · rw [first] at other; cases other
    · exact wrong right

theorem Scan.judge_of_rises (rises : ∀ l, s.last c.motion = some l → l < c.seq) : s.judge c true = some (s.count c) := by
  rw [Scan.judge_of_place place, if_pos ((above_iff _ _).2 rises)]

theorem Scan.judge_of_copy (first : s.atFirst = true) (copy : s.last c.motion = some c.seq) :
    s.judge c true = some { s with sector := s.sector + chunkSectors c.length, atFirst := false } := by
  rw [Scan.judge_of_place place, if_neg fun up => absurd ((above_iff _ _).1 up _ copy) (lt_irrefl _), if_pos ⟨first, copy⟩]

theorem Scan.judge_of_end (falls : ¬∀ l, s.last c.motion = some l → l < c.seq)
    (other : s.atFirst = false ∨ s.last c.motion ≠ some c.seq) : s.judge c true = none := by
  rw [Scan.judge_of_place place, if_neg fun up => falls ((above_iff _ _).1 up), if_neg]
  rintro ⟨first, copy⟩
  rcases other with no | no
  · rw [first] at no; cases no
  · exact no copy

end judge

theorem Scan.count_motion (s : Scan) {c : ReadChunk} (h : c.motion = true) : s.count c = { s with
    sector := s.sector + (32 + c.length + 511) / 512, atFirst := false, bytes := s.bytes + c.length, lastMotion := some c.seq
    motionCount := s.motionCount + 1, motionStamp := some c.stamp } := by
  simp only [Scan.count, h, if_true]
  rfl

theorem Scan.count_host (s : Scan) {c : ReadChunk} (h : c.motion = false) : s.count c = { s with
    sector := s.sector + (32 + c.length + 511) / 512, atFirst := false, bytes := s.bytes + c.length, lastHost := some c.seq
    hostCount := s.hostCount + 1, hostStamp := some c.stamp } := by
  simp only [Scan.count, h]
  rfl

/-! ### The next clip number (R99) -/

/-- Folding with the maximum over the numbers after those present. -/
theorem foldl_max_numberAfter (generation : Nat) {l : List Clip} (h : ∀ c ∈ l, c.number < 4294967295) (n : Nat) :
    let m := l.foldl (fun n c => max n (numberAfter generation c.number)) n
    n ≤ m ∧ (∀ c ∈ l, c.number < m) ∧ (m = n ∨ ∃ c ∈ l, m = c.number + 1) := by
  induction l generalizing n with
  | nil => simp
  | cons c rest ih =>
    have after : numberAfter generation c.number = c.number + 1 := if_pos (h c (List.mem_cons_self ..))
    obtain ⟨least, above, value⟩ := ih (fun d hd => h d (List.mem_cons_of_mem c hd)) (max n (c.number + 1))
    simp only [List.foldl_cons, after]
    refine ⟨by omega, fun d hd => ?_, ?_⟩
    · rcases List.mem_cons.1 hd with rfl | hd
      · omega
      · exact above d hd
    · rcases value with same | ⟨d, hd, same⟩
      · rcases le_total n (c.number + 1) with more | less
        · exact .inr ⟨c, List.mem_cons_self .., by rw [same, max_eq_right more]⟩
        · exact .inl (by rw [same, max_eq_left less])
      · exact .inr ⟨d, List.mem_cons_of_mem c hd, same⟩

/-! ### The sectors of the zone -/

theorem dirEntryBytes_length_of {e : Option Clip} (h : ∀ c, e = some c → c.markers.length ≤ 16) : (dirEntryBytes e).length = 256 := by
  cases e with
  | none => exact List.length_replicate
  | some c => exact dirEntryBytes_length (h c rfl)

theorem zoneSector_dir (t : Tables) {z : Nat} (h1 : 1 ≤ z) (h2 : z ≤ 128) :
    zoneSector t z = dirEntryBytes (t.clipAt (2 * (z - 1))) ++ dirEntryBytes (t.clipAt (2 * (z - 1) + 1)) := by
  rw [zoneSector, if_neg (by omega), if_pos (by omega)]
  rfl

theorem zoneSector_map (t : Tables) {z : Nat} (h : 129 ≤ z) :
    zoneSector t z = (List.range 128).flatMap fun i => (mapAt t.map (128 * (z - 129) + i)).bytes := by
  rw [zoneSector, if_neg (by omega), if_neg (by omega)]

theorem zoneSector_length {t : Tables} (h : ∀ (i : Nat) (c : Clip), t.clipAt i = some c → c.markers.length ≤ 16) (z : Nat) :
    (zoneSector t z).length = 512 := by
  by_cases header : z = 0
  · rw [zoneSector, if_pos header, headerSector_length]
  · by_cases directory : z ≤ 128
    · rw [zoneSector_dir t (by omega) directory, List.length_append, dirEntryBytes_length_of (h _), dirEntryBytes_length_of (h _)]
    · rw [zoneSector_map t (by omega), flatMap_length fun _ => MapEntry.bytes_length _, List.length_range]

theorem zoneSector_entry {t : Tables} (h : ∀ (i : Nat) (c : Clip), t.clipAt i = some c → c.markers.length ≤ 16) {z i : Nat}
    (h1 : 1 ≤ z) (h2 : z ≤ 128) (hi : i = 2 * (z - 1) ∨ i = 2 * (z - 1) + 1) :
    slice (zoneSector t z) (256 * (i % 2)) 256 = dirEntryBytes (t.clipAt i) := by
  have first : (dirEntryBytes (t.clipAt (2 * (z - 1)))).length = 256 := dirEntryBytes_length_of (h _)
  have second : (dirEntryBytes (t.clipAt (2 * (z - 1) + 1))).length = 256 := dirEntryBytes_length_of (h _)
  rw [zoneSector_dir t h1 h2]
  rcases hi with rfl | rfl
  · rw [show 256 * (2 * (z - 1) % 2) = 0 by omega, slice_append _ _ first]
  · rw [show 256 * ((2 * (z - 1) + 1) % 2) = 256 by omega, slice_append_of_le _ _ _ first.le, first, Nat.sub_self]
    exact second ▸ slice_all _

theorem zoneSector_segment (t : Tables) {z s : Nat} (h : 129 ≤ z) (hs : s / 128 = z - 129) :
    slice (zoneSector t z) (4 * (s % 128)) 4 = (mapAt t.map s).bytes := by
  have item : (List.range 128)[s % 128]? = some (s % 128) := by
    rw [List.getElem?_range (by omega)]
  refine eq_of_byteAt (by simp) fun k hk => ?_
  rw [slice_length] at hk
  rw [byteAt_slice _ _ hk, zoneSector_map t h, byteAt_flatMap (fun _ => MapEntry.bytes_length _) item hk,
    show 128 * (z - 129) + s % 128 = s by omega]

end Sys2Proof.Machine

namespace Sys2Proof.Proofs
open Sys2Proof.Machine

/-- Settles O48: each record by its fields at their places, the walk by induction over its length, and the checks bit by bit. -/
theorem volumeRecordsReadBack : Obligations.VolumeRecordsReadBack := by
  refine ⟨⟨fun c => parseDirEntry_dirEntryBytes, parseDirEntry_empty⟩, ?_, ?_, ?_, ?_, ?_, ?_, ?_, ?_, ?_, fun _ _ => rfl, ?_, ?_,
    rfl, rfl, rfl, rfl, rfl, ?_, ?_, ?_, ?_, ?_⟩
  · exact fun generation size count nextClip h1 h2 h3 h4 h5 =>
      ⟨parseHeader_headerSector h1 h2 h3 h4 h5, headerSector_length ..⟩
  · intro clip ordinal generation firstSeq clip' ordinal' generation' h1 h2 h3 h4
    obtain ⟨_, _, _, first, _⟩ := segmentHeaderSector_fields clip ordinal generation firstSeq
    exact ⟨segmentNames_iff _ _ _ h1 h2 h3, first.trans (Nat.mod_eq_of_lt h4), segmentHeaderSector_length ..⟩
  · exact fun count e h1 h2 => ⟨parseMapEntry_bytes h1 h2, e.bytes_length⟩
  · exact fun kind key seq size sector stamp payload hseq hne long fits => ⟨chunkImage_length .., chunkImage_payload ..,
      parseChunkHeader_chunkImage _ _ _ _ _ hseq hne long fits, chunkCrcOk_chunkImage ..⟩
  · exact fun g generation nextClip zone => ⟨rfl, rfl, rfl, fun i hi => readZone_clipAt g generation nextClip zone hi,
      fun s hs => readZone_mapAt g generation nextClip zone hs⟩
  · exact fun map count used first => ⟨walk_mem.1, walk_mem.2, walk_head, fun k s u => walk_links, fun u => walk_closed⟩
  · exact fun t used i c hc long => tidyEntry_spec hc long
  · exact fun t => ⟨mem_byNumber t, byNumber_ascends t, rfl, fun s hs => tidy_mapAt t hs⟩
  · exact fun s c => ⟨s.judge_bad c, Scan.judge_of_wrong_first, fun place =>
      ⟨fun rises motion => (Scan.judge_of_rises place rises).trans (congrArg some (s.count_motion motion)),
        fun rises host => (Scan.judge_of_rises place rises).trans (congrArg some (s.count_host host)),
        Scan.judge_of_copy place, Scan.judge_of_end place⟩⟩
  · exact fun t small => foldl_max_numberAfter t.generation small t.nextClip
  · exact fun c h => ⟨dirEntryBytes_length h, rfl, dirEntry_fields h, fun j m => dirEntry_markerFields h, fun j => dirEntry_gap h⟩
  · intro a b c d
    obtain ⟨sign, generation, size, count, next, check, rest⟩ := headerSector_fields a b c d
    obtain ⟨clip, ordinal, volume, first, sum, zeros⟩ := segmentHeaderSector_fields a b c d
    have small (x : BitVec 32) : x.toNat = x.toNat % 256 ^ 4 := (Nat.mod_eq_of_lt x.isLt).symm
    simp only [List.forall_mem_cons, List.not_mem_nil, false_implies, implies_true, and_true]
    exact ⟨⟨sign, ⟨generation, size, count, next, check.trans (small _)⟩, rest⟩,
      ⟨clip, ordinal, volume, first, sum.trans (small _)⟩, zeros⟩
  · exact fun e => ⟨e.bytes_length, e.bytes_fields⟩
  · intro kind key seq stamp payload
    obtain ⟨_, code, keyByte, zero, number, length, posted, gap, _⟩ := chunkHeader_fields kind key seq payload.length stamp
      (chunkCrc kind key seq stamp payload).toNat
    have header {i n : Nat} (h : i + n ≤ 32) := chunkImage_header kind key seq stamp payload h
    exact ⟨chunkImage_mark .., (header (by decide)).trans code, (header (by decide)).trans keyByte,
      (header (by decide)).trans zero, (header (by decide)).trans number, (header (by decide)).trans length,
      (header (by decide)).trans posted, (header (by decide)).trans gap,
      (chunkImage_check ..).trans (by rw [chunkImage_checked]; rfl), fun j => chunkImage_padding kind key seq stamp payload⟩
  · exact fun t z => ⟨rfl, fun markers _ => ⟨zoneSector_length markers z, fun h1 h2 i => zoneSector_entry markers h1 h2⟩,
      fun h1 _ s => zoneSector_segment t h1⟩
  · exact ⟨rfl, rfl, rfl, fun bs b => ⟨crc32_snoc bs b, crc16Stored_snoc bs b, crc16Block_snoc bs b⟩⟩

end Sys2Proof.Proofs
end

section
/-! PROOFS. The Clip Writer as its work is dropped: what receipts, closes, removals and halts leave of it (R112, R124, R128, R129). -/

namespace Sys2Proof.Machine

/-! ### What stands when the work, the requests and the volume go -/

/-- The writer without its state, its work, its requests and its volume. -/
def Writer.standing (w : Writer) : Writer :=
  { w with
    state := .idle, mounted := false, tables := none, updates := [], flight := none, mirrorDirty := [], waiting := []
    job := none, unmounting := none, held := [], parked := [], queue := [], wip := none, current := none, stopPending := none
    stopSlots := [], closeCause := none, readBack := none, starvation := none, lastHostStamp := none, lastMotionStamp := none
    hostReset := false, idleReport := false, recordingReport := false }

/-- The profile and the reserve held stand with the writer. -/
theorem Writer.profile_of_standing {w v : Writer} (h : w.standing = v.standing) : w.profile = v.profile :=
  show w.standing.profile = v.standing.profile by rw [h]

theorem Writer.reserveHeld_of_standing {w v : Writer} (h : w.standing = v.standing) : w.reserveHeld = v.reserveHeld :=
  show w.standing.reserveHeld = v.standing.reserveHeld by rw [h]

theorem foldl_writer {α β : Type} (view : Media → β) (f : Media → α → Media) (h : ∀ m a, view (f m a) = view m) (l : List α)
    (m : Media) : view (l.foldl f m) = view m := by
  induction l generalizing m with
  | nil => rfl
  | cons a l ih => rw [List.foldl_cons, ih, h]

@[simp] theorem Media.answerAll_writer (m : Media) (env : Env) (slots : List Nat) (a : Answer) :
    (m.answerAll env slots a).writer = m.writer :=
  foldl_writer Media.writer (fun m slot => m.answer env slot a) (fun _ _ => rfl) slots m

@[simp] theorem Media.returnBuffer_writer (m : Media) (id : BufferId) : (m.returnBuffer id).writer = m.writer := rfl

/-- A receipt takes its edition out of the held slots. -/
theorem Media.receipt_writer (m : Media) (env : Env) (st : ReceiptStatus) (h : HeldSlot) :
    (m.receipt env st h).writer = { m.writer with held := m.writer.held.filter fun x => x ≠ h } := by
  unfold Media.receipt
  split
  · rfl
  · next absent =>
    have none : m.writer.held.filter (fun x => x ≠ h) = m.writer.held :=
      List.filter_eq_self.2 fun x hx => by
        have other : x ≠ h := fun same => absent (by rw [← same]; simpa using hx)
        simpa using other
    rw [none]

/-- The held slots once a chunk is finished with. -/
def Chunk.leftHeld (c : Chunk) (held : List HeldSlot) : List HeldSlot :=
  match c.heldSlot with
  | some h => held.filter fun x => x ≠ h
  | none => held

theorem Media.finish_writer (m : Media) (env : Env) (st : ReceiptStatus) (c : Chunk) :
    (m.finish env st c).writer = { m.writer with held := c.leftHeld m.writer.held } := by
  unfold Media.finish Chunk.leftHeld Chunk.heldSlot
  split
  · exact Media.receipt_writer _ _ _ _
  · rfl

theorem Media.finishAll_writer (m : Media) (env : Env) (st : ReceiptStatus) (cs : List Chunk) :
    (m.finishAll env st cs).writer = { m.writer with held := cs.foldl (fun held c => c.leftHeld held) m.writer.held } := by
  induction cs generalizing m with
  | nil => rfl
  | cons c cs ih =>
    rw [Media.finishAll, List.foldl_cons, ← Media.finishAll, ih, Media.finish_writer]
    rfl

theorem Media.dropParked_writer (m : Media) (env : Env) (st : ReceiptStatus) :
    (m.dropParked env st).writer = { m.writer with
      parked := [], held := m.writer.parked.foldl (fun held c => c.leftHeld held) m.writer.held } :=
  Media.finishAll_writer _ _ _ _

theorem Media.dropAdmitted_writer (m : Media) (env : Env) (st : ReceiptStatus) :
    (m.dropAdmitted env st).writer = { m.writer with
      queue := [], wip := none, held := m.writer.admitted.foldl (fun held c => c.leftHeld held) m.writer.held } :=
  Media.finishAll_writer _ _ _ _

/-- The queue after a flush: a buffer that is FILLING with records joins it as a MOTION chunk. -/
def Media.flushedQueue (m : Media) : List Chunk :=
  match m.steady.filling with
  | some id =>
    if (m.steady.buffer id).records.isEmpty ∨ m.writer.returnsBuffers = true then m.writer.queue
    else m.writer.queue ++ [motionChunk id (m.steady.buffer id).records]
  | none => m.writer.queue

theorem Media.flush_writer (m : Media) : m.flush.writer = { m.writer with queue := m.flushedQueue } := by
  cases filling : m.steady.filling with
  | none => simp only [Media.flush, Media.flushedQueue, filling]
  | some id =>
    simp only [Media.flush, Media.flushedQueue, filling]
    by_cases empty : (m.steady.buffer id).records.isEmpty = true
    · rw [if_pos empty, if_pos (.inl empty)]
    · rw [if_neg empty]
      by_cases returns : m.writer.returnsBuffers = true
      · rw [Media.handOver, if_pos returns, if_pos (.inr returns)]; rfl
      · rw [Media.handOver, if_neg returns, if_neg (not_or.2 ⟨empty, returns⟩)]; rfl

/-! ### A close that begins (R124) -/

theorem Media.closeBegin_of_recording {m : Media} (env : Env) (cause : CloseCause) (h : m.writer.state = .recording) :
    m.closeBegin env cause = (((m.enter .closing).modWriter fun w =>
      { w with closeCause := some cause, stopPending := none, starvation := none }).dropParked env .refused).flush :=
  if_pos h

theorem Media.closeBegin_of_not_recording {m : Media} (env : Env) (cause : CloseCause) (h : m.writer.state ≠ .recording) :
    m.closeBegin env cause = m :=
  if_neg h

theorem Media.closeBegin_writer {m : Media} (env : Env) (cause : CloseCause) (h : m.writer.state = .recording) :
    ∃ held queue, (m.closeBegin env cause).writer = { m.writer.enter .closing with
      closeCause := some cause, stopPending := none, starvation := none, parked := [], held := held, queue := queue } := by
  rw [Media.closeBegin_of_recording env cause h, Media.flush_writer, Media.dropParked_writer]
  exact ⟨_, _, rfl⟩

theorem Media.closeBegin_closing {m : Media} (env : Env) (cause : CloseCause) (h : m.writer.state = .recording) :
    (m.closeBegin env cause).writer.state = .closing ∧ (m.closeBegin env cause).writer.closeCause = some cause := by
  obtain ⟨held, queue, eq⟩ := Media.closeBegin_writer env cause h
  rw [eq]
  exact ⟨rfl, rfl⟩

@[simp] theorem Media.closeBegin_standing (m : Media) (env : Env) (cause : CloseCause) :
    (m.closeBegin env cause).writer.standing = m.writer.standing := by
  by_cases h : m.writer.state = .recording
  · obtain ⟨held, queue, eq⟩ := Media.closeBegin_writer env cause h
    rw [eq]
    rfl
  · rw [Media.closeBegin_of_not_recording env cause h]

/-! ### A removal and a halt (R128, R129) -/

@[simp] theorem Writer.enter_standing (w : Writer) (st : WriterState) : (w.enter st).standing = w.standing := rfl
@[simp] theorem Writer.clearClose_standing (w : Writer) : w.clearClose.standing = w.standing := rfl
@[simp] theorem Writer.dropTables_standing (w : Writer) : w.dropTables.standing = w.standing := rfl
@[simp] theorem Writer.changeEntry_standing (w : Writer) (i : Nat) (f : Clip → Clip) :
    (w.changeEntry i f).standing = w.standing := rfl

@[simp] theorem Writer.addDrops_standing (w : Writer) (n : Nat) : (w.addDrops n).standing = w.standing := by
  unfold Writer.addDrops
  split <;> [rfl; (split <;> rfl)]

@[simp] theorem Writer.restoreFlight_standing (w : Writer) : w.restoreFlight.standing = w.standing := by
  unfold Writer.restoreFlight
  split <;> rfl

theorem Media.dropVolume_writer (m : Media) : m.dropVolume.writer = m.writer.dropTables := rfl

@[simp] theorem Media.dropVolume_standing (m : Media) : m.dropVolume.writer.standing = m.writer.standing := by
  rw [Media.dropVolume_writer, Writer.dropTables_standing]

theorem Media.abandonHeld_writer (m : Media) (env : Env) :
    ∃ held queue, (m.abandonHeld env).writer = { m.writer with parked := [], wip := none, held := held, queue := queue } := by
  have receipts (l : List HeldSlot) (n : Media) : ∃ held,
      (l.foldl (fun m h => m.receipt env .abandoned h) n).writer = { n.writer with held := held } := by
    induction l generalizing n with
    | nil => exact ⟨_, rfl⟩
    | cons h l ih =>
      obtain ⟨held, eq⟩ := ih (n.receipt env .abandoned h)
      exact ⟨held, by rw [List.foldl_cons, eq, Media.receipt_writer]⟩
  unfold Media.abandonHeld
  rw [Media.flush_writer]
  obtain ⟨held, eq⟩ := receipts ((m.dropParked env .abandoned).dropAdmitted env .abandoned).writer.held
    ((m.dropParked env .abandoned).dropAdmitted env .abandoned)
  dsimp only
  rw [eq, Media.dropAdmitted_writer, Media.dropParked_writer]
  exact ⟨_, _, rfl⟩

theorem Media.failWaiting_writer (m : Media) (env : Env) (r : FailReason) :
    (m.failWaiting env r).writer = { m.writer with waiting := [], stopSlots := [] } :=
  Media.answerAll_writer _ _ _ _

theorem Media.endReadBack_writer (m : Media) (env : Env) (a : Answer) :
    (m.endReadBack env a).writer = { m.writer with readBack := none } := by
  unfold Media.endReadBack
  split
  · next h => rw [← h]
  · rfl

theorem Media.endJob_writer (m : Media) (env : Env) (a : Answer) : (m.endJob env a).writer = { m.writer with job := none } := by
  unfold Media.endJob
  split
  · next h => rw [← h]
  · rfl

/-- Every request at the writer is answered and gone. -/
theorem Media.failAll_writer (m : Media) (env : Env) (r : FailReason) :
    (m.failAll env r).writer = { m.writer.clearClose with
      waiting := [], stopSlots := [], unmounting := none, hostReset := false, readBack := none, job := none } := by
  unfold Media.failAll
  dsimp only
  rw [Media.endJob_writer, Media.endReadBack_writer, Media.answerAll_writer, Media.modWriter_writer, Media.failWaiting_writer]
  rfl

theorem Media.cardGone_standing (m : Media) (env : Env) : (m.cardGone env).writer.standing = m.writer.standing := by
  have gone : ((((m.enter .cardLost).abandonHeld env).failAll env .noCard).dropVolume).writer.standing = m.writer.standing := by
    obtain ⟨held, queue, eq⟩ := (m.enter .cardLost).abandonHeld_writer env
    rw [Media.dropVolume_standing, Media.failAll_writer, eq]
    rfl
  unfold Media.cardGone
  split
  case h_1 | h_2 | h_3 | h_4 | h_5 | h_6 => exact gone
  case h_7 => exact m.dropVolume_standing
  all_goals rfl

@[simp] theorem Media.cardNews_writer (m : Media) (c : Card) : (m.cardNews c).writer = m.writer := by
  unfold Media.cardNews
  split <;> rfl

theorem Media.railOffCard_standing (m : Media) (env : Env) : (m.railOffCard env).writer.standing = m.writer.standing := by
  unfold Media.railOffCard
  split
  · rfl
  · exact (Media.cardGone_standing _ _).trans (by rw [Media.cardNews_writer])

end Sys2Proof.Machine
end

section
/-! PROOFS. The reserve and a change of power state, block by block (R126, R174, R179). -/

namespace Sys2Proof.Machine

/-! ### Flags -/

theorem AttnFlag.index_lt (f : AttnFlag) : f.index < 11 := by
  cases f <;> decide

theorem AttnFlag.index_injective {f g : AttnFlag} (h : f.index = g.index) : f = g := by
  revert h
  cases f <;> cases g <;> simp [AttnFlag.index]

theorem Exchange.raise_flagSet (e : Exchange) (f : AttnFlag) : (e.raise f).flagSet f = true := by
  simp [Exchange.flagSet, Exchange.raise, AttnFlag.mask, f.index_lt]

theorem Exchange.raise_flagSet_other (e : Exchange) {f g : AttnFlag} (h : g ≠ f) : (e.raise f).flagSet g = e.flagSet g := by
  have other : g.index ≠ f.index := fun same => h (AttnFlag.index_injective same)
  have bit : (1#11 <<< f.index).getLsbD g.index = false := by
    rw [BitVec.getLsbD_shiftLeft]
    by_cases below : g.index < f.index
    · simp [below]
    · rw [show (1#11).getLsbD (g.index - f.index) = false by rw [BitVec.getLsbD_one]; simp; omega, Bool.and_false]
  rw [Exchange.flagSet, Exchange.raise, AttnFlag.mask, BitVec.getLsbD_or, bit, Bool.or_false]
  rfl

theorem State.raiseIf_cases (s : State) (news : Bool) (f : AttnFlag) : s.raiseIf news f = s ∨ s.raiseIf news f = s.raise f := by
  cases news
  · exact .inl rfl
  · exact .inr rfl

/-- A flag touches the registers alone. -/
theorem State.raiseIf_eq (s : State) (news : Bool) (f : AttnFlag) :
    s.raiseIf news f = { s with media := { s.media with exch := if news then s.media.exch.raise f else s.media.exch } } := by
  cases news <;> rfl

/-! ### The reserve (R174) -/

/-- RESERVE is issued by the test: it holds, and the reserve is not asserted. -/
def State.issuesReserve (s : State) : Bool :=
  s.gauge.reserveTest s.options s.power.state && !s.gauge.reserve

theorem Gauge.reserveTest_iff (g : Gauge) (o : ChargeOptions) (p : PowerState) : g.reserveTest o p = true ↔
    g.state ≠ .unset ∧ g.q / (o.capacity : Int) ≤ g.reserveLevel ∧ p = .run ∧ g.sourceSelected = false := by
  rw [Gauge.reserveTest, Bool.and_eq_true, decide_eq_true_iff, Bool.not_eq_true', and_assoc, and_assoc]
  rfl

theorem State.issuesReserve_iff (s : State) : s.issuesReserve = true ↔
    (s.gauge.state ≠ .unset ∧ s.gauge.q / (s.options.capacity : Int) ≤ s.gauge.reserveLevel ∧ s.power.state = .run ∧
      s.gauge.sourceSelected = false) ∧ s.gauge.reserve = false := by
  rw [State.issuesReserve, Bool.and_eq_true, Gauge.reserveTest_iff, Bool.not_eq_true']

/-- The state with RESERVE issued. -/
def State.withReserve (s : State) : State :=
  ({ s with
    gauge := { s.gauge with reserve := true }
    power := { s.power with reserveHeld := true }
    media := ({ s.media with writer := { s.media.writer with reserveHeld := true } } : Media).closeBegin s.env .reserve } :
      State).raise .gauge

theorem State.reserveTest_of_issues {s : State} (h : s.issuesReserve = true) : s.reserveTest = s.withReserve :=
  if_pos h

theorem State.reserveTest_of_not {s : State} (h : s.issuesReserve = false) : s.reserveTest = s :=
  if_neg (by simp [State.issuesReserve] at h ⊢; exact h)

theorem State.reserveTest_of_reserve {s : State} (h : s.gauge.reserve = true) : s.reserveTest = s :=
  State.reserveTest_of_not (by simp [State.issuesReserve, h])

theorem State.reserveTest_of_not_run {s : State} (h : s.power.state ≠ .run) : s.reserveTest = s :=
  State.reserveTest_of_not (by simp [State.issuesReserve, Gauge.reserveTest, h])

theorem State.reserveTest_of_source {s : State} (h : s.gauge.sourceSelected = true) : s.reserveTest = s :=
  State.reserveTest_of_not (by simp [State.issuesReserve, Gauge.reserveTest, h])

/-- The state with the reserve cleared. -/
def State.withoutReserve (s : State) : State :=
  ({ s with
    gauge := { s.gauge with reserve := false }
    power := { s.power with reserveHeld := false }
    media := { s.media with writer := { s.media.writer with reserveHeld := false } } } : State).raise .gauge

theorem State.reserveClear_of_reserve {s : State} (h : s.gauge.reserve = true) : s.reserveClear = s.withoutReserve :=
  if_pos h

theorem State.reserveClear_of_not {s : State} (h : s.gauge.reserve = false) : s.reserveClear = s :=
  if_neg (by rw [h]; exact Bool.false_ne_true)

/-- What the reserve's test can change: the gauge's and the power's view of it, and the media blocks. -/
theorem State.reserveTest_frame (s : State) : s.reserveTest = { s with
    gauge := { s.gauge with reserve := s.gauge.reserve || s.issuesReserve }
    power := { s.power with reserveHeld := s.power.reserveHeld || s.issuesReserve }
    media := s.reserveTest.media } := by
  cases issues : s.issuesReserve with
  | true =>
    rw [State.reserveTest_of_issues issues, Bool.or_true, Bool.or_true]
    rfl
  | false => rw [State.reserveTest_of_not issues, Bool.or_false, Bool.or_false]

@[simp] theorem State.reserveTest_clock (s : State) : s.reserveTest.clock = s.clock := by rw [s.reserveTest_frame]
@[simp] theorem State.reserveTest_motion (s : State) : s.reserveTest.motion = s.motion := by rw [s.reserveTest_frame]
@[simp] theorem State.reserveTest_integ (s : State) : s.reserveTest.integ = s.integ := by rw [s.reserveTest_frame]
@[simp] theorem State.reserveTest_incident (s : State) : s.reserveTest.incident = s.incident := by rw [s.reserveTest_frame]
@[simp] theorem State.reserveTest_charge (s : State) : s.reserveTest.charge = s.charge := by rw [s.reserveTest_frame]
@[simp] theorem State.reserveTest_options (s : State) : s.reserveTest.options = s.options := by rw [s.reserveTest_frame]
@[simp] theorem State.reserveTest_pending (s : State) : s.reserveTest.pending = s.pending := by rw [s.reserveTest_frame]

theorem State.withReserve_closing {s : State} (h : s.media.writer.state = .recording) :
    s.withReserve.media.writer.state = .closing ∧ s.withReserve.media.writer.closeCause = some .reserve :=
  Media.closeBegin_closing (m := { s.media with writer := { s.media.writer with reserveHeld := true } }) s.env .reserve h

theorem State.withReserve_held (s : State) : s.withReserve.media.writer.reserveHeld = true :=
  Writer.reserveHeld_of_standing (Media.closeBegin_standing
    { s.media with writer := { s.media.writer with reserveHeld := true } } s.env .reserve)

/-! ### The rail (R179) -/

@[simp] theorem State.railOffMotion_clock (s : State) : s.railOffMotion.clock = s.clock := by
  unfold State.railOffMotion; split <;> (try split) <;> rfl
@[simp] theorem State.railOffMotion_charge (s : State) : s.railOffMotion.charge = s.charge := by
  unfold State.railOffMotion; split <;> (try split) <;> rfl
@[simp] theorem State.railOffMotion_gauge (s : State) : s.railOffMotion.gauge = s.gauge := by
  unfold State.railOffMotion; split <;> (try split) <;> rfl
@[simp] theorem State.railOffMotion_options (s : State) : s.railOffMotion.options = s.options := by
  unfold State.railOffMotion; split <;> (try split) <;> rfl
@[simp] theorem State.railOffMotion_pending (s : State) : s.railOffMotion.pending = s.pending := by
  unfold State.railOffMotion; split <;> (try split) <;> rfl

@[simp] theorem State.railOffMotion_writer (s : State) : s.railOffMotion.media.writer = s.media.writer := by
  unfold State.railOffMotion
  split
  · split
    · rfl
    · exact Media.answerAll_writer _ _ _ _
  · rfl

@[simp] theorem State.railOff_clock (s : State) : s.railOff.clock = s.clock := s.railOffMotion_clock
@[simp] theorem State.railOff_charge (s : State) : s.railOff.charge = s.charge := s.railOffMotion_charge
@[simp] theorem State.railOff_gauge (s : State) : s.railOff.gauge = s.gauge := s.railOffMotion_gauge
@[simp] theorem State.railOff_options (s : State) : s.railOff.options = s.options := s.railOffMotion_options
@[simp] theorem State.railOff_pending (s : State) : s.railOff.pending = s.pending := s.railOffMotion_pending

theorem State.railOff_standing (s : State) : s.railOff.media.writer.standing = s.media.writer.standing :=
  (Media.railOffCard_standing _ _).trans (congrArg Writer.standing s.railOffMotion_writer)

/-- What follows the rail: everything but the media, the intake's blocks and the MARK key's. -/
theorem State.railChanged_cases (s : State) (before after : PowerState) :
    (before.rail = true ∧ after.rail = false ∧ s.railChanged before after = s.railOff) ∨
      (before.rail = false ∧ after.rail = true ∧ s.railChanged before after = s.railUp) ∨
      (before.rail = after.rail ∧ s.railChanged before after = s) := by
  unfold State.railChanged
  cases before.rail <;> cases after.rail <;> simp

@[simp] theorem State.railChanged_clock (s : State) (before after : PowerState) : (s.railChanged before after).clock = s.clock := by
  rcases s.railChanged_cases before after with ⟨_, _, h⟩ | ⟨_, _, h⟩ | ⟨_, h⟩ <;> rw [h] <;> simp [State.railUp]
@[simp] theorem State.railChanged_charge (s : State) (before after : PowerState) : (s.railChanged before after).charge = s.charge := by
  rcases s.railChanged_cases before after with ⟨_, _, h⟩ | ⟨_, _, h⟩ | ⟨_, h⟩ <;> rw [h] <;> simp [State.railUp]
@[simp] theorem State.railChanged_gauge (s : State) (before after : PowerState) : (s.railChanged before after).gauge = s.gauge := by
  rcases s.railChanged_cases before after with ⟨_, _, h⟩ | ⟨_, _, h⟩ | ⟨_, h⟩ <;> rw [h] <;> simp [State.railUp]
@[simp] theorem State.railChanged_options (s : State) (before after : PowerState) :
    (s.railChanged before after).options = s.options := by
  rcases s.railChanged_cases before after with ⟨_, _, h⟩ | ⟨_, _, h⟩ | ⟨_, h⟩ <;> rw [h] <;> simp [State.railUp]
@[simp] theorem State.railChanged_pending (s : State) (before after : PowerState) :
    (s.railChanged before after).pending = s.pending := by
  rcases s.railChanged_cases before after with ⟨_, _, h⟩ | ⟨_, _, h⟩ | ⟨_, h⟩ <;> rw [h] <;> simp [State.railUp]

theorem State.railChanged_standing (s : State) (before after : PowerState) :
    (s.railChanged before after).media.writer.standing = s.media.writer.standing := by
  rcases s.railChanged_cases before after with ⟨_, _, h⟩ | ⟨_, _, h⟩ | ⟨_, h⟩ <;> rw [h]
  · exact s.railOff_standing
  · rfl

/-- With the rail on after the change, the writer goes on as it is. -/
theorem State.railChanged_writer {s : State} (before : PowerState) {after : PowerState} (on : after.rail = true) :
    (s.railChanged before after).media.writer = s.media.writer := by
  rcases s.railChanged_cases before after with ⟨_, off, _⟩ | ⟨_, _, h⟩ | ⟨_, h⟩
  · rw [on] at off; cases off
  · rw [h]; rfl
  · rw [h]

/-! ### A change of power state -/

section
variable (s : State) (after : PowerState)

/-- The state before the reserve's test. -/
def State.changed : State :=
  (s.powerChanged after).railChanged s.power.state after

theorem State.setPower_changed : s.setPower after = (s.changed after).reserveTest := rfl

theorem State.changed_power : (s.changed after).power = s.power.change after s.options.fastSettle :=
  State.railChanged_power _ _ _

theorem State.changed_gauge : (s.changed after).gauge = s.gauge.cadence s.power.state after s.now :=
  State.railChanged_gauge _ _ _

theorem State.changed_options : (s.changed after).options = s.options :=
  State.railChanged_options _ _ _

@[simp] theorem State.setPower_clock : (s.setPower after).clock = s.clock.powerChange after := by
  rw [State.setPower_changed, State.reserveTest_clock, State.changed, State.railChanged_clock]
  rfl

@[simp] theorem State.setPower_charge : (s.setPower after).charge = s.charge := by
  rw [State.setPower_changed, State.reserveTest_charge, State.changed, State.railChanged_charge]
  rfl

@[simp] theorem State.setPower_options : (s.setPower after).options = s.options := by
  rw [State.setPower_changed, State.reserveTest_options, State.changed_options]

@[simp] theorem State.setPower_pending : (s.setPower after).pending = s.pending := by
  rw [State.setPower_changed, State.reserveTest_pending, State.changed, State.railChanged_pending]
  rfl

/-- RESERVE is issued by a change of power state: the change is to RUN and the test holds there. -/
theorem State.changed_issues_iff : (s.changed after).issuesReserve = true ↔
    (after = .run ∧ s.gauge.state ≠ .unset ∧ s.gauge.sourceSelected = false ∧
      s.gauge.q / (s.options.capacity : Int) ≤ s.gauge.reserveLevel) ∧ s.gauge.reserve = false := by
  rw [State.issuesReserve_iff, State.changed_power, State.changed_gauge, State.changed_options]
  simp only [Gauge.cadence, Power.change]
  tauto

theorem State.setPower_gauge : (s.setPower after).gauge = { s.gauge.cadence s.power.state after s.now with
    reserve := s.gauge.reserve || (s.changed after).issuesReserve } := by
  rw [State.setPower_changed, State.reserveTest_frame, State.changed_gauge]
  rfl

theorem State.setPower_power : (s.setPower after).power = { s.power.change after s.options.fastSettle with
    reserveHeld := s.power.reserveHeld || (s.changed after).issuesReserve } := by
  rw [State.setPower_changed, State.reserveTest_frame, State.changed_power]
  rfl

@[simp] theorem State.setPower_state : (s.setPower after).power.state = after := by
  rw [State.setPower_power]; rfl

theorem State.setPower_of_not_run (h : after ≠ .run) : s.setPower after = s.changed after := by
  rw [State.setPower_changed, State.reserveTest_of_not_run]
  rwa [State.changed_power]

end

@[simp] theorem Clock.powerChange_count (c : Clock) (after : PowerState) : (c.powerChange after).count = c.count := by
  have required : (c.require after.path).count = c.count := by
    unfold Clock.require
    split <;> rfl
  cases after <;> exact required

end Sys2Proof.Machine
end

section
/-! PROOFS. The reserve, the cut-off and CUTOFF (R174, R175, R184, R185). -/

namespace Sys2Proof.Machine

/-! ### The cut-off run at a measurement (R175) -/

/-- The reading is a low one: below the cut-off voltage with no source, the temperature being there. -/
def State.LowReading (s : State) (r : Readings) : Prop :=
  r.vbat < s.options.cutoffVoltage ∧ s.gauge.sourceSelected = false ∧ r.temperature.isSome = true

theorem State.cutoffTest_iff (s : State) (r : Readings) : s.gauge.cutoffTest s.options r = true ↔ s.LowReading r := by
  simp [Gauge.cutoffTest, State.LowReading, and_assoc]

/-- The cut-off run set. -/
def State.withCutoffRun (s : State) (n : Nat) : State :=
  { s with gauge := { s.gauge with cutoffRun := n } }

theorem State.cutoffStep_of_not_low {s : State} {r : Readings} (h : ¬s.LowReading r) : s.cutoffStep r = s.withCutoffRun 0 := by
  have test : s.gauge.cutoffTest s.options r = false := by
    rw [← Bool.not_eq_true, State.cutoffTest_iff]; exact h
  simp only [State.cutoffStep, Gauge.cutoffSent, test, Bool.false_and, Bool.false_eq_true, if_false, State.modGauge,
    Gauge.cutoffStep]
  rfl

theorem State.cutoffStep_of_low {s : State} {r : Readings} (h : s.LowReading r) :
    s.cutoffStep r = if s.gauge.cutoffRun = 1 then ((s.withCutoffRun 2).raise .gauge).cutoff
      else s.withCutoffRun (bump 2 s.gauge.cutoffRun) := by
  have test := (s.cutoffTest_iff r).2 h
  simp only [State.cutoffStep, Gauge.cutoffSent, test, Bool.true_and, decide_eq_true_eq, State.modGauge, Gauge.cutoffStep,
    if_true]
  by_cases second : s.gauge.cutoffRun = 1
  · rw [if_pos second, if_pos second, second]
    rfl
  · rw [if_neg second, if_neg second]
    rfl

/-! ### The reserve at a measurement and a report of the source (R174) -/

/-- The charge is above the level at which the reserve is cleared. -/
def State.AboveReserve (s : State) : Prop :=
  s.gauge.state ≠ .unset ∧ (s.gauge.reserveLevel : Int) + 20 < s.gauge.q / (s.options.capacity : Int)

theorem State.reserveClears_iff (s : State) : s.gauge.reserveClears s.options = true ↔ s.gauge.reserve = true ∧ s.AboveReserve := by
  rw [Gauge.reserveClears, Bool.and_eq_true, decide_eq_true_iff]
  rfl

theorem State.reserveStep_of_above {s : State} (held : s.gauge.reserve = true) (above : s.AboveReserve) :
    s.reserveStep = s.withoutReserve := by
  rw [State.reserveStep, if_pos (s.reserveClears_iff.2 ⟨held, above⟩), State.reserveClear_of_reserve held, State.reserveTest_of_not]
  rw [← Bool.not_eq_true, State.issuesReserve_iff]
  rintro ⟨⟨_, below, _⟩, _⟩
  have level : (s.gauge.reserveLevel : Int) + 20 < s.gauge.q / (s.options.capacity : Int) := above.2
  have low : s.gauge.q / (s.options.capacity : Int) ≤ (s.gauge.reserveLevel : Int) := below
  omega

theorem State.reserveStep_of_not_above {s : State} (held : s.gauge.reserve = true) (above : ¬s.AboveReserve) : s.reserveStep = s := by
  rw [State.reserveStep, if_neg fun clears => above (s.reserveClears_iff.1 clears).2, State.reserveTest_of_reserve held]

theorem State.reserveStep_of_not_held {s : State} (held : s.gauge.reserve = false) : s.reserveStep = s.reserveTest := by
  rw [State.reserveStep, if_neg fun clears => by rw [(s.reserveClears_iff.1 clears).1] at held; cases held]

/-- A source is selected: the cut-off run begins anew and the lock is off. -/
def State.withSource (s : State) : State :=
  { s with
    gauge := { s.gauge with sourceSelected := true, cutoffRun := 0 }
    power := { s.power with cutoffLock := false } }

theorem State.sourceReport_of_source {s : State} (h : s.charge.source ≠ .none) :
    s.sourceReport = if s.gauge.reserve then s.withoutReserve.withSource else s.withSource := by
  simp only [State.sourceReport, h, ne_eq, not_false_eq_true, decide_true, if_true]
  cases held : s.gauge.reserve with
  | true =>
    rw [State.reserveClear_of_reserve, State.reserveTest_of_source rfl]
    · rfl
    · exact held
  | false =>
    rw [State.reserveClear_of_not, State.reserveTest_of_source rfl]
    · rfl
    · exact held

theorem State.sourceReport_of_none {s : State} (h : s.charge.source = .none) :
    s.sourceReport = ({ s with gauge := { s.gauge with sourceSelected := false } } : State).reserveTest := by
  simp only [State.sourceReport, h, ne_eq, not_true_eq_false, decide_false, Bool.false_eq_true, if_false]
  rfl

/-! ### A change of power state at the reserve -/

theorem State.setPower_issues {s : State} {after : PowerState} (h : (s.changed after).issuesReserve = true) :
    let x := s.setPower after
    x.gauge.reserve = true ∧ x.power.reserveHeld = true ∧ x.media.writer.reserveHeld = true ∧
      x.media.exch.flagSet .gauge = true ∧ x.power.state = .run ∧
      (s.media.writer.state = .recording → x.media.writer.state = .closing ∧ x.media.writer.closeCause = some .reserve) := by
  have toRun : after = .run := ((s.changed_issues_iff after).1 h).1.1
  subst toRun
  rw [State.setPower_changed, State.reserveTest_of_issues h]
  refine ⟨rfl, rfl, State.withReserve_held _, Exchange.raise_flagSet _ _, ?_, fun recording => State.withReserve_closing ?_⟩
  · exact congrArg Power.state (s.changed_power .run)
  · exact (congrArg Writer.state (State.railChanged_writer _ rfl)).trans recording

theorem State.setPower_not_issues {s : State} {after : PowerState} (h : (s.changed after).issuesReserve = false) :
    let x := s.setPower after
    x.gauge.reserve = s.gauge.reserve ∧ x.power.reserveHeld = s.power.reserveHeld ∧
      x.media.writer.reserveHeld = s.media.writer.reserveHeld := by
  rw [State.setPower_changed, State.reserveTest_of_not h]
  dsimp only
  rw [State.changed_gauge, State.changed_power]
  exact ⟨rfl, rfl, Writer.reserveHeld_of_standing (State.railChanged_standing _ _ _)⟩

/-! ### CUTOFF (R184, R185) -/

theorem Media.shutdownClose_closing {m : Media} (env : Env) (h : m.writer.state = .recording) :
    (m.shutdownClose env).writer.state = .closing ∧ (m.shutdownClose env).writer.closeCause = some .shutdown :=
  Media.closeBegin_closing env .shutdown h

/-- SHUTTING is entered from RUN: the rail stays on, and the close begins. -/
theorem State.enterShutting_of_run {s : State} (cause : ShutdownCause) (h : s.power.state = .run) :
    let x := s.enterShutting cause
    x.power = { s.power with
      state := .shutting, cause := cause, closeTarget := some (stampAdd s.now (closeLimit s.power.reserveHeld cause))
      record := { s.power.record with lastShutdown := cause }, key := s.power.key.interrupt } ∧
      x.clock = s.clock.powerChange .shutting ∧ x.motion = s.motion ∧ x.integ = s.integ ∧ x.charge = s.charge ∧
      x.options = s.options ∧ x.media = s.media.shutdownClose s.env := by
  have stays (t : State) (ht : t.power.state = .run) : t.setPower .shutting = t.powerChanged .shutting := by
    rw [State.setPower_of_not_run t _ (by decide), State.changed, ht]
    rfl
  unfold State.enterShutting
  dsimp only
  rw [stays]
  · exact ⟨rfl, rfl, rfl, rfl, rfl, rfl, rfl⟩
  · exact h

theorem closeLimit_cutoff (reserveHeld : Bool) : closeLimit reserveHeld .cutoff = 1000000 := by
  cases reserveHeld <;> rfl

theorem Key.interrupt_hold (k : Key) : k.interrupt.hold = none := by
  unfold Key.interrupt
  split <;> rfl

theorem State.cutoff_of_run {s : State} (h : s.power.state = .run) :
    s.cutoff = ({ s with power := { s.power with cutoffLock := true } } : State).enterShutting .cutoff := by
  simp only [State.cutoff, State.modPower, h]

theorem State.cutoff_of_shutting {s : State} {t : Stamp} (h : s.power.state = .shutting) (target : s.power.closeTarget = some t) :
    s.cutoff = { s with power := { s.power with
      cutoffLock := true, closeTarget := some (stampMin t (stampAdd s.now 1000000)) } } := by
  simp only [State.cutoff, State.modPower, h, target]
  rfl

theorem State.cutoff_of_off {s : State} (h : s.power.state = .standby ∨ s.power.state = .waking ∨ s.power.state = .dormant) :
    s.cutoff = { s with power := { s.power with cutoffLock := true } } := by
  rcases h with h | h | h <;> simp only [State.cutoff, State.modPower, h]

theorem stampMin_eq (a b : Stamp) : stampMin a b = if 0 < (a - b).toInt then b else a := by
  unfold stampMin
  by_cases later : 0 < (a - b).toInt
  · rw [if_pos later, if_pos ((stampLater_iff a b).2 later)]
  · rw [if_neg later, if_neg fun x => later ((stampLater_iff a b).1 x)]

end Sys2Proof.Machine

namespace Sys2Proof.Proofs
open Sys2Proof.Machine

/-- Settles O42: the tests of the reserve and of the cut-off as they hold or fail, and CUTOFF in each power state. -/
theorem reserveAndCutoff : Obligations.ReserveAndCutoff := by
  refine ⟨?_, ?_, ?_, ?_⟩
  · intro s known low run off
    exact ⟨fun fresh => State.reserveTest_of_issues (s.issuesReserve_iff.2 ⟨⟨known, low, run, off⟩, fresh⟩),
      State.reserveTest_of_reserve⟩
  · intro s
    refine ⟨State.reserveStep_of_above, State.reserveStep_of_not_above, State.reserveStep_of_not_held, fun source => ?_,
      fun after => ?_, State.sourceReport_of_none⟩
    · have report := State.sourceReport_of_source source
      exact ⟨fun held => by rw [report, held]; rfl, fun fresh => by rw [report, fresh]; rfl⟩
    · refine ⟨fun fresh holds => State.setPower_issues ((s.changed_issues_iff after).2 ⟨holds, fresh⟩), fun not =>
        State.setPower_not_issues ?_⟩
      rw [← Bool.not_eq_true, State.changed_issues_iff]
      rintro ⟨holds, fresh⟩
      rcases not with held | fails
      · rw [held] at fresh; cases fresh
      · exact fails holds
  · intro s r
    refine ⟨State.cutoffStep_of_not_low, fun low zero => ?_, fun low one => ?_, fun low two => ?_⟩
    · rw [State.cutoffStep_of_low low, zero]; rfl
    · rw [State.cutoffStep_of_low low, if_pos one]; rfl
    · rw [State.cutoffStep_of_low low, two]; rfl
  · intro s
    refine ⟨fun run => ?_, fun t shutting target => ?_, State.cutoff_of_off⟩
    · obtain ⟨power, clock, motion, _, charge, _, media⟩ := State.enterShutting_of_run
        (s := { s with power := { s.power with cutoffLock := true } }) .cutoff run
      rw [State.cutoff_of_run run]
      dsimp only
      rw [power, clock, motion, charge, media, Clock.powerChange_count, closeLimit_cutoff]
      exact ⟨rfl, rfl, rfl, rfl, rfl, Key.interrupt_hold _, Media.shutdownClose_closing _, rfl, rfl, rfl⟩
    · rw [State.cutoff_of_shutting shutting target, stampMin_eq]
      rfl

end Sys2Proof.Proofs
end

section
/-! PROOFS. The Charge Controller's steps of a measurement, each by its table (R154 to R159, R161, R162, R164). -/

namespace Sys2Proof.Machine

section
variable (c : Charge) (o : ChargeOptions) (r : Readings) (stamp : Stamp)

/-! ### The states by what they do -/

/-- The total timer runs. -/
def Charge.Counting : Prop :=
  c.state = .precharge ∨ c.state = .fast ∨ c.state = .topoff

/-- Charging goes on, waits for its start or is complete. -/
def Charge.Active : Prop :=
  c.state = .qualify ∨ c.Counting ∨ c.state = .full

theorem Charge.counts_iff : counts c.state = true ↔ c.Counting := by
  unfold Charge.Counting
  cases c.state <;> simp [counts]

/-! ### The timers (R159) -/

theorem Charge.countTimers_of_counting (h : c.Counting) : c.countTimers stamp = { c with
    lastStamp := some stamp
    totalTimer := min 4294967295000 (c.totalTimer + c.lastStamp.elim 0 fun l => (stamp - l).toInt.toNat)
    prechargeTimer := if c.state = .precharge
      then min 4294967295000 (c.prechargeTimer + c.lastStamp.elim 0 fun l => (stamp - l).toInt.toNat) else c.prechargeTimer } := by
  have runs := c.counts_iff.2 h
  cases last : c.lastStamp <;> simp [Charge.countTimers, timerTop, stampDiff, last, runs]

theorem Charge.countTimers_of_not_counting (h : ¬c.Counting) : c.countTimers stamp = { c with lastStamp := some stamp } := by
  have stands : counts c.state = false := by rw [← Bool.not_eq_true, c.counts_iff]; exact h
  have other : c.state ≠ .precharge := fun same => h (.inl same)
  simp [Charge.countTimers, stands, other]

/-! ### Presence and band (R154, R157) -/

theorem Charge.presence_of_open (h : r.temperature = none) : c.presence r = { c with
    state := .noBattery, ic := 0, prechargeTimer := 0, totalTimer := 0, termination := none
    causes := ⟨false, false, false⟩, fault := .none } := by
  simp only [Charge.presence, h]
  rfl

theorem Charge.presence_of_found {t : Int} (h : r.temperature = some t) :
    c.presence r = if c.state = .noBattery then (if c.source = .none then c.enterIdle else c.enterQualify) else c := by
  simp only [Charge.presence, h]

theorem Charge.formBand_of_open (h : r.temperature = none) : c.formBand o r = c := by
  simp only [Charge.formBand, h]

theorem Charge.formBand_of_read {t : Int} (h : r.temperature = some t) :
    c.formBand o r = { c with band := bandOfTemperature o t } := by
  simp only [Charge.formBand, h]

/-! ### Suspension (R158) -/

theorem SuspendCauses.any_iff (k : SuspendCauses) : k.any = true ↔ k ≠ ⟨false, false, false⟩ := by
  obtain ⟨cold, hot, die⟩ := k
  cases cold <;> cases hot <;> cases die <;> simp [SuspendCauses.any]

theorem stopCauses_any_iff (b : TempBand) (die : Int) :
    (stopCauses b die).any = true ↔ b = .coldStop ∨ b = .hotStop ∨ 110 < die := by
  simp [stopCauses, SuspendCauses.any, or_assoc]

theorem Charge.suspend_of_active (h : c.Active) :
    c.suspend o r = if (stopCauses c.band r.die).any then
      { c with causes := stopCauses c.band r.die, returnState := some c.state, state := .suspended, ic := 0, termination := none }
      else c := by
  rcases h with h | (h | h | h) | h <;> simp only [Charge.suspend, h]

/-- The causes of a suspension after a reading of the temperature. -/
def Charge.nextCauses (t : Int) : SuspendCauses :=
  ⟨c.causes.cold && decide (t < o.t1 + 3) || decide (c.band = .coldStop),
    c.causes.hot && decide (o.t4 - 3 < t) || decide (c.band = .hotStop),
    c.causes.die && decide (100 < r.die) || decide (110 < r.die)⟩

theorem Charge.suspend_of_suspended {t : Int} (read : r.temperature = some t) (h : c.state = .suspended) :
    c.suspend o r = if (c.nextCauses o r t).any then { c with causes := c.nextCauses o r t }
      else { c with causes := c.nextCauses o r t, state := c.returnState.getD .qualify } := by
  simp only [Charge.suspend, h, read, Option.getD_some]
  rfl

/-! ### Overvoltage and the timer limits (R159) -/

theorem Charge.overvoltage_of_watched (h : c.Active ∨ c.state = .suspended) :
    c.overvoltage o r = if o.vreg + 150 < r.vbat then c.enterFault .overvolt else c := by
  rcases h with (h | (h | h | h) | h) | h <;> simp only [Charge.overvoltage, h]

theorem Charge.overvoltage_of_unwatched (h : ¬(c.Active ∨ c.state = .suspended)) : c.overvoltage o r = c := by
  unfold Charge.overvoltage
  cases state : c.state
  case noBattery | idle | fault => rfl
  all_goals simp [Charge.Active, Charge.Counting, state] at h

/-- A timer limit is spent. -/
def Charge.Spent : Prop :=
  (c.state = .precharge ∧ o.prechargeMinutes * 60000000 ≤ c.prechargeTimer) ∨
    (c.Counting ∧ o.totalMinutes * 60000000 ≤ c.totalTimer)

theorem Charge.timerLimits_of_spent (h : c.Spent o) : c.timerLimits o = c.enterFault .timer :=
  if_pos (h.imp_right (And.imp_left c.counts_iff.2))

theorem Charge.timerLimits_of_unspent (h : ¬c.Spent o) : c.timerLimits o = c :=
  if_neg fun spent => h (spent.imp_right (And.imp_left c.counts_iff.1))

/-! ### Progress (R155, R156) -/

theorem effectiveVreg_eq (b : TempBand) : effectiveVreg o b = if b = .warm then o.vreg - 100 else o.vreg := by
  cases b <;> rfl

/-- The termination test's conditions. -/
def Charge.Meets (current : Int) : Prop :=
  current ≤ o.terminationCurrent ∧ effectiveVreg o c.band ≤ r.vbat + 20 ∧ r.inputCurrent ≤ (c.inputLimit o : Int) ∧
    c.sagThreshold o ≤ c.vin r

theorem Charge.strained_iff : c.strained o r = true ↔ (c.inputLimit o : Int) < r.inputCurrent ∨ c.vin r < c.sagThreshold o :=
  decide_eq_true_iff

theorem Charge.terminates_iff (current : Int) : c.terminates o current r = true ↔ c.Meets o r current := by
  have calm : c.strained o r = false ↔ r.inputCurrent ≤ (c.inputLimit o : Int) ∧ c.sagThreshold o ≤ c.vin r := by
    rw [← Bool.not_eq_true, Charge.strained_iff]
    omega
  rw [Charge.terminates, Bool.and_eq_true, decide_eq_true_iff, Bool.not_eq_true', calm, and_assoc]
  rfl

theorem Charge.progress_of_topoff (current : Int) (h : c.state = .topoff) : c.progress o current r stamp =
    if c.terminates o current r then
      if 60000000 ≤ stampDiff stamp (c.termination.getD stamp) then
        { c with termination := some (c.termination.getD stamp), state := .full, ic := 0 }
      else { c with termination := some (c.termination.getD stamp) }
    else { c with termination := none } := by
  simp only [Charge.progress, h]

section topoff
variable {current : Int}

theorem Charge.progress_of_not_meets (h : c.state = .topoff) (fails : ¬c.Meets o r current) :
    c.progress o current r stamp = { c with termination := none } := by
  rw [Charge.progress_of_topoff _ _ _ _ _ h, if_neg fun x => fails ((c.terminates_iff o r current).1 x)]

theorem Charge.progress_of_first (h : c.state = .topoff) (meets : c.Meets o r current) (first : c.termination = none) :
    c.progress o current r stamp = { c with termination := some stamp } := by
  have noTime : ¬(60000000 : Int) ≤ stampDiff stamp stamp := by simp [stampDiff]
  rw [Charge.progress_of_topoff _ _ _ _ _ h, if_pos ((c.terminates_iff o r current).2 meets), first, Option.getD_none,
    if_neg noTime]

theorem Charge.progress_of_waiting {start : Stamp} (h : c.state = .topoff) (meets : c.Meets o r current)
    (since : c.termination = some start) (short : stampDiff stamp start < 60000000) : c.progress o current r stamp = c := by
  rw [Charge.progress_of_topoff _ _ _ _ _ h, if_pos ((c.terminates_iff o r current).2 meets), since, Option.getD_some,
    if_neg (not_le.2 short), ← since]

theorem Charge.progress_of_complete {start : Stamp} (h : c.state = .topoff) (meets : c.Meets o r current)
    (since : c.termination = some start) (long : 60000000 ≤ stampDiff stamp start) :
    c.progress o current r stamp = { c with state := .full, ic := 0 } := by
  rw [Charge.progress_of_topoff _ _ _ _ _ h, if_pos ((c.terminates_iff o r current).2 meets), since, Option.getD_some,
    if_pos long, ← since]

end topoff

theorem Charge.progress_of_rest (current : Int)
    (h : c.state = .noBattery ∨ c.state = .idle ∨ c.state = .suspended ∨ c.state = .fault) : c.progress o current r stamp = c := by
  rcases h with h | h | h | h <;> simp only [Charge.progress, h]

/-! ### The cap and the step (R161, R162, R164) -/

theorem stateCap_eq (st : ChargeState) :
    stateCap o st = if st = .precharge then o.prechargeCurrent else if st = .fast ∨ st = .topoff then o.icc else 0 := by
  cases st <;> rfl

theorem bandCap_eq (b : TempBand) (cap : Nat) :
    bandCap b cap = if b = .normal then cap else if b = .cool ∨ b = .warm then cap / 2 else 0 := by
  cases b <;> rfl

theorem Charge.inputs_of_usb (h : c.source = .usb) : c.inputLimit o = c.usbLimit ∧ c.sagThreshold o = 4500 ∧ c.vin r = r.vinUsb := by
  simp [Charge.inputLimit, Charge.sagThreshold, Charge.vin, h]

theorem Charge.inputs_of_aux (h : c.source = .aux) :
    c.inputLimit o = o.auxLimit ∧ c.sagThreshold o = o.auxSag ∧ c.vin r = r.vinAux := by
  simp [Charge.inputLimit, Charge.sagThreshold, Charge.vin, h]

theorem Charge.steppedCurrent_eq : c.steppedCurrent o r =
    let moved := if (c.inputLimit o : Int) < r.inputCurrent ∨ c.vin r < c.sagThreshold o then c.ic - 100
      else if r.inputCurrent + 100 ≤ (c.inputLimit o : Int) ∧ c.sagThreshold o + 200 ≤ c.vin r ∧
        (c.state = .topoff → r.vbat + 20 < effectiveVreg o c.band) then c.ic + 50 else c.ic
    if c.state = .topoff ∧ effectiveVreg o c.band < r.vbat then moved - 50 else moved := by
  simp only [Charge.steppedCurrent, Charge.strained_iff]

theorem Charge.news_iff (d : Charge) : c.news d = true ↔ c.usb.state ≠ d.usb.state ∨ c.aux.state ≠ d.aux.state ∨
    c.source ≠ d.source ∨ c.state ≠ d.state :=
  decide_eq_true_iff

end

/-! ### The gauge's work and its order (R170 to R173) -/

section
variable (g : Gauge) (o : ChargeOptions) (r : Readings) (stamp : Stamp) (full : Bool)

/-- GAUGE is raised by an estimate, by FULL and by the empty anchor. -/
def Gauge.Raises : Prop :=
  full = true ∨ (r.temperature.isSome = true ∧ (g.state = .unset ∨ g.wasOpen = true ∨
    (r.vbat ≤ o.emptyVoltage ∧ batteryCurrent r < 0)))

theorem Gauge.news_iff : (full || g.news o r) = true ↔ g.Raises o r full := by
  have estimates := Gauge.estimates_iff (g := g) (r := r)
  have empty : emptyTest o r = true ↔ r.temperature.isSome = true ∧ r.vbat ≤ o.emptyVoltage ∧ batteryCurrent r < 0 := by
    rw [emptyTest, Bool.and_eq_true, decide_eq_true_iff]
  rw [Bool.or_eq_true, Gauge.news, Bool.or_eq_true, estimates, empty, Gauge.Raises]
  tauto

/-- What the gauge keeps of itself through its work on a measurement. -/
def Gauge.kept (g : Gauge) : Gauge :=
  { g with q := 0, carry := 0, remainder := 0, state := .unset, wasOpen := false, lastStamp := none }

theorem Gauge.countMeasurement_kept : (g.countMeasurement o r stamp).kept = g.kept := by
  unfold Gauge.countMeasurement
  dsimp only
  split
  · rfl
  · split
    · rfl
    · rw [Gauge.count_frame]
      rfl

theorem Gauge.account_kept : (g.account o r stamp).kept = g.kept := by
  have counted := g.countMeasurement_kept o r stamp
  unfold Gauge.account
  dsimp only
  split <;> split
  · rfl
  · exact counted
  · rfl
  · exact counted

theorem Gauge.fullIf_kept : (g.fullIf o full).kept = g.kept := by
  unfold Gauge.fullIf
  split <;> rfl

theorem Gauge.work_kept (first : Bool) : (g.work o r stamp full first).1.kept = g.kept := by
  unfold Gauge.work
  split
  · rw [Gauge.fullIf_kept, Gauge.account_kept]
  · rw [Gauge.account_kept, Gauge.fullIf_kept]

end

end Sys2Proof.Machine
end

section
/-! PROOFS. GAUGE_MEASUREMENT (R163, R169 to R175, R180). -/

namespace Sys2Proof.Machine

/-! ### The cadence (R169) -/

/-- A measurement's time has come. -/
def State.MeasurementDue (s : State) : Prop :=
  match s.gauge.next with
  | none => s.clock.count ≠ 0
  | some t => 0 ≤ (s.clock.count - t).toInt

theorem State.measurementDue_iff (s : State) : s.gauge.due s.now = true ↔ s.MeasurementDue := by
  unfold Gauge.due State.MeasurementDue
  cases s.gauge.next with
  | none => exact decide_eq_true_iff
  | some t => exact reached_iff s.now t 0

theorem Gauge.cadence_next (g : Gauge) {before after : PowerState} (now : Stamp) (h : before ≠ .dormant ∨ after ≠ .waking) :
    (g.cadence before after now).next = g.next :=
  if_neg fun both => h.elim (fun x => x both.1) fun x => x both.2

theorem Gauge.cadence_next_waking (g : Gauge) {before after : PowerState} (now : Stamp) (h : before = .dormant ∧ after = .waking) :
    (g.cadence before after now).next = g.next.map fun t => stampMin t (stampAdd now 250000) :=
  if_pos h

/-! ### The state once both blocks have taken the readings -/

/-- The Charge Controller's and the gauge's part, with the flags they raise. -/
def State.marked (s : State) (c : Charge) (g : Gauge) (news : Bool) : State :=
  (({ s with charge := c, gauge := g } : State).raiseIf (s.charge.news c) .charge).raiseIf news .gauge

section
variable (s : State) (c : Charge) (g : Gauge) (news : Bool)

theorem State.marked_eq : s.marked c g news = { s with
    charge := c, gauge := g, media := (s.marked c g news).media } := by
  rw [State.marked, State.raiseIf_eq, State.raiseIf_eq]

@[simp] theorem State.marked_charge : (s.marked c g news).charge = c := by rw [State.marked_eq]
@[simp] theorem State.marked_gauge : (s.marked c g news).gauge = g := by rw [State.marked_eq]
@[simp] theorem State.marked_power : (s.marked c g news).power = s.power := by rw [State.marked_eq]
@[simp] theorem State.marked_options : (s.marked c g news).options = s.options := by rw [State.marked_eq]
@[simp] theorem State.marked_clock : (s.marked c g news).clock = s.clock := by rw [State.marked_eq]
@[simp] theorem State.marked_writer : (s.marked c g news).media.writer = s.media.writer := by
  rw [State.marked, State.raiseIf_eq, State.raiseIf_eq]

theorem State.marked_withCutoffRun (n : Nat) :
    (s.marked c g news).withCutoffRun n = s.marked c { g with cutoffRun := n } news := by
  rw [State.marked, State.marked, State.raiseIf_eq, State.raiseIf_eq, State.raiseIf_eq, State.raiseIf_eq]
  rfl

end

/-! ### An empty battery (R180) -/

/-- The battery is empty with no source, in STANDBY. -/
def State.Empties (s : State) : Prop :=
  s.power.state = .standby ∧ s.charge.source = .none ∧ s.gauge.state ≠ .unset ∧ s.gauge.q / (s.options.capacity : Int) = 0

theorem State.emptyStep_of_empties {s : State} (h : s.Empties) : s.emptyStep = s.setPower .dormant :=
  if_pos h

theorem State.emptyStep_of_not {s : State} (h : ¬s.Empties) : s.emptyStep = s :=
  if_neg h

/-- With a reading that is not a low one and a battery that is not empty, the run of low ones ends and nothing else follows. -/
theorem State.steps_of_quiet {s t : State} {r : Readings} (reserve : s.reserveStep = t) (low : ¬t.LowReading r)
    (empty : ¬t.Empties) : ((s.reserveStep).cutoffStep r).emptyStep = t.withCutoffRun 0 := by
  rw [reserve, State.cutoffStep_of_not_low low, State.emptyStep_of_not]
  exact empty

/-! ### The measurement -/

section
variable (s : State) (r : Readings) (first : Bool)

/-- The gauge as it takes the readings in. -/
def State.gaugeTaking : Gauge :=
  { s.gauge with
    next := some (stampAdd (s.gauge.next.getD s.clock.count) (if s.gauge.slowCadence then 8000000 else 250000 : Nat))
    last := some ⟨clampReadings r, s.clock.count⟩
    reserveLevel := s.options.reserve }

/-- The Charge Controller after the measurement. -/
def State.chargeAfter : Charge :=
  s.charge.measure s.options (clampReadings r) s.clock.count

/-- The gauge's work on the measurement. -/
def State.worked : Gauge × Bool :=
  (s.gaugeTaking r).work s.options (clampReadings r) s.clock.count
    (decide ((s.chargeAfter r).state = .full ∧ s.charge.state ≠ .full)) first

/-- The state once the gauge stands as given and the flags are raised. -/
def State.done (g : Gauge) : State :=
  s.marked (s.chargeAfter r) g (s.worked r first).2

theorem State.measured_clampReadings : s.measured (clampReadings r) first = s.done r first (s.worked r first).1 := rfl

theorem exec_gaugeMeasurement_of_due (due : s.MeasurementDue) : exec (.gaugeMeasurement r first) s =
    .next ((((s.done r first (s.worked r first).1).reserveStep).cutoffStep (clampReadings r)).emptyStep).settle := by
  show Host.Outcome.next (s.measurement r first).settle = _
  rw [State.measurement, if_pos (s.measurementDue_iff.2 due)]
  rfl

theorem exec_gaugeMeasurement_of_not_due (early : ¬s.MeasurementDue) : exec (.gaugeMeasurement r first) s = .next s.settle := by
  show Host.Outcome.next (s.measurement r first).settle = _
  rw [State.measurement, if_neg fun due => early (s.measurementDue_iff.1 due)]

theorem State.worked_kept : (s.worked r first).1.kept = (s.gaugeTaking r).kept :=
  Gauge.work_kept _ _ _ _ _ _

theorem State.worked_sourceSelected : (s.worked r first).1.sourceSelected = s.gauge.sourceSelected :=
  show (s.worked r first).1.kept.sourceSelected = _ by rw [State.worked_kept]; rfl

theorem State.worked_reserve : (s.worked r first).1.reserve = s.gauge.reserve :=
  show (s.worked r first).1.kept.reserve = _ by rw [State.worked_kept]; rfl

theorem State.worked_reserveLevel : (s.worked r first).1.reserveLevel = s.options.reserve :=
  show (s.worked r first).1.kept.reserveLevel = _ by rw [State.worked_kept]; rfl

theorem Charge.measure_source : (s.chargeAfter r).source = s.charge.source :=
  congrArg (fun x : InputUnit × InputUnit × Source => x.2.2)
    (s.charge.measure_selection s.options (clampReadings r) s.clock.count)

/-- A reading is a low one, as the statement has it. -/
theorem State.done_low_iff (g : Gauge) (h : g.sourceSelected = s.gauge.sourceSelected) :
    (s.done r first g).LowReading (clampReadings r) ↔
      s.gauge.sourceSelected = false ∧ r.vbat < s.options.cutoffVoltage ∧ r.temperature.isSome = true := by
  rw [State.LowReading, State.done, State.marked_options, State.marked_gauge, h]
  exact and_left_comm

theorem State.done_empties_iff (g : Gauge) : (s.done r first g).Empties ↔
    s.power.state = .standby ∧ s.charge.source = .none ∧ g.state ≠ .unset ∧ g.q / (s.options.capacity : Int) = 0 := by
  rw [State.Empties, State.done, State.marked_options, State.marked_gauge, State.marked_power, State.marked_charge,
    Charge.measure_source]

theorem State.done_issues_iff : (s.done r first (s.worked r first).1).issuesReserve = true ↔
    ((s.worked r first).1.state ≠ .unset ∧ (s.worked r first).1.q / (s.options.capacity : Int) ≤ s.options.reserve ∧
      s.power.state = .run ∧ s.gauge.sourceSelected = false) ∧ s.gauge.reserve = false := by
  rw [State.issuesReserve_iff, State.done, State.marked_options, State.marked_gauge, State.marked_power,
    State.worked_sourceSelected, State.worked_reserve, State.worked_reserveLevel]

theorem State.done_above_iff : (s.done r first (s.worked r first).1).AboveReserve ↔
    (s.worked r first).1.state ≠ .unset ∧ (s.options.reserve : Int) + 20 < (s.worked r first).1.q / (s.options.capacity : Int) := by
  rw [State.AboveReserve, State.done, State.marked_options, State.marked_gauge, State.worked_reserveLevel]

theorem State.done_reserve : (s.done r first (s.worked r first).1).gauge.reserve = s.gauge.reserve := by
  rw [State.done, State.marked_gauge, State.worked_reserve]

end

section
variable {s : State} {r : Readings} {first : Bool}

/-- The run of low readings ends and nothing else follows. -/
theorem exec_gaugeMeasurement_quiet (due : s.MeasurementDue)
    (reserve : (s.done r first (s.worked r first).1).reserveStep = s.done r first (s.worked r first).1)
    (low : ¬(s.gauge.sourceSelected = false ∧ r.vbat < s.options.cutoffVoltage ∧ r.temperature.isSome = true))
    (empty : ¬(s.power.state = .standby ∧ s.charge.source = .none ∧ (s.worked r first).1.state ≠ .unset ∧
      (s.worked r first).1.q / (s.options.capacity : Int) = 0)) :
    exec (.gaugeMeasurement r first) s = .next (s.done r first { (s.worked r first).1 with cutoffRun := 0 }).settle := by
  have sourceSame := s.worked_sourceSelected r first
  rw [exec_gaugeMeasurement_of_due s r first due, State.steps_of_quiet reserve
    (fun x => low ((s.done_low_iff r first _ sourceSame).1 x)) fun x => empty ((s.done_empties_iff r first _).1 x)]
  rw [State.done, State.marked_withCutoffRun]
  rfl

theorem State.done_reserveStep_of_not_issued (fresh : s.gauge.reserve = false)
    (not : ¬((s.worked r first).1.state ≠ .unset ∧ (s.worked r first).1.q / (s.options.capacity : Int) ≤ s.options.reserve ∧
      s.power.state = .run ∧ s.gauge.sourceSelected = false)) :
    (s.done r first (s.worked r first).1).reserveStep = s.done r first (s.worked r first).1 := by
  rw [State.reserveStep_of_not_held ((s.done_reserve r first).trans fresh), State.reserveTest_of_not]
  rw [← Bool.not_eq_true, State.done_issues_iff]
  exact fun issues => not issues.1

/-- RESERVE is issued at the measurement. -/
theorem exec_gaugeMeasurement_issues (due : s.MeasurementDue) (run : s.power.state = .run)
    (fresh : s.gauge.reserve = false) (off : s.gauge.sourceSelected = false) (known : (s.worked r first).1.state ≠ .unset)
    (level : (s.worked r first).1.q / (s.options.capacity : Int) ≤ s.options.reserve) (high : s.options.cutoffVoltage ≤ r.vbat) :
    ∃ x : State, exec (.gaugeMeasurement r first) s = .next x.settle ∧ x.charge = s.chargeAfter r ∧
      x.gauge = { (s.worked r first).1 with reserve := true, cutoffRun := 0 } ∧ x.power = { s.power with reserveHeld := true } ∧
      x.media.writer.reserveHeld = true ∧ x.media.exch.flagSet .gauge = true ∧
      (s.media.writer.state = .recording →
        x.media.writer.state = .closing ∧ x.media.writer.closeCause = some .reserve) := by
  have held : (s.done r first (s.worked r first).1).reserveStep = (s.done r first (s.worked r first).1).withReserve := by
    rw [State.reserveStep_of_not_held ((s.done_reserve r first).trans fresh),
      State.reserveTest_of_issues ((s.done_issues_iff r first).2 ⟨⟨known, level, run, off⟩, fresh⟩)]
  have sourceSame := s.worked_sourceSelected r first
  have notLow : ¬(s.done r first (s.worked r first).1).withReserve.LowReading (clampReadings r) := fun low =>
    absurd ((s.done_low_iff r first _ sourceSame).1 low).2.1 (not_lt.2 high)
  have notEmpty : ¬(s.done r first (s.worked r first).1).withReserve.Empties := fun empty =>
    absurd (run.symm.trans ((s.done_empties_iff r first _).1 ⟨empty.1, empty.2⟩).1) (by decide)
  refine ⟨(s.done r first (s.worked r first).1).withReserve.withCutoffRun 0, ?_, s.marked_charge _ _ _, ?_, ?_,
    State.withReserve_held _, Exchange.raise_flagSet _ _, fun recording => State.withReserve_closing ?_⟩
  · rw [exec_gaugeMeasurement_of_due s r first due, State.steps_of_quiet held notLow notEmpty]
  · show { { (s.done r first (s.worked r first).1).gauge with reserve := true } with cutoffRun := 0 } = _
    rw [State.done, State.marked_gauge]
  · show { (s.done r first (s.worked r first).1).power with reserveHeld := true } = _
    rw [State.done, State.marked_power]
  · rw [State.done, State.marked_writer]
    exact recording

/-- The reserve is cleared at the measurement. -/
theorem exec_gaugeMeasurement_clears (due : s.MeasurementDue) (held : s.gauge.reserve = true)
    (above : (s.worked r first).1.state ≠ .unset ∧
      (s.options.reserve : Int) + 20 < (s.worked r first).1.q / (s.options.capacity : Int))
    (low : ¬(s.gauge.sourceSelected = false ∧ r.vbat < s.options.cutoffVoltage ∧ r.temperature.isSome = true))
    (empty : ¬(s.power.state = .standby ∧ s.charge.source = .none ∧ (s.worked r first).1.state ≠ .unset ∧
      (s.worked r first).1.q / (s.options.capacity : Int) = 0)) :
    ∃ x : State, exec (.gaugeMeasurement r first) s = .next x.settle ∧ x.charge = s.chargeAfter r ∧
      x.gauge = { (s.worked r first).1 with reserve := false, cutoffRun := 0 } ∧ x.power = { s.power with reserveHeld := false } ∧
      x.media.writer = { s.media.writer with reserveHeld := false } ∧ x.media.exch.flagSet .gauge = true := by
  have cleared := State.reserveStep_of_above ((s.done_reserve r first).trans held) ((s.done_above_iff r first).2 above)
  have sourceSame := s.worked_sourceSelected r first
  have notLow : ¬(s.done r first (s.worked r first).1).withoutReserve.LowReading (clampReadings r) := fun x =>
    low ((s.done_low_iff r first _ sourceSame).1 x)
  have notEmpty : ¬(s.done r first (s.worked r first).1).withoutReserve.Empties := fun x =>
    empty ((s.done_empties_iff r first _).1 ⟨x.1, x.2⟩)
  refine ⟨(s.done r first (s.worked r first).1).withoutReserve.withCutoffRun 0, ?_, s.marked_charge _ _ _, ?_, ?_, ?_,
    Exchange.raise_flagSet _ _⟩
  · rw [exec_gaugeMeasurement_of_due s r first due, State.steps_of_quiet cleared notLow notEmpty]
  · show { { (s.done r first (s.worked r first).1).gauge with reserve := false } with cutoffRun := 0 } = _
    rw [State.done, State.marked_gauge]
  · show { (s.done r first (s.worked r first).1).power with reserveHeld := false } = _
    rw [State.done, State.marked_power]
  · show { (s.done r first (s.worked r first).1).media.writer with reserveHeld := false } = _
    rw [State.done, State.marked_writer]

/-- An empty battery sends STANDBY to DORMANT. -/
theorem exec_gaugeMeasurement_empty (due : s.MeasurementDue) (fresh : s.gauge.reserve = false)
    (standby : s.power.state = .standby) (none : s.charge.source = .none) (known : (s.worked r first).1.state ≠ .unset)
    (level : (s.worked r first).1.q / (s.options.capacity : Int) = 0) (high : s.options.cutoffVoltage ≤ r.vbat) :
    ∃ x : State, exec (.gaugeMeasurement r first) s = .next x.settle ∧ x.power.state = .dormant ∧ x.charge = s.chargeAfter r ∧
      x.gauge.q = (s.worked r first).1.q ∧ x.gauge.slowCadence = true ∧ x.clock.count = s.clock.count := by
  have asleep : ¬((s.worked r first).1.state ≠ .unset ∧
      (s.worked r first).1.q / (s.options.capacity : Int) ≤ s.options.reserve ∧ s.power.state = .run ∧
      s.gauge.sourceSelected = false) := fun x => by rw [standby] at x; cases x.2.2.1
  have reserve := State.done_reserveStep_of_not_issued (r := r) (first := first) fresh asleep
  have sourceSame := s.worked_sourceSelected r first
  have notLow : ¬(s.done r first (s.worked r first).1).LowReading (clampReadings r) := fun low =>
    absurd ((s.done_low_iff r first _ sourceSame).1 low).2.1 (not_lt.2 high)
  have empties : ((s.done r first (s.worked r first).1).withCutoffRun 0).Empties :=
    (s.done_empties_iff r first (s.worked r first).1).2 ⟨standby, none, known, level⟩
  refine ⟨((s.done r first (s.worked r first).1).withCutoffRun 0).setPower .dormant, ?_, State.setPower_state _ _, ?_, ?_, ?_, ?_⟩
  · rw [exec_gaugeMeasurement_of_due s r first due, reserve, State.cutoffStep_of_not_low notLow, State.emptyStep_of_empties empties]
  · rw [State.setPower_charge]
    exact s.marked_charge _ _ _
  · rw [State.setPower_gauge]
    show (s.done r first (s.worked r first).1).gauge.q = _
    rw [State.done, State.marked_gauge]
  · rw [State.setPower_gauge]
    rfl
  · rw [State.setPower_clock, Clock.powerChange_count]
    show (s.done r first (s.worked r first).1).clock.count = _
    rw [State.done, State.marked_clock]

end

end Sys2Proof.Machine
end

section
/-! PROOFS. What GAUGE_MEASUREMENT does, settled. -/

namespace Sys2Proof.Machine

/-- What the gauge takes of a change of power state. -/
theorem State.setPower_cadence (s : State) (after : PowerState) :
    let g := (s.setPower after).gauge
    g.slowCadence = decide (after = .dormant) ∧
    (s.power.state ≠ .dormant ∨ after ≠ .waking → g.next = s.gauge.next) ∧
    (s.power.state = .dormant → after = .waking → s.gauge.next = none → g.next = none) ∧
    (∀ t : Stamp, s.power.state = .dormant → after = .waking → s.gauge.next = some t →
      let soon := stampAdd s.clock.count 250000
      g.next = some (if 0 < (t - soon).toInt then soon else t)) := by
  have next : (s.setPower after).gauge.next = (s.gauge.cadence s.power.state after s.now).next := by rw [State.setPower_gauge]
  refine ⟨?_, fun other => ?_, fun asleep wakes none => ?_, fun t asleep wakes target => ?_⟩
  · rw [State.setPower_gauge]
    cases after <;> rfl
  · rw [next, Gauge.cadence_next _ _ other]
  · rw [next, Gauge.cadence_next_waking _ _ ⟨asleep, wakes⟩, none]
    rfl
  · rw [next, Gauge.cadence_next_waking _ _ ⟨asleep, wakes⟩, target, Option.map_some, stampMin_eq]
    rfl

section
variable (c : Charge) (o : ChargeOptions) (r : Readings) (stamp : Stamp)

theorem Charge.presence_spec {t : Int} (read : r.temperature = some t) :
    (c.state ≠ .noBattery → c.presence r = c) ∧
    (c.state = .noBattery → c.source = .none → c.presence r = { c with
      state := .idle, fault := .none, causes := ⟨false, false, false⟩ }) ∧
    (c.state = .noBattery → c.source ≠ .none → c.presence r = { c with
      state := .qualify, ic := 0, totalTimer := 0, termination := none }) := by
  rw [c.presence_of_found r read]
  exact ⟨fun known => if_neg known, fun none off => by rw [if_pos none, if_pos off]; rfl,
    fun none on => by rw [if_pos none, if_neg on]; rfl⟩

theorem Charge.suspended_spec {t : Int} (read : r.temperature = some t) :
    (c.state = .suspended → c.nextCauses o r t ≠ ⟨false, false, false⟩ → c.suspend o r = { c with causes := c.nextCauses o r t }) ∧
    (∀ st : ChargeState, c.state = .suspended → c.nextCauses o r t = ⟨false, false, false⟩ → c.returnState = some st →
      c.suspend o r = { c with causes := c.nextCauses o r t, state := st }) := by
  refine ⟨fun held some_ => ?_, fun st held none back => ?_⟩
  · rw [c.suspend_of_suspended o r read held, if_pos ((SuspendCauses.any_iff _).2 some_)]
  · rw [c.suspend_of_suspended o r read held, if_neg fun any => (SuspendCauses.any_iff _).1 any none, back, Option.getD_some]

theorem Charge.active_spec :
    let stop := c.band = .coldStop ∨ c.band = .hotStop ∨ 110 < r.die
    (c.Active → stop → c.suspend o r = { c with
      causes := ⟨decide (c.band = .coldStop), decide (c.band = .hotStop), decide (110 < r.die)⟩
      returnState := some c.state, state := .suspended, ic := 0, termination := none }) ∧
    (c.Active → ¬stop → c.suspend o r = c) := by
  refine ⟨fun active stop => ?_, fun active go => ?_⟩
  · rw [c.suspend_of_active o r active, if_pos ((stopCauses_any_iff _ _).2 stop)]
    rfl
  · rw [c.suspend_of_active o r active, if_neg fun any => go ((stopCauses_any_iff _ _).1 any)]

theorem Charge.overvoltage_spec :
    (c.Active ∨ c.state = .suspended → o.vreg + 150 < r.vbat → c.overvoltage o r = c.enterFault .overvolt) ∧
    (¬(c.Active ∨ c.state = .suspended) ∨ r.vbat ≤ o.vreg + 150 → c.overvoltage o r = c) := by
  refine ⟨fun watched high => ?_, fun free => ?_⟩
  · rw [c.overvoltage_of_watched o r watched, if_pos high]
  · by_cases watched : c.Active ∨ c.state = .suspended
    · rw [c.overvoltage_of_watched o r watched, if_neg (not_lt.2 (free.resolve_left (not_not_intro watched)))]
    · exact c.overvoltage_of_unwatched o r watched

theorem Charge.progress_spec (current : Int) :
    let v := effectiveVreg o c.band
    (c.state = .qualify → c.progress o current r stamp =
      if r.vbat < 3000 then { c with state := .precharge, prechargeTimer := 0 } else { c with state := .fast }) ∧
    (c.state = .precharge → c.progress o current r stamp = if 3000 ≤ r.vbat then { c with state := .fast } else c) ∧
    (c.state = .fast → c.progress o current r stamp = if v ≤ r.vbat then { c with state := .topoff } else c) ∧
    (c.state = .topoff →
      (¬c.Meets o r current → c.progress o current r stamp = { c with termination := none }) ∧
      (c.Meets o r current → c.termination = none → c.progress o current r stamp = { c with termination := some stamp }) ∧
      (∀ start : Stamp, c.Meets o r current → c.termination = some start → (stamp - start).toInt < 60000000 →
        c.progress o current r stamp = c) ∧
      (∀ start : Stamp, c.Meets o r current → c.termination = some start → 60000000 ≤ (stamp - start).toInt →
        c.progress o current r stamp = { c with state := .full, ic := 0 })) ∧
    (c.state = .full → c.progress o current r stamp =
      if r.vbat + 100 < v then { c with state := .fast, totalTimer := 0, termination := none } else c) ∧
    (c.state = .noBattery ∨ c.state = .idle ∨ c.state = .suspended ∨ c.state = .fault →
      c.progress o current r stamp = c) := by
  refine ⟨fun h => ?_, fun h => ?_, fun h => ?_, fun h => ⟨c.progress_of_not_meets o r stamp h, c.progress_of_first o r stamp h,
    fun _ => c.progress_of_waiting o r stamp h, fun _ => c.progress_of_complete o r stamp h⟩, fun h => ?_,
    c.progress_of_rest o r stamp current⟩ <;>
    simp only [Charge.progress, h]

theorem Charge.recap_spec :
    let own := if c.state = .precharge then o.prechargeCurrent else if c.state = .fast ∨ c.state = .topoff then o.icc else 0
    let banded := if c.band = .normal then own else if c.band = .cool ∨ c.band = .warm then own / 2 else 0
    let cap := if c.recording then min banded o.recordingCap else banded
    c.recap o = { c with cap := cap, ic := min c.ic cap } := by
  simp only [Charge.recap, Charge.formCap, bandCap_eq, stateCap_eq]

theorem Charge.step_spec :
    let v := effectiveVreg o c.band
    let strained := (c.inputLimit o : Int) < r.inputCurrent ∨ c.vin r < c.sagThreshold o
    let room := r.inputCurrent + 100 ≤ (c.inputLimit o : Int) ∧ c.sagThreshold o + 200 ≤ c.vin r ∧
      (c.state = .topoff → r.vbat + 20 < v)
    let moved := if strained then c.ic - 100 else if room then c.ic + 50 else c.ic
    c.step o r = { c with ic := min (if c.state = .topoff ∧ v < r.vbat then moved - 50 else moved) c.cap } := by
  rw [Charge.step, Charge.steppedCurrent_eq]

end

theorem Gauge.work_spec (g : Gauge) (o : ChargeOptions) (r : Readings) (stamp : Stamp) (full : Bool) :
    ((g.work o r stamp full true).1 = (g.account o r stamp).fullIf o full ∧
      ((g.work o r stamp full true).2 = true ↔ g.Raises o r full)) ∧
    (g.work o r stamp full false).1 = (g.fullIf o full).account o r stamp ∧
      ((g.work o r stamp full false).2 = true ↔ (g.fullIf o full).Raises o r full) :=
  ⟨⟨rfl, g.news_iff o r full⟩, rfl, (g.fullIf o full).news_iff o r full⟩

end Sys2Proof.Machine

namespace Sys2Proof.Proofs
open Sys2Proof.Machine

/-- Settles O38: the two blocks' work, then the steps of the reserve, the cut-off and the empty battery, each as its test holds or
fails, and the Charge Controller's steps by their tables. -/
theorem measurement : Obligations.Measurement := by
  intro s r first
  refine ⟨?_, ?_, ?_, exec_gaugeMeasurement_of_not_due s r first, s.setPower_cadence, fun c o stamp => ?_⟩
  · intro due run selected fresh
    have off : ¬s.gauge.sourceSelected = false := by rw [selected]; decide
    exact exec_gaugeMeasurement_quiet due (State.done_reserveStep_of_not_issued fresh fun x => off x.2.2.2) (fun x => off x.1)
      fun x => absurd (run.symm.trans x.1) (by decide)
  · intro due off fresh high
    have notLow : ¬(s.gauge.sourceSelected = false ∧ r.vbat < s.options.cutoffVoltage ∧ r.temperature.isSome = true) :=
      fun x => absurd x.2.1 (not_lt.2 high)
    refine ⟨fun run above => ?_, fun run known level => exec_gaugeMeasurement_issues due run fresh off known level high,
      fun standby none known level => exec_gaugeMeasurement_empty due fresh standby none known level high⟩
    refine exec_gaugeMeasurement_quiet due (State.done_reserveStep_of_not_issued fresh fun x => ?_) notLow
      fun x => absurd (run.symm.trans x.1) (by decide)
    exact above.elim (fun unset => x.1 unset) fun more => absurd x.2.1 (not_le.2 more)
  · intro due
    refine ⟨exec_gaugeMeasurement_of_due s r first due, ⟨fun asleep fresh low empty => ?_, fun held below low empty => ?_,
      fun held above low empty => exec_gaugeMeasurement_clears due held above low empty⟩,
      fun u => ⟨State.emptyStep_of_empties, State.emptyStep_of_not⟩⟩
    · exact exec_gaugeMeasurement_quiet due (State.done_reserveStep_of_not_issued fresh fun x => asleep x.2.2.1) low empty
    · exact exec_gaugeMeasurement_quiet due (State.reserveStep_of_not_above ((s.done_reserve r first).trans held)
        fun x => below ((s.done_above_iff r first).1 x)) low empty
  · rw [← effectiveVreg_eq]
    exact ⟨rfl, ⟨c.countTimers_of_counting stamp, c.countTimers_of_not_counting stamp⟩,
      fun none => ⟨c.presence_of_open r none, c.formBand_of_open o r none⟩,
      fun t read => ⟨(c.presence_spec r read).1, (c.presence_spec r read).2.1, (c.presence_spec r read).2.2,
        c.formBand_of_read o r read, c.suspended_spec o r read⟩,
      c.active_spec o r, ⟨(c.overvoltage_spec o r).1, (c.overvoltage_spec o r).2, c.timerLimits_of_spent o,
        c.timerLimits_of_unspent o⟩, c.progress_spec o r stamp, c.recap_spec o, c.step_spec o r,
      c.inputs_of_usb o r, c.inputs_of_aux o r, c.news_iff, fun g => g.work_spec o r stamp⟩

end Sys2Proof.Proofs
end

section
/-! PROOFS. Clips that are protected, deleted or reclaimed, and the volume updates (R92, R93, R102 to R104). -/

namespace Sys2Proof.Machine

/-! ### Requests about a clip (R102, R103) -/

theorem Writer.takesClipRequests_iff (w : Writer) :
    w.takesClipRequests = true ↔ w.state = .idle ∨ w.state = .recording ∨ w.state = .closing :=
  decide_eq_true_iff

theorem Writer.takesClipRequests_of_not {w : Writer} (h : ¬(w.state = .idle ∨ w.state = .recording ∨ w.state = .closing)) :
    w.takesClipRequests = false :=
  decide_eq_false h

theorem Clip.isOpen_iff (c : Clip) : c.isOpen = true ↔ c.state = .openClip :=
  decide_eq_true_iff

/-- A request that changed sectors waits for them. -/
theorem Media.awaitSectors_of_changed (m : Media) (env : Env) (slot z : Nat) (rest : List Nat) :
    m.awaitSectors env slot (z :: rest) = m.modWriter fun w => { w with waiting := w.waiting ++ [⟨.request slot, z :: rest⟩] } :=
  rfl

section
variable {m : Media} (env : Env) (slot : Nat) {clip : Nat}

theorem Media.setProtection_of_not_taken (on : Bool) (h : m.writer.takesClipRequests = false) :
    m.setProtection env slot clip on = m.answer env slot .refusedState := by
  rw [Media.setProtection, h]; rfl

theorem Media.setProtection_of_unknown (on : Bool) (h : m.writer.takesClipRequests = true) (unknown : m.writer.indexOf clip = none) :
    m.setProtection env slot clip on = m.answer env slot .refusedParam := by
  rw [Media.setProtection, if_pos h, unknown]

theorem Media.setProtection_of_present (on : Bool) {i : Nat} {c : Clip} (h : m.writer.takesClipRequests = true)
    (index : m.writer.indexOf clip = some i) (entry : m.writer.clipAt i = some c) :
    m.setProtection env slot clip on = if c.causes.request = on then m.answer env slot .done
      else (m.modWriter fun w => w.changeEntry i fun c => { c with causes := { c.causes with request := on } }).awaitSectors env
        slot [dirSector i] := by
  rw [Media.setProtection, if_pos h, index, Option.bind_some, entry]

theorem Media.deleteClip_of_not_taken (force : Bool) (h : m.writer.takesClipRequests = false) :
    m.deleteClip env slot clip force = m.answer env slot .refusedState := by
  rw [Media.deleteClip, h]; rfl

theorem Media.deleteClip_of_unknown (force : Bool) (h : m.writer.takesClipRequests = true) (unknown : m.writer.indexOf clip = none) :
    m.deleteClip env slot clip force = m.answer env slot .refusedParam := by
  rw [Media.deleteClip, if_pos h, unknown]

theorem Media.deleteClip_of_present (force : Bool) {i : Nat} {c : Clip} (h : m.writer.takesClipRequests = true)
    (index : m.writer.indexOf clip = some i) (entry : m.writer.clipAt i = some c) :
    m.deleteClip env slot clip force = if c.isOpen then m.answer env slot .refusedState
      else if c.causes.any && !force then m.answer env slot .refusedParam
      else (m.modWriter fun _ => (m.writer.removeClip i).1).awaitSectors env slot (m.writer.removeClip i).2 := by
  rw [Media.deleteClip, if_pos h, index, Option.bind_some, entry]
end

/-- The state with other media blocks. -/
def State.setMedia (s : State) (m : Media) : State :=
  { s with media := m }

/-- The state as an owner takes its oldest request (R197). -/
def State.requestTaken (s : State) (o : Owner) : State :=
  s.modExch fun e => e.requestTakenBy o

theorem State.requestTaken_writer (s : State) (o : Owner) : (s.requestTaken o).media.writer = s.media.writer := rfl

theorem exec_setProtection {s : State} {h : Handed} {clip : Nat} {on : Bool}
    (next : s.media.exch.nextRequest .writer = some h) (kind : h.request = .setProtection clip on) :
    exec .setProtection s = .next
      ((s.requestTaken .writer).setMedia ((s.requestTaken .writer).media.setProtection s.env h.slot clip on)).settle := by
  show Host.Outcome.next (s.onRequest .writer Request.asSetProtection State.takeSetProtection).settle = _
  rw [State.onRequest_of_next (a := (clip, on)) _ next (by rw [kind]; rfl)]
  rfl

theorem exec_deleteClip {s : State} {h : Handed} {clip : Nat} {force : Bool}
    (next : s.media.exch.nextRequest .writer = some h) (kind : h.request = .deleteClip clip force) :
    exec .deleteClip s = .next
      ((s.requestTaken .writer).setMedia ((s.requestTaken .writer).media.deleteClip s.env h.slot clip force)).settle := by
  show Host.Outcome.next (s.onRequest .writer Request.asDeleteClip State.takeDeleteClip).settle = _
  rw [State.onRequest_of_next (a := (clip, force)) _ next (by rw [kind]; rfl)]
  rfl

/-! ### A clip goes (R103) -/

/-- The tables without the clip of an entry: the entry EMPTY, its chain's segments left. -/
def Tables.withoutClip (t : Tables) (i : Nat) (chain : List Nat) : Tables :=
  { t with dir := t.dir.set i none, map := chain.foldl (fun map s => map.set s (leaveChain (mapAt t.map s))) t.map }

/-- Segments changed one after the other: the tables take each, and its map sector joins the update list. -/
theorem Writer.foldl_changeSegment (e : Nat → MapEntry) (chain : List Nat) (w : Writer) (t : Tables) (h : w.tables = some t) :
    chain.foldl (fun w s => w.changeSegment s (e s)) w = { w with
      tables := some { t with map := chain.foldl (fun map s => map.set s (e s)) t.map }
      updates := (chain.map mapSector).foldl addOnce w.updates } := by
  induction chain generalizing w t with
  | nil => rw [List.foldl_nil, List.foldl_nil, List.map_nil, List.foldl_nil, ← h]
  | cons s chain ih =>
    have tables : (w.changeSegment s (e s)).tables = some (t.setSegment s (e s)) := by
      show w.tables.map _ = _
      rw [h]; rfl
    rw [List.foldl_cons, ih _ _ tables]
    rfl

theorem Writer.removeClip_eq {w : Writer} {t : Tables} {i : Nat} {c : Clip} (tables : w.tables = some t) (entry : t.clipAt i = some c) :
    w.removeClip i = ({ w with
      tables := some (t.withoutClip i (t.chain c))
      updates := ((t.chain c).map mapSector).foldl addOnce (addOnce w.updates (dirSector i))
      mirrorDirty := addOnce w.mirrorDirty i }, dirSector i :: ((t.chain c).map mapSector).dedup) := by
  have present : w.clipAt i = some c := by rw [Writer.clipAt, tables]; exact entry
  simp only [Writer.removeClip, tables, present]
  rw [Writer.foldl_changeSegment (fun s => leaveChain (mapAt t.map s)) _ _ (t.setEntry i none) (by
    show w.tables.map _ = _
    rw [tables]; rfl)]
  rfl

/-- An entry is one of the tables in force. -/
theorem Writer.tables_of_clipAt {w : Writer} {i : Nat} {c : Clip} (h : w.clipAt i = some c) :
    ∃ t, w.tables = some t ∧ t.clipAt i = some c :=
  Option.bind_eq_some_iff.mp h

/-- A segment of the list holds its new entry, whatever the order and however often it stands there; any other its old one. -/
theorem mapAt_foldl_set (e : Nat → MapEntry) (chain : List Nat) (map : List MapEntry) (s : Nat) :
    (s ∈ chain → s < map.length → mapAt (chain.foldl (fun map s => map.set s (e s)) map) s = e s) ∧
    (s ∉ chain → mapAt (chain.foldl (fun map s => map.set s (e s)) map) s = mapAt map s) := by
  induction chain generalizing map with
  | nil => exact ⟨fun h => absurd h List.not_mem_nil, fun _ => rfl⟩
  | cons u chain ih =>
    obtain ⟨inside, outside⟩ := ih (map.set u (e u))
    rw [List.foldl_cons]
    refine ⟨fun mem bound => ?_, fun notMem => ?_⟩
    · by_cases again : s ∈ chain
      · exact inside again (by rwa [List.length_set])
      · obtain rfl : s = u := (List.mem_cons.mp mem).resolve_right again
        rw [outside again, mapAt_set_same bound]
    · rw [List.mem_cons, not_or] at notMem
      rw [outside notMem.2, mapAt_set_other _ notMem.1]

theorem Tables.clipAt_withoutClip_same (t : Tables) (i : Nat) (chain : List Nat) : (t.withoutClip i chain).clipAt i = none := by
  simp only [Tables.clipAt, Tables.withoutClip, entryAt, List.getD_eq_getElem?_getD, List.getElem?_set_self']
  cases t.dir[i]? <;> rfl

theorem Tables.clipAt_withoutClip_other (t : Tables) {i j : Nat} (chain : List Nat) (h : j ≠ i) :
    (t.withoutClip i chain).clipAt j = t.clipAt j := by
  simp only [Tables.clipAt, Tables.withoutClip, entryAt, List.getD_eq_getElem?_getD, List.getElem?_set_ne (Ne.symm h)]

/-! ### The oldest clip that can go (R104) -/

theorem Tables.mem_present (t : Tables) (c : Clip) : c ∈ t.present ↔ ∃ i, t.clipAt i = some c := by
  simp only [Tables.present, List.mem_filterMap, id_eq, exists_eq_right, Tables.clipAt, entryAt, List.getD_eq_getElem?_getD]
  rw [List.mem_iff_getElem?]
  refine exists_congr fun i => ?_
  cases t.dir[i]? <;> simp

theorem reclaimable_iff (c : Clip) : reclaimable c = true ↔ c.state ≠ .openClip ∧ c.causes.any = false := by
  simp only [reclaimable, Clip.isOpen, Bool.and_eq_true, Bool.not_eq_true', decide_eq_false_iff_not, ne_eq]

/-- One step of the search for the lowest-numbered clip. -/
def older (best : Option Clip) (c : Clip) : Option Clip :=
  match best with
  | none => some c
  | some b => if c.number < b.number then some c else some b

theorem older_spec (best : Option Clip) (c : Clip) :
    ∃ b, older best c = some b ∧ b.number ≤ c.number ∧ (∀ x, best = some x → b.number ≤ x.number) ∧ (b = c ∨ best = some b) := by
  cases best with
  | none => exact ⟨c, rfl, Nat.le_refl _, fun x h => (Option.some_ne_none x h.symm).elim, .inl rfl⟩
  | some x =>
    by_cases lower : c.number < x.number
    · exact ⟨c, if_pos lower, Nat.le_refl _, fun y h => Option.some.inj h ▸ Nat.le_of_lt lower, .inl rfl⟩
    · exact ⟨x, if_neg lower, Nat.le_of_not_lt lower, fun y h => Option.some.inj h ▸ Nat.le_refl _, .inr rfl⟩

/-- The search over a list: nothing in an empty one, else a clip of the lowest number. -/
theorem foldl_older_spec (l : List Clip) (best : Option Clip) :
    (l.foldl older best = none ↔ l = [] ∧ best = none) ∧
    ∀ c, l.foldl older best = some c →
      (c ∈ l ∨ best = some c) ∧ (∀ e ∈ l, c.number ≤ e.number) ∧ (∀ e, best = some e → c.number ≤ e.number) := by
  induction l generalizing best with
  | nil =>
    refine ⟨⟨fun h => ⟨rfl, h⟩, fun h => h.2⟩, fun c h => ⟨.inr h, fun _ m => absurd m List.not_mem_nil, fun e h' => ?_⟩⟩
    obtain rfl : c = e := Option.some.inj (h.symm.trans h')
    exact Nat.le_refl _
  | cons a l ih =>
    obtain ⟨b, step, below, best_le, from_⟩ := older_spec best a
    obtain ⟨isNone, isSome⟩ := ih (older best a)
    rw [List.foldl_cons]
    refine ⟨?_, fun c found => ?_⟩
    · rw [isNone, step]
      simp
    · obtain ⟨mem, least, initial⟩ := isSome c found
      have c_le : c.number ≤ b.number := initial b step
      refine ⟨?_, fun e me => ?_, fun e he => Nat.le_trans c_le (best_le e he)⟩
      · rcases mem with mem | mem
        · exact .inl (List.mem_cons_of_mem _ mem)
        · obtain rfl : b = c := by rw [step] at mem; exact Option.some.inj mem
          exact from_.imp (fun h => by rw [h]; exact List.mem_cons_self) id
      · rcases List.mem_cons.mp me with rfl | me
        · exact Nat.le_trans c_le below
        · exact least e me

/-- What a reclaim may take, of a volume's tables. -/
def Tables.CanGo (t : Tables) (c : Clip) : Prop :=
  (∃ i, t.clipAt i = some c) ∧ c.state ≠ .openClip ∧ c.causes.any = false

theorem Tables.mem_reclaimable (t : Tables) (c : Clip) : c ∈ t.present.filter reclaimable ↔ t.CanGo c := by
  rw [List.mem_filter, Tables.mem_present, reclaimable_iff]
  rfl

theorem Tables.oldest_eq_foldl (t : Tables) : t.oldest = (t.present.filter reclaimable).foldl older none := rfl

theorem Tables.oldest_eq_none_iff (t : Tables) : t.oldest = none ↔ ∀ c, ¬t.CanGo c := by
  rw [Tables.oldest_eq_foldl, (foldl_older_spec _ _).1, List.eq_nil_iff_forall_not_mem]
  simp only [Tables.mem_reclaimable, and_true]

theorem Tables.oldest_least {t : Tables} {c : Clip} (h : t.oldest = some c) :
    t.CanGo c ∧ ∀ e, t.CanGo e → c.number ≤ e.number := by
  rw [Tables.oldest_eq_foldl] at h
  obtain ⟨mem, least, -⟩ := (foldl_older_spec _ _).2 c h
  exact ⟨(t.mem_reclaimable c).mp (mem.resolve_right fun h => (Option.some_ne_none c h.symm).elim), fun e he => least e ((t.mem_reclaimable e).mpr he)⟩

/-- A clip that is present is found by its number. -/
theorem Tables.indexOf_of_present {t : Tables} {j : Nat} {c : Clip} (h : t.clipAt j = some c) :
    ∃ i e, t.indexOf c.number = some i ∧ t.clipAt i = some e ∧ e.number = c.number := by
  have entry : t.dir[j]? = some (some c) := by
    rw [Tables.clipAt, entryAt, List.getD_eq_getElem?_getD] at h
    cases at_ : t.dir[j]? with
    | none => rw [at_] at h; cases h
    | some x => rw [at_] at h; rw [show x = some c from h]
  cases found : t.indexOf c.number with
  | none =>
    rw [Tables.indexOf, List.findIdx?_eq_none_iff] at found
    have := found _ (List.mem_of_getElem? entry)
    simp at this
  | some i =>
    rw [Tables.indexOf, List.findIdx?_eq_some_iff_getElem] at found
    obtain ⟨bound, holds, -⟩ := found
    cases at_ : t.dir[i] with
    | none => rw [at_] at holds; cases holds
    | some e =>
      rw [at_] at holds
      refine ⟨i, e, rfl, ?_, by simpa using holds⟩
      rw [Tables.clipAt, entryAt, List.getD_eq_getElem?_getD, List.getElem?_eq_getElem bound, at_]
      rfl

theorem Writer.reclaim_of_none {w : Writer} {t : Tables} (tables : w.tables = some t) (h : t.oldest = none) : w.reclaim = none := by
  simp only [Writer.reclaim, tables, h]

theorem Writer.reclaim_of_oldest {w : Writer} {t : Tables} {c : Clip} (tables : w.tables = some t) (h : t.oldest = some c) :
    ∃ i e, t.clipAt i = some e ∧ e.number = c.number ∧ w.reclaim = some (w.removeClip i) := by
  obtain ⟨⟨⟨j, entry⟩, -⟩, -⟩ := Tables.oldest_least h
  obtain ⟨i, e, index, at_, number⟩ := Tables.indexOf_of_present entry
  exact ⟨i, e, at_, number, by simp only [Writer.reclaim, tables, h, index]⟩

/-- The opening goes on after a reclaim, at the first EMPTY entry. -/
theorem Writer.open_of_reclaim {w : Writer} {t : Tables} {v : Writer} {sectors : List Nat} {i : Nat} (stamp : Stamp)
    (tables : w.tables = some t) (full : t.emptyIndex = none) (goes : w.reclaim = some (v, sectors))
    (free : v.tables.bind Tables.emptyIndex = some i) : w.open_ stamp = (v.openAt i stamp, some i) := by
  simp only [Writer.open_, tables, Option.bind_some, full, goes, free]

/-- The search goes on after a reclaim. -/
theorem Writer.allocate_of_reclaim {w : Writer} {t : Tables} {v : Writer} {sectors : List Nat} (n i : Nat) (before : List Nat)
    (tables : w.tables = some t) (full : t.firstFree = none) (goes : w.reclaim = some (v, sectors)) :
    Writer.allocate (n + 1) w i before = Writer.allocate n v i (before ++ sectors) := by
  simp only [Writer.allocate, tables, Option.bind_some, full, goes]

end Sys2Proof.Machine
end

section
/-! PROOFS. The volume updates, and SET_PROTECTION, DELETE_CLIP and a reclaim settled (R92, R93, R102 to R104). -/

namespace Sys2Proof.Machine

/-! ### The states in which the update list is written (R92) -/

/-- The writer writes its update list: a volume is mounted, or a mount writes back. -/
def Writer.WritesList (w : Writer) : Prop :=
  w.state = .idle ∨ w.state = .recording ∨ w.state = .closing ∨ (w.state = .mounting ∧
    ∃ (slot : Nat) (scan : Option Scan) (todo recovered : List Nat), w.job = some (.mount slot .writeBack scan todo recovered))

theorem writesBack_iff (job : Option VolumeJob) :
    (match job with
      | some (.mount _ .writeBack _ _ _) => true
      | some _ | none => false) = true ↔
    ∃ (slot : Nat) (scan : Option Scan) (todo recovered : List Nat), job = some (.mount slot .writeBack scan todo recovered) := by
  rcases job with _ | ⟨slot, stage, scan, todo, recovered⟩ | _
  · simp
  · cases stage <;> simp
  · simp

theorem Writer.writesList_iff (w : Writer) : w.writesList = true ↔ w.WritesList := by
  unfold Writer.writesList Writer.WritesList
  cases state : w.state <;> simp
  exact writesBack_iff w.job

/-! ### A claim handed to the Card Port (R140, R147) -/

/-- A claim takes its place: a card is there that takes runs, and no supply warning stands. -/
theorem Card.hand_of_takes {c : Card} {env : Env} (cls : ClaimClass) (claim : Claim) (absent : c.state ≠ .absent)
    (fault : c.state ≠ .fault) (warn : env.warn = false) : c.hand env cls claim = c.setPlace cls (some claim) := by
  rw [Card.hand, warn, Bool.and_false]
  cases state : c.state
  case absent => exact absurd state absent
  case fault => exact absurd state fault
  all_goals rfl

/-! ### One volume update (R92) -/

/-- The waiters that a sector's present content satisfies, as they stand on the list. -/
theorem Writer.carriedBy_eq (w : Writer) (z : Nat) :
    w.carriedBy z = (w.waiting.filter fun x => decide (z ∈ x.sectors)).map Waiter.key := by
  simp only [Writer.carriedBy, List.contains_eq_mem]

section
variable {m : Media} (env : Env)

theorem Media.issueUpdate_of_takes (t : Tables) (z : Nat) (retried : Bool) (absent : m.card.state ≠ .absent)
    (fault : m.card.state ≠ .fault) (warn : env.warn = false) :
    m.issueUpdate env t z retried = { m with
      writer := { m.writer with flight := some ⟨z, retried, false,
        (m.writer.waiting.filter fun x => decide (z ∈ x.sectors)).map Waiter.key⟩ }
      card := { m.card with volume := some (zoneClaim t z) } } := by
  have handed : m.issueUpdate env t z retried = { m with
      writer := { m.writer with flight := some ⟨z, retried, false, m.writer.carriedBy z⟩ }
      card := m.card.hand env .volume (zoneClaim t z) } := rfl
  rw [handed, Card.hand_of_takes _ _ absent fault warn, Writer.carriedBy_eq]
  rfl

theorem Media.nextUpdate_of_nothing (h : m.writer.flight ≠ none ∨ m.writer.updates = [] ∨ ¬m.writer.WritesList) :
    m.nextUpdate env = none := by
  unfold Media.nextUpdate
  split
  next writes flight updates tables =>
    rcases h with h | h | h
    · exact absurd flight h
    · rw [updates] at h; cases h
    · exact absurd ((Writer.writesList_iff _).mp writes) h
  next => rfl

theorem Media.nextUpdate_of_waiting {t : Tables} {z : Nat} {rest : List Nat} (writes : m.writer.WritesList)
    (flight : m.writer.flight = none) (updates : m.writer.updates = z :: rest) (tables : m.writer.tables = some t) :
    m.nextUpdate env = some ((m.modWriter fun w => { w with updates := rest }).issueUpdate env t z false) := by
  simp only [Media.nextUpdate, (Writer.writesList_iff _).mpr writes, flight, updates, tables]

theorem Media.take_of_flight {f : VolumeFlight} {v : Delivery} (flight : m.writer.flight = some f) (cls : v.cls = .volume)
    (outcome : v.outcome ≠ .absent) : m.take env v = m.updateOutcome env f v.outcome := by
  rw [Media.take, if_neg outcome, cls]
  simp only [flight]

/-! ### The outcome of an update (R92, R120) -/

theorem Media.updateOutcome_ok (m : Media) (f : VolumeFlight) : m.updateOutcome env f .ok = m.sectorWritten env f :=
  if_pos rfl

theorem Media.updateOutcome_first_failure {f : VolumeFlight} {o : RunOutcome} {t : Tables} (failed : o ≠ .ok) (final : f.final = false)
    (first : f.retried = false) (tables : m.writer.tables = some t) :
    m.updateOutcome env f o = m.issueUpdate env t f.sector true := by
  rw [Media.updateOutcome, if_neg failed, final, first]
  simp only [tables]
  rfl

theorem Media.updateOutcome_second_failure {f : VolumeFlight} {o : RunOutcome} (failed : o ≠ .ok) (final : f.final = false)
    (second : f.retried = true) : m.updateOutcome env f o = m.updateFailed env := by
  rw [Media.updateOutcome, if_neg failed, final, second]
  rfl

theorem Writer.resetEnds_iff (w : Writer) :
    w.resetEnds = true ↔ w.hostReset = true ∧ (w.state = .idle ∨ w.closeCause = some .hostReset) := by
  rw [Writer.resetEnds, Bool.and_eq_true, decide_eq_true_iff]

theorem Media.updateFailed_of_resetEnds (h : m.writer.resetEnds = true) :
    m.updateFailed env = (m.modWriter fun w => { w with flight := none, updates := [] }).failWaiting env .card :=
  if_pos h

theorem Media.updateFailed_of_not_resetEnds (h : ¬m.writer.resetEnds = true) :
    m.updateFailed env = (m.modWriter fun w => { w with flight := none }).enterCardFault env :=
  if_neg h

/-- The waiters of a sector written, those that have waited for it alone among them. -/
def Writer.waitingAfter (w : Writer) (f : VolumeFlight) : List Waiter :=
  w.waiting.map fun x => if x.key ∈ f.carried then { x with sectors := x.sectors.filter fun y => decide (y ≠ f.sector) } else x

theorem isEmpty_eq_decide {α : Type} [DecidableEq α] (l : List α) : l.isEmpty = decide (l = []) := by
  cases l <;> simp

theorem Media.sectorWritten_eq (m : Media) (f : VolumeFlight) :
    m.sectorWritten env f =
      (((m.writer.waitingAfter f).filter fun x => decide (x.sectors = [])).map Waiter.key).foldl (fun x k => x.fire env k)
        ((m.modWriter fun w => { w with
          flight := none, waiting := (w.waitingAfter f).filter fun x => decide (x.sectors ≠ []) }).mirrorSector env f.sector) := by
  have empty : (fun x : Waiter => decide (x.sectors = [])) = fun x => x.sectors.isEmpty :=
    funext fun x => (isEmpty_eq_decide _).symm
  have left : (fun x : Waiter => decide (x.sectors ≠ [])) = fun x => !x.sectors.isEmpty :=
    funext fun x => by rw [isEmpty_eq_decide, decide_not]
  rw [empty, left]
  rfl

theorem Media.fire_close (m : Media) :
    m.fire env .close = (m.modWriter fun w => { w with
      state := .idle, closeCause := none, stopSlots := [], idleReport := true }).answerAll env m.writer.stopSlots .done := by
  have entered : m.writer.enter .idle = { m.writer with state := .idle, idleReport := true } := by
    simp [Writer.enter]
  have whole : (m.enter .idle).modWriter (fun w => { w with closeCause := none, stopSlots := [] })
      = { m with writer := { m.writer.enter .idle with closeCause := none, stopSlots := [] } } := rfl
  show Media.answerAll ((m.enter .idle).modWriter _) env _ _ = _
  rw [whole, entered]
  rfl

/-! ### The mirror after a directory sector (R93) -/

/-- One entry's write to the mirror, its `follows` flag telling a directory sector's write. -/
def Media.mirrorOne (env : Env) (follows : Bool) (m : Media) (i : Nat) : Media :=
  { m with
    writer := m.writer.mirrorNext i
    exch := m.exch.writeRecord env.now (mirrorRecord i follows (nextEdition m.writer.mirrorEdition) (m.writer.clipAt i)) }

theorem Media.mirror_eq_foldl (follows : Bool) (entries : List Nat) (m : Media) :
    Media.mirror env follows entries m = entries.foldl (Media.mirrorOne env follows) m :=
  rfl

/-- The write of an entry that is dirty. -/
def Media.mirrorIfDirty (env : Env) (dirty : List Nat) (m : Media) (i : Nat) : Media :=
  if i ∈ dirty then m.mirrorOne env true i else m

theorem Media.mirrorSector_of_directory (m : Media) {z : Nat} (low : 1 ≤ z) (high : z ≤ 128) :
    m.mirrorSector env z = (m.mirrorIfDirty env m.writer.mirrorDirty (2 * (z - 1))).mirrorIfDirty env m.writer.mirrorDirty
      (2 * (z - 1) + 1) := by
  rw [Media.mirrorSector, if_pos ⟨low, by omega⟩, Media.mirror_eq_foldl]
  simp only [Media.mirrorIfDirty, List.filter_cons, List.filter_nil, List.contains_eq_mem, decide_eq_true_eq]
  split <;> split <;> rfl

theorem Media.mirrorSector_of_other (m : Media) {z : Nat} (h : z = 0 ∨ 128 < z) : m.mirrorSector env z = m :=
  if_neg (by omega)
end

end Sys2Proof.Machine

namespace Sys2Proof.Proofs
open Sys2Proof.Machine

/-- Settles O28: the requests by the state of the writer and the clip they name; a clip that goes by the fold over its chain; the
reclaim by the search for the lowest number; and the volume updates by their outcome. -/
theorem protectDelete : Obligations.ProtectDelete := by
  refine ⟨fun s slot clip stamp r next => ?_, fun w t i c tables entry => ?_, fun w t tables => ?_, fun w z => ?_, fun m env => ?_⟩
  · refine ⟨fun on kind => ?_, fun force kind => ?_⟩
    · rw [exec_setProtection next kind]
      refine ⟨fun closed => ?_, fun takes unknown => ?_, fun i c takes index entry => ⟨fun same => ?_, fun other => ?_⟩⟩
      · rw [Media.setProtection_of_not_taken]
        · rfl
        · exact Writer.takesClipRequests_of_not closed
      · rw [Media.setProtection_of_unknown]
        · rfl
        · exact (Writer.takesClipRequests_iff _).mpr takes
        · exact unknown
      · rw [Media.setProtection_of_present (i := i) (c := c), if_pos same]
        · rfl
        · exact (Writer.takesClipRequests_iff _).mpr takes
        · exact index
        · exact entry
      · rw [Media.setProtection_of_present (i := i) (c := c), if_neg other]
        · rfl
        · exact (Writer.takesClipRequests_iff _).mpr takes
        · exact index
        · exact entry
    · rw [exec_deleteClip next kind]
      refine ⟨fun closed => ?_, fun takes unknown => ?_, fun i c takes index entry =>
        ⟨fun isOpen => ?_, fun notOpen keeps gentle => ?_, fun notOpen goes => ?_⟩⟩
      · rw [Media.deleteClip_of_not_taken]
        · rfl
        · exact Writer.takesClipRequests_of_not closed
      · rw [Media.deleteClip_of_unknown]
        · rfl
        · exact (Writer.takesClipRequests_iff _).mpr takes
        · exact unknown
      all_goals
        rw [Media.deleteClip_of_present (i := i) (c := c)]
        rotate_left
        · exact (Writer.takesClipRequests_iff _).mpr takes
        · exact index
        · exact entry
      · rw [if_pos (c.isOpen_iff.mpr isOpen)]
        rfl
      · rw [if_neg (mt c.isOpen_iff.mp notOpen), keeps, gentle]
        rfl
      · have allowed : (c.causes.any && !force) = false := by
          rcases goes with h | h <;> rw [h] <;> simp
        obtain ⟨t, tables, present⟩ := Writer.tables_of_clipAt entry
        rw [if_neg (mt c.isOpen_iff.mp notOpen), allowed]
        show Host.Outcome.next (State.settle ((s.requestTaken .writer).setMedia (Media.awaitSectors
          { (s.requestTaken .writer).media with writer := (s.media.writer.removeClip i).1 } s.env slot
          (s.media.writer.removeClip i).2))) = _
        rw [Writer.removeClip_eq tables present, Media.awaitSectors_of_changed]
        rfl
  · refine ⟨t.withoutClip i (t.chain c), ?_, t.clipAt_withoutClip_same i _, fun j h => t.clipAt_withoutClip_other _ h,
      fun s mem bound => (mapAt_foldl_set _ _ _ s).1 mem bound, fun s notMem => (mapAt_foldl_set _ _ _ s).2 notMem,
      rfl, rfl, rfl, rfl, ⟨((t.chain c).map mapSector).dedup, ?_, List.nodup_dedup _, fun z => List.mem_dedup⟩, ?_⟩
    · rw [Writer.removeClip_eq tables entry]
    · rw [Writer.removeClip_eq tables entry]
      rfl
    · rw [Writer.removeClip_eq tables entry]
      rfl
  · refine ⟨t.oldest_eq_none_iff, Writer.reclaim_of_none tables, fun c h => ?_, fun v sectors stamp n goes =>
      ⟨fun i full free => Writer.open_of_reclaim stamp tables full goes free,
        fun i before full => Writer.allocate_of_reclaim n i before tables full goes⟩⟩
    obtain ⟨can, least⟩ := Tables.oldest_least h
    exact ⟨can, least, Writer.reclaim_of_oldest tables h⟩
  · simp only [Writer.mark, addOnce, List.contains_eq_mem, decide_eq_true_eq]
  · refine ⟨Media.nextUpdate_of_nothing env, fun d z rest writes takes flight updates tables => ?_,
      fun f v flight cls outcome => Media.take_of_flight env flight cls outcome, fun f o d failed final tables => ⟨?_, ?_, ?_⟩,
      fun f => ?_, fun slot => rfl, Media.fire_close env m, fun z => ⟨m.mirrorSector_of_directory env, m.mirrorSector_of_other env⟩,
      fun r => rfl⟩
    · rw [Media.nextUpdate_of_waiting env writes flight updates tables, Media.issueUpdate_of_takes]
      · rfl
      · exact takes.1
      · exact takes.2.1
      · exact takes.2.2
    · intro first ⟨absent, fault, warn⟩
      rw [Media.updateOutcome_first_failure env failed final first tables, Media.issueUpdate_of_takes env _ _ _ absent fault warn]
      rfl
    · intro second goesOn
      rw [Media.updateOutcome_second_failure env failed final second,
        Media.updateFailed_of_not_resetEnds env (mt m.writer.resetEnds_iff.mp goesOn)]
      rfl
    · intro second ends
      rw [Media.updateOutcome_second_failure env failed final second,
        Media.updateFailed_of_resetEnds env (m.writer.resetEnds_iff.mpr ends)]
      rfl
    · rw [Media.updateOutcome_ok, Media.sectorWritten_eq]
      rfl

end Sys2Proof.Proofs
end

section
/-! PROOFS. The chunk board: its slots, the checks of a chunk, admission, parking and the gap wait (R108 to R111, R122, R195). -/

namespace Sys2Proof.Machine

/-! ### A record of the area as read (R195) -/

theorem torn_iff (bs : List Byte) (tailAt : Nat) : torn bs tailAt = true ↔ editionAt bs 0 ≠ editionAt bs tailAt :=
  bne_iff_ne

theorem torn_of_eq {bs : List Byte} {tailAt : Nat} (h : editionAt bs 0 = editionAt bs tailAt) : torn bs tailAt = false :=
  bne_eq_false_iff_eq.mpr h

theorem slotNew_of_new {bs : List Byte} {tailAt : Nat} {taken : Edition} (whole : editionAt bs 0 = editionAt bs tailAt)
    (nonzero : editionAt bs 0 ≠ 0) (new : editionAt bs 0 ≠ taken) : slotNew bs tailAt taken = true := by
  rw [slotNew, torn_of_eq whole, Bool.and_eq_true, Bool.and_eq_true]
  exact ⟨⟨rfl, bne_iff_ne.mpr nonzero⟩, bne_iff_ne.mpr new⟩

theorem slotNew_of_old {bs : List Byte} {tailAt : Nat} {taken : Edition} (h : editionAt bs 0 = 0 ∨ editionAt bs 0 = taken) :
    slotNew bs tailAt taken = false := by
  rcases h with h | h <;> simp [slotNew, h]

/-! ### A chunk slot that is offered (R108) -/

section
variable {s : State} {bytes : List Byte} {slot : Nat} (stamp : Stamp)

theorem State.offerChunk_of_torn (h : editionAt (slice bytes (32 * slot) 32) 0 ≠ editionAt (slice bytes (32 * slot) 32) 30) :
    s.offerChunk stamp bytes slot = s.modExch Exchange.countTorn :=
  if_pos ((torn_iff _ _).mpr h)

theorem State.offerChunk_of_whole (h : editionAt (slice bytes (32 * slot) 32) 0 = editionAt (slice bytes (32 * slot) 32) 30) :
    s.offerChunk stamp bytes slot =
      if slotNew (slice bytes (32 * slot) 32) 30 (s.media.exch.takenChunk slot) then
        match s.media.heldEdition slot with
        | none => (s.modExch fun e => e.markChunk slot (editionAt (slice bytes (32 * slot) 32) 0)).modMedia fun m =>
            m.takeChunk s.env stamp slot (parseChunk (slice bytes (32 * slot) 32))
        | some held => if held = editionAt (slice bytes (32 * slot) 32) 0 then s.modExch fun e => e.markChunk slot held else s
      else s := by
  unfold State.offerChunk
  dsimp only
  rw [torn_of_eq h]
  rfl

theorem State.offerChunk_of_old (whole : editionAt (slice bytes (32 * slot) 32) 0 = editionAt (slice bytes (32 * slot) 32) 30)
    (old : editionAt (slice bytes (32 * slot) 32) 0 = 0 ∨
      editionAt (slice bytes (32 * slot) 32) 0 = s.media.exch.takenChunk slot) : s.offerChunk stamp bytes slot = s := by
  rw [State.offerChunk_of_whole stamp whole, slotNew_of_old old]
  rfl

theorem State.offerChunk_of_new (whole : editionAt (slice bytes (32 * slot) 32) 0 = editionAt (slice bytes (32 * slot) 32) 30)
    (nonzero : editionAt (slice bytes (32 * slot) 32) 0 ≠ 0)
    (new : editionAt (slice bytes (32 * slot) 32) 0 ≠ s.media.exch.takenChunk slot) :
    s.offerChunk stamp bytes slot =
      match s.media.heldEdition slot with
      | none => (s.modExch fun e => e.markChunk slot (editionAt (slice bytes (32 * slot) 32) 0)).modMedia fun m =>
          m.takeChunk s.env stamp slot (parseChunk (slice bytes (32 * slot) 32))
      | some held => if held = editionAt (slice bytes (32 * slot) 32) 0 then s.modExch fun e => e.markChunk slot held else s := by
  rw [State.offerChunk_of_whole stamp whole, slotNew_of_new whole nonzero new]
  rfl
end

/-! ### The checks (R109) -/

/-- What makes a chunk malformed, of a writer whose tables are there while it is mounted. -/
def Writer.Malformed (w : Writer) (b : PostedChunk) : Prop :=
  b.length = 0 ∨ b.address % 4 ≠ 0 ∨ b.kind = none ∨ (w.mounted = false ∧ 1048576 < b.length) ∨
    ∃ d : Tables, w.mounted = true ∧ w.tables = some d ∧ min 1048576 ((d.geometry.segmentSize - 1) * 512 - 32) < b.length

theorem Writer.malformed_iff {w : Writer} (b : PostedChunk) (tables : w.mounted = true → w.tables ≠ none) :
    w.malformed b = true ↔ w.Malformed b := by
  unfold Writer.malformed Writer.Malformed
  cases mounted : w.mounted
  · simp
    tauto
  · obtain ⟨d, there⟩ := Option.ne_none_iff_exists'.mp (tables mounted)
    simp [there, largestPayload]
    tauto

/-- The writer as an edition joins the held slots. -/
def Media.holding (m : Media) (h : HeldSlot) : Media :=
  { m with writer := { m.writer with held := m.writer.held ++ [h] } }

/-- A receipt for the edition that has just joined leaves the held slots as they were. -/
theorem Media.receipt_holding {m : Media} {h : HeldSlot} (env : Env) (status : ReceiptStatus) (new : h ∉ m.writer.held) :
    (m.holding h).receipt env status h = { m with exch := m.exch.writeRecord env.now (receiptRecord h status) } := by
  have there : (m.holding h).writer.held.contains h = true := by
    simp [Media.holding]
  have left : (m.writer.held ++ [h]).filter (fun x => decide (x ≠ h)) = m.writer.held := by
    rw [List.filter_append, List.filter_eq_self.mpr fun x mem => by
      rw [decide_eq_true_eq]
      exact fun same => new (same ▸ mem)]
    simp
  rw [Media.receipt, if_pos there]
  show ({ m with
    writer := { m.writer with held := (m.writer.held ++ [h]).filter fun x => decide (x ≠ h) }
    exch := m.exch.writeRecord env.now (receiptRecord h status) } : Media) = _
  rw [left]

/-- The chunk of a slot. -/
def PostedChunk.chunk (b : PostedChunk) (slot : Nat) : Chunk where
  kind := b.kind.getD .video
  key := b.key
  seq := b.seq
  stamp := b.stamp
  length := b.length
  source := .slot slot b.edition b.address
  opensClip := false

theorem PostedChunk.chunk_of_kind {b : PostedChunk} {k : ChunkKind} {slot : Nat} (h : b.kind = some k) :
    b.chunk slot = ⟨k, b.key, b.seq, b.stamp, b.length, .slot slot b.edition b.address, false⟩ := by
  rw [PostedChunk.chunk, h]
  rfl

theorem Media.takeChunk_eq (m : Media) (env : Env) (pickup : Stamp) (slot : Nat) (b : PostedChunk) :
    m.takeChunk env pickup slot b =
      if m.writer.malformed b then (m.holding ⟨slot, b.edition, b.seq⟩).receipt env .malformed ⟨slot, b.edition, b.seq⟩
      else if m.writer.state ≠ .recording then (m.holding ⟨slot, b.edition, b.seq⟩).receipt env .refused ⟨slot, b.edition, b.seq⟩
      else if b.seq < m.writer.expected ∨ m.writer.parked.any (fun d => d.seq == b.seq) = true then
        (m.holding ⟨slot, b.edition, b.seq⟩).receipt env .stale ⟨slot, b.edition, b.seq⟩
      else if b.seq = m.writer.expected then (m.holding ⟨slot, b.edition, b.seq⟩).treat env pickup (b.chunk slot)
      else (m.holding ⟨slot, b.edition, b.seq⟩).modWriter fun w => w.park (b.chunk slot) :=
  rfl

/-- A chunk of this sequence is parked. -/
theorem parked_any_iff (parked : List Chunk) (seq : Nat) :
    parked.any (fun d => d.seq == seq) = true ↔ ∃ d ∈ parked, d.seq = seq := by
  simp only [List.any_eq_true, beq_iff_eq]

/-- The place of a chunk in the parked set: behind the lower sequences, before the higher ones. -/
theorem parkInto_eq (c : Chunk) {parked : List Chunk} (ordered : parked.Pairwise fun x y => x.seq < y.seq)
    (new : ∀ d ∈ parked, d.seq ≠ c.seq) :
    parkInto c parked =
      parked.filter (fun d => decide (d.seq < c.seq)) ++ c :: parked.filter fun d => decide (c.seq < d.seq) := by
  induction parked with
  | nil => rfl
  | cons d rest ih =>
    obtain ⟨above, ordered⟩ := List.pairwise_cons.mp ordered
    by_cases lower : c.seq < d.seq
    · have none_below : rest.filter (fun x => decide (x.seq < c.seq)) = [] :=
        List.filter_eq_nil_iff.mpr fun x mem => by have := above x mem; simp; omega
      have all_above : rest.filter (fun x => decide (c.seq < x.seq)) = rest :=
        List.filter_eq_self.mpr fun x mem => by have := above x mem; simp; omega
      rw [parkInto, if_pos lower, List.filter_cons_of_neg (by simp; omega), List.filter_cons_of_pos (by simpa using lower),
        none_below, all_above, List.nil_append]
    · have other := new d List.mem_cons_self
      rw [parkInto, if_neg lower, ih ordered fun x mem => new x (List.mem_cons_of_mem _ mem),
        List.filter_cons_of_pos (by simp; omega), List.filter_cons_of_neg (by simpa using lower), List.cons_append]

/-! ### Admission (R110, R122) -/

/-- The key-wait passes over a chunk. -/
def Writer.Skips (w : Writer) (c : Chunk) : Prop :=
  w.keyWait = true ∧ c.kind = .video ∧ c.key = false

theorem Chunk.keyVideo_iff (c : Chunk) : c.keyVideo = true ↔ c.kind = .video ∧ c.key = true := by
  rw [Chunk.keyVideo, Bool.and_eq_true, decide_eq_true_iff]

theorem Chunk.keyVideo_eq (c : Chunk) : c.keyVideo = decide (c.kind = .video ∧ c.key = true) := by
  rw [Bool.eq_iff_iff, Chunk.keyVideo_iff, decide_eq_true_iff]

/-- The chunk begins the next clip. -/
def Writer.Rolls (w : Writer) (c : Chunk) : Prop :=
  (c.kind = .video ∧ c.key = true) ∧ (w.limits.clipSeconds : Int) * 1000000 ≤ (c.stamp - w.admissionStart).toInt

theorem Writer.rollsOver_iff (w : Writer) (c : Chunk) : w.rollsOver c = true ↔ w.Rolls c := by
  rw [Writer.rollsOver, Bool.and_eq_true, Chunk.keyVideo_iff, decide_eq_true_iff]
  rfl

theorem Writer.skips_iff (w : Writer) (c : Chunk) : (w.keyWait && decide (c.kind = .video) && !c.key) = true ↔ w.Skips c := by
  simp only [Bool.and_eq_true, decide_eq_true_eq, Bool.not_eq_true', Writer.Skips, and_assoc]

/-- A chunk joins the write queue. -/
def Media.queueChunk (m : Media) (pickup : Stamp) (c : Chunk) (opens : Bool) (start : Stamp) : Media :=
  { m with writer := { m.writer with
    queue := m.writer.queue ++ [{ c with opensClip := opens }]
    admissionStart := start
    keyWait := m.writer.keyWait && !decide (c.kind = .video ∧ c.key = true)
    expected := m.writer.expected + 1
    starvation := some ⟨pickup, m.writer.limits.starvationSeconds * 1000000⟩ } }

theorem Media.admitOne_of_skipped {m : Media} {c : Chunk} (env : Env) (pickup : Stamp) (h : m.writer.Skips c) :
    m.admitOne env pickup c =
      ((m.finish env .skipped c).modWriter fun w => w.addDrops 1).modWriter fun w => { w with expected := w.expected + 1 } :=
  if_pos ((m.writer.skips_iff c).mpr h)

theorem Media.admitOne_of_not_skipped {m : Media} {c : Chunk} (env : Env) (pickup : Stamp) (h : ¬m.writer.Skips c) :
    m.admitOne env pickup c = (if m.writer.rollsOver c then m.flush else m).queueChunk pickup c (m.writer.rollsOver c)
      (if m.writer.rollsOver c then c.stamp else (if m.writer.rollsOver c then m.flush else m).writer.admissionStart) := by
  rw [Media.admitOne, if_neg (mt (m.writer.skips_iff c).mp h)]
  rw [Media.queueChunk, ← Chunk.keyVideo_eq]
  rfl

theorem Media.admitOne_of_not_rolls {m : Media} {c : Chunk} (env : Env) (pickup : Stamp) (h : ¬m.writer.Skips c)
    (stays : ¬m.writer.Rolls c) : m.admitOne env pickup c = m.queueChunk pickup c false m.writer.admissionStart := by
  rw [Media.admitOne_of_not_skipped env pickup h, Bool.eq_false_iff.mpr (mt (m.writer.rollsOver_iff c).mp stays)]
  rfl

theorem Media.admitOne_of_rolls {m : Media} {c : Chunk} (env : Env) (pickup : Stamp) (h : ¬m.writer.Skips c)
    (rolls : m.writer.Rolls c) : m.admitOne env pickup c = m.flush.queueChunk pickup c true c.stamp := by
  rw [Media.admitOne_of_not_skipped env pickup h, (m.writer.rollsOver_iff c).mpr rolls]
  rfl

/-- The open clip's drop count rises, of a volume that is mounted. -/
theorem Writer.addDrops_of_open {w : Writer} {d : Tables} {i : Nat} (n : Nat) (mounted : w.mounted = true)
    (tables : w.tables = some d) (index : d.openIndex = some i) (some_ : n ≠ 0) :
    w.addDrops n = { w with
      tables := some { d with dir := d.dir.modify i (Option.map fun e => { e with drops := e.drops + n }) }
      updates := addOnce w.updates (1 + i / 2)
      mirrorDirty := addOnce w.mirrorDirty i } := by
  have open_ : w.openIndex = some i := by rw [Writer.openIndex, if_pos mounted, tables]; exact index
  have changed (f : Clip → Clip) : w.changeEntry i f = { w with
      tables := w.tables.map fun t => t.modClip i f
      updates := addOnce w.updates (1 + i / 2)
      mirrorDirty := addOnce w.mirrorDirty i } := rfl
  rw [Writer.addDrops, open_]
  show (if n = 0 then w else _) = _
  rw [if_neg some_, changed, tables]
  rfl

theorem Media.receipt_of_held {m : Media} {h : HeldSlot} (env : Env) (status : ReceiptStatus) (held : m.writer.held.contains h = true) :
    m.receipt env status h = { m with
      writer := { m.writer with held := m.writer.held.filter fun x => decide (x ≠ h) }
      exch := m.exch.writeRecord env.now (receiptRecord h status) } :=
  if_pos held

/-! ### The stop and the parked chunks (R110, R111, R123) -/

theorem Media.checkStop_of_not_passed {m : Media} (env : Env)
    (h : ∀ l, m.writer.stopPending = some l → m.writer.expected ≤ l) : m.checkStop env = m := by
  refine if_neg fun reached => ?_
  unfold Writer.stopReached at reached
  split at reached
  · cases reached
  next l pending =>
    have := h l pending
    rw [decide_eq_true_iff] at reached
    omega

theorem Media.checkStop_of_passed {m : Media} {l : Nat} (env : Env) (pending : m.writer.stopPending = some l)
    (passed : l < m.writer.expected) : m.checkStop env = m.closeBegin env .request := by
  refine if_pos ?_
  rw [Writer.stopReached, pending]
  exact decide_eq_true passed

/-- Admission of a chunk leaves the parked ones. -/
theorem Media.admitOne_parked (m : Media) (env : Env) (pickup : Stamp) (c : Chunk) :
    (m.admitOne env pickup c).writer.parked = m.writer.parked := by
  have drops (w : Writer) : (w.addDrops 1).parked = w.parked := by
    unfold Writer.addDrops
    split <;> rfl
  by_cases skips : m.writer.Skips c
  · rw [Media.admitOne_of_skipped env pickup skips]
    show ((m.finish env .skipped c).writer.addDrops 1).parked = _
    rw [drops, Media.finish_writer]
  · by_cases rolls : m.writer.Rolls c
    · rw [Media.admitOne_of_rolls env pickup skips rolls]
      show m.flush.writer.parked = _
      rw [Media.flush_writer]
    · rw [Media.admitOne_of_not_rolls env pickup skips rolls]
      rfl

/-- The stop leaves the parked chunks, or begins a close, which has none. -/
theorem Media.checkStop_parked (m : Media) (env : Env) :
    (m.checkStop env).writer.parked = m.writer.parked ∨ (m.checkStop env).writer.parked = [] := by
  unfold Media.checkStop
  split
  · by_cases h : m.writer.state = .recording
    · obtain ⟨held, queue, eq⟩ := Media.closeBegin_writer env .request h
      rw [eq]
      exact .inr rfl
    · rw [Media.closeBegin_of_not_recording _ _ h]
      exact .inl rfl
  · exact .inl rfl

/-- A parked chunk admitted leaves no more parked than the rest. -/
theorem Media.admitted_parked (m : Media) (env : Env) (pickup : Stamp) (c : Chunk) (rest : List Chunk) :
    (((m.modWriter fun w => { w with parked := rest }).admitOne env pickup c).checkStop env).writer.parked.length
      ≤ rest.length := by
  rcases Media.checkStop_parked ((m.modWriter fun w => { w with parked := rest }).admitOne env pickup c) env with eq | eq
  · rw [eq, Media.admitOne_parked]
    exact Nat.le_refl _
  · rw [eq]
    exact Nat.zero_le _

/-- The treatment stops: no chunk is parked that stands at the expected sequence of a recording. -/
theorem Media.admitParked_of_stop {m : Media} (env : Env) (pickup : Stamp) (n : Nat)
    (h : m.writer.state = .recording → ∀ c rest, m.writer.parked = c :: rest → c.seq ≠ m.writer.expected) :
    Media.admitParked env pickup n m = m := by
  cases n with
  | zero => rfl
  | succ n =>
    unfold Media.admitParked
    split
    next c rest state parked => exact if_neg (h state c rest parked)
    next => rfl

theorem Media.admitParked_succ {m : Media} {c : Chunk} {rest : List Chunk} (env : Env) (pickup : Stamp) (n : Nat)
    (state : m.writer.state = .recording) (parked : m.writer.parked = c :: rest) (seq : c.seq = m.writer.expected) :
    Media.admitParked env pickup (n + 1) m = Media.admitParked env pickup n
      (((m.modWriter fun w => { w with parked := rest }).admitOne env pickup c).checkStop env) := by
  rw [Media.admitParked, state, parked]
  exact if_pos seq

/-- Whatever the number of turns, when there are as many as chunks are parked. -/
theorem Media.admitParked_enough (env : Env) (pickup : Stamp) (n k : Nat) (m : Media) (hn : m.writer.parked.length ≤ n)
    (hk : m.writer.parked.length ≤ k) : Media.admitParked env pickup n m = Media.admitParked env pickup k m := by
  induction n generalizing m k with
  | zero =>
    have empty : m.writer.parked = [] := List.eq_nil_of_length_eq_zero (Nat.le_zero.mp hn)
    have stops : m.writer.state = .recording → ∀ c rest, m.writer.parked = c :: rest → c.seq ≠ m.writer.expected :=
      fun _ c rest parked => by rw [empty] at parked; cases parked
    rw [Media.admitParked_of_stop env pickup _ stops, Media.admitParked_of_stop env pickup _ stops]
  | succ n ih =>
    by_cases goes : m.writer.state = .recording ∧ ∃ c rest, m.writer.parked = c :: rest ∧ c.seq = m.writer.expected
    · obtain ⟨state, c, rest, parked, seq⟩ := goes
      have fewer := m.admitted_parked env pickup c rest
      rw [parked, List.length_cons] at hn hk
      obtain ⟨k, rfl⟩ := Nat.exists_eq_add_of_lt (Nat.lt_of_lt_of_le (Nat.succ_pos _) hk)
      rw [Nat.zero_add, Media.admitParked_succ env pickup n state parked seq, Media.admitParked_succ env pickup k state parked seq]
      exact ih k _ (by omega) (by omega)
    · have stops : m.writer.state = .recording → ∀ c rest, m.writer.parked = c :: rest → c.seq ≠ m.writer.expected :=
        fun state c rest parked seq => goes ⟨state, c, rest, parked, seq⟩
      rw [Media.admitParked_of_stop env pickup _ stops, Media.admitParked_of_stop env pickup _ stops]

/-- The parked chunks are treated in turn: the lowest one is admitted, and the rest follow. -/
theorem Media.treatParked_of_next {m : Media} {c : Chunk} {rest : List Chunk} (env : Env) (pickup : Stamp)
    (state : m.writer.state = .recording) (parked : m.writer.parked = c :: rest) (seq : c.seq = m.writer.expected) :
    m.treatParked env pickup =
      (((m.modWriter fun w => { w with parked := rest }).admitOne env pickup c).checkStop env).treatParked env pickup := by
  rw [Media.treatParked, parked, List.length_cons, Media.admitParked_succ env pickup _ state parked seq,
    Media.admitParked_enough env pickup _ _ _ (m.admitted_parked env pickup c rest) (Nat.le_refl _)]
  rfl

theorem Media.treatParked_of_stop {m : Media} (env : Env) (pickup : Stamp)
    (h : m.writer.state = .recording → ∀ c rest, m.writer.parked = c :: rest → c.seq ≠ m.writer.expected) :
    m.treatParked env pickup = m.modWriter Writer.restartGap := by
  rw [Media.treatParked, Media.admitParked_of_stop env pickup _ h]

theorem Writer.restartGap_of_none {w : Writer} (h : w.state ≠ .recording ∨ w.parked = []) : w.restartGap = w :=
  if_neg fun ⟨state, parked⟩ => h.elim (fun h => h state) parked

theorem Writer.restartGap_of_parked {w : Writer} (state : w.state = .recording) (parked : w.parked ≠ []) :
    w.restartGap = { w with gapCount := 0, gapFresh := true } :=
  if_pos ⟨state, parked⟩

/-! ### The notice of a pickup (R111) -/

theorem Media.pickupComplete_of_none {m : Media} (env : Env) (pickup : Stamp)
    (h : m.writer.state ≠ .recording ∨ m.writer.parked = [] ∨ m.writer.gapFresh = true) :
    m.pickupComplete env pickup = m.modWriter fun w => { w with gapFresh := false } := by
  have nothing : ¬(m.writer.state = .recording ∧ m.writer.parked ≠ [] ∧ m.writer.gapFresh = false) := by
    rintro ⟨state, parked, fresh⟩
    rcases h with h | h | h
    · exact h state
    · exact parked h
    · rw [h] at fresh; cases fresh
  rw [Media.pickupComplete]
  dsimp only
  rw [if_neg nothing]

theorem Media.pickupComplete_of_parked {m : Media} (env : Env) (pickup : Stamp) (state : m.writer.state = .recording)
    (parked : m.writer.parked ≠ []) (fresh : m.writer.gapFresh = false) :
    m.pickupComplete env pickup =
      (if m.writer.limits.gapWait ≤ m.writer.gapCount + 1 then
        (m.modWriter fun w => { w with gapCount := w.gapCount + 1 }).jump env pickup
      else m.modWriter fun w => { w with gapCount := w.gapCount + 1 }).modWriter fun w => { w with gapFresh := false } := by
  rw [Media.pickupComplete]
  dsimp only
  rw [if_pos ⟨state, parked, fresh⟩]

theorem Media.jump_of_parked {m : Media} {c : Chunk} {rest : List Chunk} (env : Env) (pickup : Stamp)
    (parked : m.writer.parked = c :: rest) :
    m.jump env pickup = (((m.modWriter fun w => w.addDrops (c.seq - w.expected)).modWriter fun w =>
      { w with expected := c.seq, keyWait := true }).checkStop env).treatParked env pickup := by
  rw [Media.jump, parked]

end Sys2Proof.Machine
end

section
/-! PROOFS. The reads of the boards, and what CHUNK_BOARD_READ_COMPLETE does, settled (R108 to R111, R193 to R195, R199). -/

namespace Sys2Proof.Machine

/-! ### The end of a pickup (R193, R194) -/

/-- The pickup that ends leaves none, or the one held since begins. -/
theorem Exchange.endPickup_eq (e : Exchange) (now : Stamp) :
    e.endPickup now = if e.state = .running ∧ e.pickupHeld = true then { e with
        transfers := e.transfers ++ [⟨.requestBoard, e.base + 0x200, none, 512, now⟩]
        pickup := some ⟨now, .requests, false⟩
        pickupHeld := false
        periodWait := some ⟨now, e.periodMicros⟩
        periodOwed := e.periodOwed || waitDue e.periodWait now }
      else { e with pickup := none, pickupHeld := false } := by
  have begins : (e.running && e.pickupHeld) = true ↔ e.state = .running ∧ e.pickupHeld = true := by
    rw [Bool.and_eq_true, Exchange.running_iff]
  by_cases h : e.state = .running ∧ e.pickupHeld = true
  · rw [if_pos h]
    exact if_pos (begins.mpr h)
  · rw [if_neg h]
    exact if_neg (mt begins.mp h)

/-! ### CHUNK_BOARD_READ_COMPLETE -/

section
variable {s : State} {n : Nat} {bytes : List Byte} {p : Pickup}

/-- The state as the notice that follows the 24 slots leaves it. -/
def State.chunksOffered (s : State) (n : Nat) (bytes : List Byte) (stamp : Stamp) : State :=
  (List.range 24).foldl (State.offerChunk stamp bytes) (s.modExch fun e => e.dropTransfer n)

theorem exec_chunkBoardReadComplete (read : (s.media.exch.transferAt n).map Transfer.purpose = some .chunkBoard)
    (pickup : s.media.exch.pickup = some p) :
    exec (.chunkBoardReadComplete n bytes) s = .next ((s.chunksOffered n bytes p.stamp).afterChunks p).settle := by
  show Host.Outcome.next (s.chunksRead n bytes).settle = _
  simp only [State.chunksRead, read, pickup]
  rfl

theorem State.afterChunks_of_going_on (h : p.ending = false) :
    s.afterChunks p = (s.noticePickup p.stamp).writeReport p := by
  rw [State.afterChunks, h]
  rfl

theorem State.afterChunks_of_ending (h : p.ending = true) :
    s.afterChunks p = (s.noticePickup p.stamp).endPickup := by
  rw [State.afterChunks, h]
  rfl

/-- The head of the report page is issued (R196, R199). -/
theorem State.writeReport_eq (s : State) (p : Pickup) :
    s.writeReport p = s.modExch fun e => { e with
      pickup := some { p with stage := .report }
      reportEdition := nextEdition e.reportEdition
      transfers := e.transfers ++ [⟨.record (s.reportRecord p.stamp) .head, e.base + 0x1800,
        some (toLe 2 (nextEdition e.reportEdition).toNat), 2, s.clock.count⟩] } :=
  rfl
end

end Sys2Proof.Machine

namespace Sys2Proof.Proofs
open Sys2Proof.Machine

/-- Settles O52: the slots by their editions, the checks in their order, admission by the key-wait and the length limit, the parked set by
induction on the turns it takes, and the notice by the gap count. -/
theorem chunkBoard : Obligations.ChunkBoard := by
  refine ⟨fun s n bs p read pickup goesOn => ?_, fun s n bs p read pickup ending => ?_, fun s stamp bytes slot => ?_,
    fun m env pickup slot b => ?_, fun m env pickup c => ?_, fun m env => ⟨m.checkStop_of_not_passed env,
      fun l pending passed => m.checkStop_of_passed env pending passed⟩, fun m env pickup => ?_⟩
  · rw [exec_chunkBoardReadComplete read pickup, State.afterChunks_of_going_on goesOn, State.writeReport_eq]
    rfl
  · rw [exec_chunkBoardReadComplete read pickup, State.afterChunks_of_ending ending]
    exact congrArg (fun e => Host.Outcome.next (State.settle { ((s.chunksOffered n bs p.stamp).noticePickup p.stamp) with
      media := { ((s.chunksOffered n bs p.stamp).noticePickup p.stamp).media with exch := e } })) (Exchange.endPickup_eq _ _)
  · refine ⟨fun isTorn => State.offerChunk_of_torn stamp isTorn, fun whole old => ?_, fun whole nonzero new free => ?_,
      fun held whole nonzero new holds => ⟨fun other => ?_, fun same => ?_⟩⟩
    · exact State.offerChunk_of_old stamp whole old
    · refine (State.offerChunk_of_new stamp whole nonzero new).trans ?_
      rw [free]
      rfl
    · refine (State.offerChunk_of_new stamp whole nonzero new).trans ?_
      rw [holds]
      exact if_neg other
    · refine (State.offerChunk_of_new stamp whole nonzero new).trans ?_
      rw [holds, ← same]
      exact if_pos rfl
  · intro w h new largest malformed parked now taken
    refine ⟨fun bad tables => ?_, fun good tables => ⟨fun state => ?_, fun state stale => ?_, fun k kind state fresh =>
      ⟨fun seq => ?_, fun ahead ordered => ?_⟩⟩⟩
    · rw [Media.takeChunk_eq, if_pos ((Writer.malformed_iff b tables).mpr bad), Media.receipt_holding env _ new]
    all_goals rw [Media.takeChunk_eq, if_neg (mt (Writer.malformed_iff b tables).mp good)]
    · rw [if_pos state, Media.receipt_holding env _ new]
    all_goals rw [if_neg (not_not_intro state)]
    · rw [if_pos (stale.imp_right (parked_any_iff _ _).mpr), Media.receipt_holding env _ new]
    · have notStale : ¬(b.seq < m.writer.expected ∨ m.writer.parked.any (fun d => d.seq == b.seq) = true) := by
        rw [parked_any_iff]
        exact not_or.mpr ⟨Nat.not_lt.mpr (Nat.le_of_eq seq.symm), fresh⟩
      rw [if_neg notStale, if_pos seq, PostedChunk.chunk_of_kind kind]
      rfl
    · have notStale : ¬(b.seq < m.writer.expected ∨ m.writer.parked.any (fun d => d.seq == b.seq) = true) := by
        rw [parked_any_iff]
        exact not_or.mpr ⟨Nat.not_lt.mpr (Nat.le_of_lt ahead), fresh⟩
      rw [if_neg notStale, if_neg (Nat.ne_of_gt ahead), PostedChunk.chunk_of_kind kind]
      have place := parkInto_eq (⟨k, b.key, b.seq, b.stamp, b.length, .slot slot b.edition b.address, false⟩ : Chunk) ordered
        fun d mem same => fresh ⟨d, mem, same⟩
      exact congrArg (fun parked => { taken with writer := { taken.writer with
        parked := parked
        gapCount := if w.parked = [] then 0 else w.gapCount
        gapFresh := w.gapFresh || decide (w.parked = []) } }) place
  · refine ⟨fun h address i d e skips source seq held mounted tables index entry => ?_, fun notSkips => ⟨fun stays => ?_, fun rolls => ?_⟩⟩
    · have receipt : m.finish env .skipped c = m.receipt env .skipped h := by
        rw [Media.finish, source, ← seq]
      rw [Media.admitOne_of_skipped env pickup skips, receipt, Media.receipt_of_held env _ held]
      dsimp only [Media.modWriter]
      rw [Writer.addDrops_of_open (d := d) (i := i) 1]
      · exact mounted
      · exact tables
      · exact index
      · exact Nat.one_ne_zero
    · exact Media.admitOne_of_not_rolls env pickup notSkips stays
    · have keyWait : m.flush.writer.keyWait = m.writer.keyWait := by rw [m.flush_writer]
      have expected : m.flush.writer.expected = m.writer.expected := by rw [m.flush_writer]
      have limits : m.flush.writer.limits = m.writer.limits := by rw [m.flush_writer]
      rw [Media.admitOne_of_rolls env pickup notSkips rolls, Media.queueChunk, keyWait, expected, limits]
  · refine ⟨fun h => ?_, fun c rest state parked other => ?_, fun c rest state parked seq => m.treatParked_of_next env pickup state parked seq,
      fun h => m.pickupComplete_of_none env pickup h, fun c rest state parked fresh => ⟨fun early => ?_,
        fun i d e late ahead mounted tables index entry => ?_⟩⟩
    · rw [Media.treatParked_of_stop env pickup]
      · exact congrArg (fun w => { m with writer := w }) (Writer.restartGap_of_none h)
      · intro state c rest parked
        rcases h with h | h
        · exact absurd state h
        · rw [parked] at h; cases h
    · rw [Media.treatParked_of_stop env pickup]
      · exact congrArg (fun w => { m with writer := w })
          (Writer.restartGap_of_parked state (by rw [parked]; exact List.cons_ne_nil _ _))
      · intro _ c' rest' parked'
        rw [parked] at parked'
        cases parked'
        exact other
    · rw [Media.pickupComplete_of_parked env pickup state (by rw [parked]; exact List.cons_ne_nil _ _) fresh,
        if_neg (Nat.not_le.mpr early)]
      rfl
    · rw [Media.pickupComplete_of_parked env pickup state (by rw [parked]; exact List.cons_ne_nil _ _) fresh, if_pos late,
        Media.jump_of_parked (c := c) (rest := rest) env pickup]
      · dsimp only [Media.modWriter]
        rw [Writer.addDrops_of_open (d := d) (i := i)]
        · exact mounted
        · exact tables
        · exact index
        · exact Nat.sub_ne_zero_of_lt ahead
      · exact parked

end Sys2Proof.Proofs
end

section
/-! PROOFS. The Ride Clock's commands: pulses, slow ticks and handovers (R2 to R7, R179). -/

namespace Sys2Proof.Machine

theorem exec_fastPulse (s : State) : exec .fastPulse s = .next { s with clock := s.clock.pulse } := rfl

theorem exec_slowTick (s : State) : exec .slowTick s = .next s.slowTick := rfl

theorem exec_settleComplete (s : State) : exec .settleComplete s = .next (if s.completes then s.slowTick else s) := rfl

/-! ### A pulse (R2) -/

theorem Clock.pulse_of_slow {c : Clock} (h : c.path = .slow) : c.pulse = c := by
  rw [Clock.pulse, h]

theorem Clock.pulse_within_group {c : Clock} (h : c.path = .fast) (bound : c.group < 128) : c.pulse = { c with
    count := if c.group = 42 ∨ c.group = 85 ∨ c.group = 127 then c.count else c.count + 1
    group := if c.group = 127 then 0 else c.group + 1 } := by
  have wraps : (c.group + 1) % 128 = if c.group = 127 then 0 else c.group + 1 := by split <;> omega
  have fast : c.pulse = { (if removedPulse c.group then c else c.advance 1) with group := (c.group + 1) % 128 } := by
    rw [Clock.pulse, h]
  rw [fast, wraps]
  simp only [removedPulse, decide_eq_true_eq]
  by_cases removed : c.group = 42 ∨ c.group = 85 ∨ c.group = 127
  · rw [if_pos removed, if_pos removed]
  · rw [if_neg removed, if_neg removed]
    rfl

/-! ### A slow tick (R3 to R7, R12) -/

/-- The count and the fraction after a slow tick, of a part on the slow path. -/
theorem Clock.slowAdvance_cases (c : Clock) : c.slowAdvance = if c.fraction + 265 ≤ 511
    then { c with count := c.count + 30, fraction := c.fraction + 265 }
    else { c with count := c.count + 31, fraction := c.fraction + 265 - 512 } := rfl

theorem Clock.tick_of_none {c : Clock} (settled : Bool) (path : c.path = .slow) (h : c.handover = .none) :
    c.tick settled = c.slowAdvance := by
  rw [Clock.tick, h, path]

theorem Clock.tick_of_toFast {c : Clock} (settled : Bool) (path : c.path = .slow) (h : c.handover = .toFast) :
    c.tick settled = if settled then c.toFast else c.slowAdvance := by
  rw [Clock.tick, h, path]

theorem Clock.tick_of_fast {c : Clock} (settled : Bool) (path : c.path = .fast) (h : c.handover = .none) : c.tick settled = c := by
  rw [Clock.tick, h, path]

theorem Clock.tick_of_toSlow {c : Clock} (settled : Bool) (h : c.handover = .toSlow) : c.tick settled = c.toSlow := by
  rw [Clock.tick, h]

/-- The settle that is being counted: in WAKING, or awake with the handover to the fast path pending. -/
theorem State.settling_iff (s : State) :
    s.settling = true ↔ s.power.state = .waking ∨ (s.power.state ≠ .dormant ∧ s.clock.handover = .toFast) := by
  unfold State.settling
  cases state : s.power.state <;> simp

/-- The slow ticks that a settle takes (R6, R12). -/
theorem Power.settleLimit_eq (p : Power) : p.settleLimit = if p.settleFast then 32 else 4096 := rfl

theorem State.completes_iff (s : State) : s.completes = true ↔
    (s.power.state = .waking ∨ (s.power.state ≠ .dormant ∧ s.clock.handover = .toFast)) ∧
    (if s.power.settleFast then 32 else 4096) ≤ s.power.settleCount + 1 := by
  rw [State.completes, Bool.and_eq_true, State.settling_iff, decide_eq_true_iff, Power.settleLimit_eq]

/-- The clock and the settle count after a slow tick. -/
def State.ticked (s : State) (done : Bool) (count : Nat) : State :=
  { s with clock := s.clock.tick done, power := { s.power with settleCount := count } }

theorem State.slowTick_of_not_settling {s : State} (h : s.settling = false) :
    s.slowTick = s.ticked false s.power.settleCount := by
  have notDone : s.completes = false := by rw [State.completes, h]; rfl
  rw [State.slowTick, notDone, h]
  rfl

theorem State.slowTick_of_counting {s : State} (h : s.settling = true) (notDone : s.completes = false) :
    s.slowTick = s.ticked false (s.power.settleCount + 1) := by
  rw [State.slowTick, notDone, h]
  rfl

theorem State.slowTick_of_done {s : State} (done : s.completes = true) : s.slowTick =
    if s.power.state = .waking then (s.ticked true (s.power.settleCount + 1)).setPower .standby
    else s.ticked true (s.power.settleCount + 1) := by
  have settling : s.settling = true := (Bool.and_eq_true_iff.mp done).1
  have unfolded : s.slowTick = if s.completes = true ∧ s.power.state = .waking
      then (s.ticked s.completes (if s.settling then s.power.settleCount + 1 else s.power.settleCount)).setPower .standby
      else s.ticked s.completes (if s.settling then s.power.settleCount + 1 else s.power.settleCount) := rfl
  rw [unfolded, done, settling]
  simp only [true_and, if_true]

/-- The entry to STANDBY from WAKING, with the clock on the fast path already. -/
theorem State.setPower_standby_of_waking {s : State} (state : s.power.state = .waking) (path : s.clock.path = .fast) :
    s.setPower .standby = { s with
      clock := { s.clock with handover := .none }
      power := { s.power with state := .standby, cause := .none, closeTarget := none }
      gauge := { s.gauge with slowCadence := false }
      incident := { s.incident with key := { s.incident.key with state := .up, debouncing := false, hold := none } } } := by
  have required : s.clock.powerChange .standby = { s.clock with handover := .none } := if_pos path
  have whole : s.changed .standby = (s.powerChanged .standby).railChanged s.power.state .standby := rfl
  have same : (s.powerChanged .standby).railChanged s.power.state .standby = s.powerChanged .standby := by rw [state]; rfl
  rw [s.setPower_of_not_run .standby PowerState.noConfusion, whole, same, State.powerChanged, required, state, Power.change, state]
  rfl

end Sys2Proof.Machine

namespace Sys2Proof.Proofs
open Sys2Proof.Machine

/-- Settles O4, by the path and by whether a settle is being counted. -/
theorem clockTicks : Obligations.ClockTicks := by
  refine ⟨fun s bound => ⟨fun fast => ?_, fun slow => ?_⟩, fun s slow => ⟨fun dormant none => ?_, fun awake pending early => ?_⟩,
    fun s fast none awake => ?_⟩
  · rw [exec_fastPulse, Clock.pulse_within_group fast bound]
  · rw [exec_fastPulse, Clock.pulse_of_slow slow]
  · have still : s.settling = false := by
      rw [Bool.eq_false_iff, ne_eq, State.settling_iff, dormant, none]
      simp
    rw [exec_slowTick, State.slowTick_of_not_settling still, State.ticked, Clock.tick_of_none _ slow none]
    rfl
  · have counting : s.settling = true := by
      rw [State.settling_iff, pending]
      rcases awake with h | h | h | h <;> simp [h]
    have notDone : s.completes = false := by
      rw [Bool.eq_false_iff, ne_eq, State.completes_iff]
      exact fun done => Nat.not_le.mpr early done.2
    rw [exec_slowTick, State.slowTick_of_counting counting notDone, State.ticked, Clock.tick_of_toFast _ slow pending]
    rfl
  · have still : s.settling = false := by
      rw [Bool.eq_false_iff, ne_eq, State.settling_iff, none]
      simp [awake]
    rw [exec_slowTick, State.slowTick_of_not_settling still, State.ticked, Clock.tick_of_fast _ fast none]

/-- Settles O6: a slow tick by the handover that is pending, and the settle by whether it is complete. -/
theorem handovers : Obligations.Handovers := by
  refine ⟨fun s dormant pending => ?_, fun s waking slow pending done => ?_, fun s => ⟨fun awake slow pending done => ?_, fun h => ?_⟩⟩
  · have still : s.settling = false := by
      rw [Bool.eq_false_iff, ne_eq, State.settling_iff, dormant]
      simp
    refine ⟨?_, ?_⟩
    · rw [exec_slowTick, State.slowTick_of_not_settling still, State.ticked, Clock.tick_of_toSlow _ pending]
      rfl
    · rw [exec_fastPulse, Clock.pulse_of_slow]
      rfl
  · have completes : s.completes = true := s.completes_iff.mpr ⟨.inl waking, done⟩
    rw [exec_settleComplete, if_pos completes, State.slowTick_of_done completes, if_pos waking, State.ticked,
      Clock.tick_of_toFast _ slow pending, State.setPower_standby_of_waking]
    · rfl
    · exact waking
    · rfl
  · have other : s.power.state ≠ .dormant ∧ s.power.state ≠ .waking := by
      rcases awake with h | h | h <;> rw [h] <;> exact ⟨PowerState.noConfusion, PowerState.noConfusion⟩
    have completes : s.completes = true := s.completes_iff.mpr ⟨.inr ⟨other.1, pending⟩, done⟩
    rw [exec_settleComplete, if_pos completes, State.slowTick_of_done completes, if_neg other.2, State.ticked,
      Clock.tick_of_toFast _ slow pending]
    rfl
  · have not : ¬s.completes = true := by
      rw [State.completes_iff]
      rintro ⟨settling, done⟩
      rcases h with dormant | ⟨awake, other⟩ | notDone
      · rw [dormant] at settling
        simp at settling
      · rcases settling with waking | ⟨-, pending⟩
        · rw [waking] at awake
          simp at awake
        · exact other pending
      · exact notDone done
    rw [exec_settleComplete, if_neg not]

end Sys2Proof.Proofs
end

section
/-! PROOFS. What the COLD and the SUPPLY reset leave (R12, R33, R46, R69, R83, R106, R132, R149, R167, R178, R186 to R191). -/

namespace Sys2Proof.Machine

/-! ### A writer that halts (R129) -/

theorem Media.halt_of_halted {m : Media} (env : Env) (h : m.writer.state = .halted) : m.halt env = m :=
  if_pos h

/-- The media as the halt has dropped the work of the Card Port and the writer, before the tables of a job go. -/
def Media.halted (m : Media) (env : Env) : Media :=
  (((((m.modWriter fun w => w.addDrops (hostCount w.admitted)).enter .halted).modCard Card.withdrawAll).modWriter
    Writer.restoreFlight).abandonHeld env).failAll env .supply

theorem Media.halt_of_not_halted {m : Media} (env : Env) (h : m.writer.state ≠ .halted) :
    m.halt env = if m.writer.job.isSome then (m.halted env).dropVolume else m.halted env :=
  if_neg h

/-- The writer once it is HALTED, but for its volume. -/
theorem Media.halted_writer (m : Media) (env : Env) :
    ∃ held queue, (m.halted env).writer =
      { ((m.writer.addDrops (hostCount m.writer.admitted)).enter .halted).restoreFlight.clearClose with
        parked := [], wip := none, held := held, queue := queue, waiting := [], stopSlots := [], unmounting := none
        hostReset := false, readBack := none, job := none } := by
  unfold Media.halted
  rw [Media.failAll_writer]
  obtain ⟨held, queue, eq⟩ := Media.abandonHeld_writer ((((m.modWriter fun w => w.addDrops (hostCount w.admitted)).enter
    .halted).modCard Card.withdrawAll).modWriter Writer.restoreFlight) env
  rw [eq]
  exact ⟨held, queue, rfl⟩

theorem Writer.restoreFlight_state (w : Writer) : w.restoreFlight.state = w.state := by
  unfold Writer.restoreFlight
  split <;> rfl

theorem Media.halt_state (m : Media) (env : Env) : (m.halt env).writer.state = .halted := by
  by_cases h : m.writer.state = .halted
  · rw [Media.halt_of_halted env h, h]
  · have halted : (m.halted env).writer.state = .halted := by
      obtain ⟨held, queue, eq⟩ := m.halted_writer env
      rw [eq]
      exact Writer.restoreFlight_state _
    rw [Media.halt_of_not_halted env h]
    split
    · rw [Media.dropVolume_writer]
      exact halted
    · exact halted

/-- The halt raises no flag. -/
theorem Media.halt_flagSet (m : Media) (env : Env) (f : AttnFlag) : (m.halt env).exch.flagSet f = m.exch.flagSet f := by
  have same : (m.halt env).exch.rest = m.exch.rest := congrArg Prod.fst (m.halt_rest env)
  have attn : (m.halt env).exch.attn = m.exch.attn := by
    show (m.halt env).exch.rest.attn = m.exch.rest.attn
    rw [same]
  rw [Exchange.flagSet, attn]
  rfl

/-- The supply warning as the Power State Controller is about to hear of it (R129, R147, R176). -/
def State.warned (s : State) : State :=
  let t := ({ s with gauge := { s.gauge with warning := true } } : State).raise .gauge
  { t with media := { t.media.halt ⟨s.clock.count, true⟩ with
    card := (t.media.halt ⟨s.clock.count, true⟩).card.supplyWarning s.clock.count } }

theorem State.warn_eq (s : State) : s.warn = s.warned.supplyCut := rfl

theorem State.warned_power (s : State) : s.warned.power = s.power := rfl

theorem State.warned_writer (s : State) : s.warned.media.writer.state = .halted :=
  Media.halt_state _ _

theorem State.warned_gauge (s : State) : s.warned.gauge = { s.gauge with warning := true } := rfl

theorem State.warned_flag (s : State) : s.warned.media.exch.flagSet .gauge = true :=
  (Media.halt_flagSet _ _ _).trans (Exchange.raise_flagSet _ _)

/-- With the rail OFF the Power State Controller goes on as it was. -/
theorem State.supplyCut_of_off {s : State} (h : s.power.state = .standby ∨ s.power.state = .dormant ∨ s.power.state = .waking) :
    s.supplyCut = s := by
  rcases h with h | h | h <;> simp only [State.supplyCut, h]

/-! ### A COLD or SUPPLY reset -/

theorem exec_coldReset (s : State) (usb aux low : Bool) :
    exec (.coldReset usb aux low) s = .next (s.hardReset .cold usb aux low) := rfl

theorem exec_supplyReset (s : State) (usb aux low : Bool) :
    exec (.supplyReset usb aux low) s = .next (s.hardReset .supply usb aux low) := rfl

/-- The state of a reset that finds no supply warning. -/
theorem State.hardReset_of_supply (s : State) (kind : ResetKind) (usb aux : Bool) :
    s.hardReset kind usb aux false = (s.released kind usb aux).raiseIf (usb || aux) .charge := rfl

theorem State.released_power (s : State) (kind : ResetKind) (usb aux : Bool) :
    (s.released kind usb aux).power = s.power.released kind (usb || aux) := rfl

/-- A reset that finds the supply warning: the writer HALTED, the part STANDBY or DORMANT as without it. -/
theorem State.hardReset_of_warning (s : State) (kind : ResetKind) (usb aux : Bool) :
    s.hardReset kind usb aux true = ((s.released kind usb aux).raiseIf (usb || aux) .charge).warned := by
  have off : ((s.released kind usb aux).raiseIf (usb || aux) .charge).warned.power.state = .standby ∨
      ((s.released kind usb aux).raiseIf (usb || aux) .charge).warned.power.state = .dormant ∨
      ((s.released kind usb aux).raiseIf (usb || aux) .charge).warned.power.state = .waking := by
    rw [State.warned_power, State.raiseIf_eq]
    cases usb <;> cases aux
    · exact .inr (.inl rfl)
    all_goals exact .inl rfl
  exact State.supplyCut_of_off off

/-- Whatever the levels, what the reset makes of the options and of the power state. -/
theorem State.hardReset_power (s : State) (kind : ResetKind) (usb aux low : Bool) :
    (s.hardReset kind usb aux low).power = s.power.released kind (usb || aux) ∧
    (s.hardReset kind usb aux low).options = (readStore s.power.block (s.power.blockTorn || s.power.storing.isSome)).2 := by
  cases low
  · rw [State.hardReset_of_supply, State.raiseIf_eq]
    exact ⟨rfl, rfl⟩
  · rw [State.hardReset_of_warning, State.raiseIf_eq]
    exact ⟨rfl, rfl⟩

/-! ### The store (R186) -/

theorem chargeAcceptable_iff (o : ChargeOptions) :
    chargeAcceptable o = true ↔ (o.t1 < o.t2 ∧ o.t2 < o.t3 ∧ o.t3 < o.t4) ∧ strictlyRising o.openCircuit = true := by
  simp only [chargeAcceptable, limitsOrdered, Bool.and_eq_true, decide_eq_true_eq, and_assoc]

theorem all_erased_iff (block : List Byte) : block.all (fun b => b == 0xFF#8) = true ↔ ∀ b ∈ block, b = 0xFF#8 := by
  simp only [List.all_eq_true, beq_iff_eq]

theorem readStore_of_torn (block : List Byte) : readStore block true = (.failing, .default) := rfl

theorem readStore_of_erased {block : List Byte} (h : ∀ b ∈ block, b = 0xFF#8) : readStore block false = (.blank, .default) :=
  (if_neg Bool.false_ne_true).trans (if_pos ((all_erased_iff block).mpr h))

theorem readStore_of_written {block : List Byte} (h : ¬∀ b ∈ block, b = 0xFF#8) :
    readStore block false =
      if leNat block 62 2 = (crc16Stored (slice block 0 62)).toNat ∧ chargeAcceptable (parseCharge block).value = true then
        (.valid, (parseCharge block).value)
      else (.failing, .default) :=
  (if_neg Bool.false_ne_true).trans (if_neg (mt (all_erased_iff block).mp h))

end Sys2Proof.Machine

namespace Sys2Proof.Proofs
open Sys2Proof.Machine

/-- Settles O7: the part as released, whose fields are those of the reset tables; with the warning by the halt. -/
theorem hardReset : Obligations.HardReset := by
  have fields (s : State) (kind : ResetKind) (usb aux : Bool) :
      s.hardReset kind usb aux false = { s.released kind usb aux with
        media := { (s.released kind usb aux).media with
          exch := if (usb || aux) then Exchange.reset.raise .charge else Exchange.reset } } := by
    rw [State.hardReset_of_supply, State.raiseIf_eq]
    rfl
  refine ⟨fun s usb aux c h => ?_, fun s usb aux c h => ?_⟩
  · obtain ⟨kind, run⟩ : ∃ kind, exec c s = .next (s.hardReset kind usb aux false) := by
      rcases h with rfl | rfl
      · exact ⟨_, exec_coldReset _ _ _ _⟩
      · exact ⟨_, exec_supplyReset _ _ _ _⟩
    refine ⟨_, run, ?_⟩
    rw [fields]
    cases usb <;> cases aux <;>
      exact ⟨rfl, rfl, rfl, rfl, rfl, rfl, rfl, rfl, rfl, rfl, rfl, rfl, rfl, rfl, rfl, rfl, rfl, rfl, rfl, rfl, rfl, rfl, rfl,
        rfl, rfl, rfl, rfl, rfl, rfl, rfl, rfl, rfl, rfl, rfl, rfl, rfl⟩
  · obtain ⟨kind, run⟩ : ∃ kind, exec c s = .next (s.hardReset kind usb aux true) := by
      rcases h with rfl | rfl
      · exact ⟨_, exec_coldReset _ _ _ _⟩
      · exact ⟨_, exec_supplyReset _ _ _ _⟩
    refine ⟨_, run, ?_⟩
    rw [State.hardReset_of_warning]
    exact ⟨rfl, State.warned_writer _, State.warned_flag _⟩

/-- Settles O8: the record by the kind of the reset, and the store by what it holds. -/
theorem hardResetRecord : Obligations.HardResetRecord := by
  refine ⟨fun s usb aux low c h => ?_, fun block => ⟨readStore_of_torn block, readStore_of_erased, fun written bad => ?_,
    fun written check rises => ?_⟩, fun s usb aux => ⟨?_, ?_⟩⟩
  · obtain ⟨kind, run⟩ : ∃ kind, exec c s = .next (s.hardReset kind usb aux low) := by
      rcases h with rfl | rfl
      · exact ⟨_, exec_coldReset _ _ _ _⟩
      · exact ⟨_, exec_supplyReset _ _ _ _⟩
    refine ⟨_, run, ?_⟩
    obtain ⟨power, options⟩ := s.hardReset_power kind usb aux low
    rw [power, options]
    exact ⟨rfl, rfl, rfl, rfl, rfl⟩
  · rw [readStore_of_written written, if_neg]
    rwa [chargeAcceptable_iff]
  · rw [readStore_of_written written, if_pos ⟨check, (chargeAcceptable_iff _).mpr rises⟩]
  · refine ⟨_, exec_coldReset _ _ _ _, ?_⟩
    obtain ⟨power, options⟩ := s.hardReset_power .cold usb aux false
    rw [power, options]
    refine ⟨rfl, rfl, rfl, rfl, rfl, rfl, fun erased torn idle => ?_⟩
    have found : readStore s.power.block (s.power.blockTorn || s.power.storing.isSome) = (.blank, .default) := by
      rw [torn, idle]
      exact readStore_of_erased (by rw [erased]; exact fun b mem => List.eq_of_mem_replicate mem)
    rw [Power.released, found]
    exact ⟨rfl, rfl, rfl⟩
  · refine ⟨_, exec_supplyReset _ _ _ _, ?_⟩
    obtain ⟨power, options⟩ := s.hardReset_power .supply usb aux false
    rw [power, options]
    refine ⟨rfl, rfl, fun storing => ?_⟩
    have found : readStore s.power.block (s.power.blockTorn || s.power.storing.isSome) = (.failing, .default) := by
      rw [storing, Bool.or_true]
      rfl
    rw [Power.released, found]
    exact ⟨rfl, rfl, rfl⟩

end Sys2Proof.Proofs
end

section
/-! PROOFS. The inputs, the selector, and what a report of the source can change (R150 to R152, R174, R175). -/

namespace Sys2Proof.Machine

/-! ### The card apart from the writer's chunks -/

@[simp] theorem Media.finish_card (m : Media) (env : Env) (st : ReceiptStatus) (c : Chunk) : (m.finish env st c).card = m.card := by
  unfold Media.finish Media.receipt
  split <;> (try split) <;> rfl

@[simp] theorem Media.finishAll_card (m : Media) (env : Env) (st : ReceiptStatus) (cs : List Chunk) :
    (m.finishAll env st cs).card = m.card :=
  foldl_writer Media.card (fun m c => m.finish env st c) (fun m c => m.finish_card env st c) cs m

@[simp] theorem Media.flush_card (m : Media) : m.flush.card = m.card := by
  unfold Media.flush Media.handOver
  split <;> (try split) <;> (try split) <;> rfl

@[simp] theorem Media.closeBegin_card (m : Media) (env : Env) (cause : CloseCause) : (m.closeBegin env cause).card = m.card := by
  by_cases h : m.writer.state = .recording
  · rw [Media.closeBegin_of_recording env cause h, Media.flush_card]
    exact Media.finishAll_card _ _ _ _
  · rw [Media.closeBegin_of_not_recording env cause h]

/-! ### What a report can change -/

/-- The media blocks once a report of the inputs or of the source has been heard: flags may be raised, and a close may have begun. -/
structure Media.Reported (m n : Media) : Prop where
  card : n.card = m.card
  exch : ({ n.exch with attn := 0 } : Exchange).rest = ({ m.exch with attn := 0 } : Exchange).rest
  kept : ∀ f, m.exch.flagSet f = true → n.exch.flagSet f = true
  others : ∀ f, f ≠ .gauge → f ≠ .charge → n.exch.flagSet f = m.exch.flagSet f
  state : n.writer.state = m.writer.state ∨ (m.writer.state = .recording ∧ n.writer.state = .closing)
  flight : n.writer.flight = m.writer.flight
  lastCompletion : n.writer.lastCompletion = m.writer.lastCompletion

theorem Media.Reported.refl (m : Media) : m.Reported m :=
  ⟨rfl, rfl, fun _ h => h, fun _ _ _ => rfl, .inl rfl, rfl, rfl⟩

theorem Media.Reported.trans {m n k : Media} (first : m.Reported n) (second : n.Reported k) : m.Reported k where
  card := second.card.trans first.card
  exch := second.exch.trans first.exch
  kept f h := second.kept f (first.kept f h)
  others f gauge charge := (second.others f gauge charge).trans (first.others f gauge charge)
  state := by
    rcases first.state with same | ⟨recording, closing⟩
    · rw [← same]
      exact second.state
    · refine .inr ⟨recording, ?_⟩
      rcases second.state with same | ⟨again, -⟩
      · rw [same, closing]
      · rw [closing] at again; cases again
  flight := second.flight.trans first.flight
  lastCompletion := second.lastCompletion.trans first.lastCompletion

theorem Media.raise_reported (m : Media) {f : AttnFlag} (h : f = .gauge ∨ f = .charge) : m.Reported (m.raise f) where
  card := rfl
  exch := rfl
  kept g held := by
    by_cases same : g = f
    · rw [same]; exact Exchange.raise_flagSet _ _
    · exact (Exchange.raise_flagSet_other _ same).trans held
  others g gauge charge := Exchange.raise_flagSet_other _ fun same => h.elim (fun x => gauge (same.trans x))
    fun x => charge (same.trans x)
  state := .inl rfl
  flight := rfl
  lastCompletion := rfl

theorem Media.closeBegin_reported (m : Media) (env : Env) (cause : CloseCause) : m.Reported (m.closeBegin env cause) := by
  by_cases h : m.writer.state = .recording
  · have rest := m.closeBegin_rest env cause
    have exch : (m.closeBegin env cause).exch.rest = m.exch.rest := congrArg Prod.fst rest
    have flag (f : AttnFlag) : (m.closeBegin env cause).exch.flagSet f = m.exch.flagSet f := by
      show (m.closeBegin env cause).exch.rest.flagSet f = m.exch.rest.flagSet f
      rw [exch]
    obtain ⟨held, queue, writer⟩ := Media.closeBegin_writer env cause h
    refine ⟨m.closeBegin_card env cause, ?_, fun f held => (flag f).trans held, fun f _ _ => flag f, ?_, ?_, ?_⟩
    · show ({ (m.closeBegin env cause).exch.rest with attn := 0 } : Exchange) = { m.exch.rest with attn := 0 }
      rw [exch]
    all_goals rw [writer]
    · exact .inr ⟨h, rfl⟩
    · rfl
    · rfl
  · rw [Media.closeBegin_of_not_recording env cause h]
    exact .refl m

/-- The whole part once a report has been heard, but for the charge report itself. -/
structure State.Reported (s t : State) : Prop where
  clock : t.clock = s.clock
  motion : t.motion = s.motion
  integ : t.integ = s.integ
  incident : t.incident = s.incident
  options : t.options = s.options
  pending : t.pending = s.pending
  power : t.power = { s.power with reserveHeld := t.power.reserveHeld, cutoffLock := t.power.cutoffLock }
  warning : t.gauge.warning = s.gauge.warning
  media : s.media.Reported t.media

theorem State.Reported.refl (s : State) : s.Reported s :=
  ⟨rfl, rfl, rfl, rfl, rfl, rfl, rfl, rfl, .refl _⟩

theorem State.Reported.trans {s t u : State} (first : s.Reported t) (second : t.Reported u) : s.Reported u where
  clock := second.clock.trans first.clock
  motion := second.motion.trans first.motion
  integ := second.integ.trans first.integ
  incident := second.incident.trans first.incident
  options := second.options.trans first.options
  pending := second.pending.trans first.pending
  power := by rw [second.power, first.power]
  warning := second.warning.trans first.warning
  media := first.media.trans second.media

theorem State.Reported.power_state {s t : State} (h : s.Reported t) : t.power.state = s.power.state := by rw [h.power]

theorem State.Reported.power_key {s t : State} (h : s.Reported t) : t.power.key = s.power.key := by rw [h.power]

theorem State.withReserve_reported (s : State) : s.Reported s.withReserve where
  clock := rfl
  motion := rfl
  integ := rfl
  incident := rfl
  options := rfl
  pending := rfl
  power := rfl
  warning := rfl
  media := by
    have held : s.media.Reported { s.media with writer := { s.media.writer with reserveHeld := true } } :=
      ⟨rfl, rfl, fun _ h => h, fun _ _ _ => rfl, .inl rfl, rfl, rfl⟩
    exact (held.trans (Media.closeBegin_reported _ s.env .reserve)).trans (Media.raise_reported _ (.inl rfl))

theorem State.withoutReserve_reported (s : State) : s.Reported s.withoutReserve where
  clock := rfl
  motion := rfl
  integ := rfl
  incident := rfl
  options := rfl
  pending := rfl
  power := rfl
  warning := rfl
  media := by
    have cleared : s.media.Reported { s.media with writer := { s.media.writer with reserveHeld := false } } :=
      ⟨rfl, rfl, fun _ h => h, fun _ _ _ => rfl, .inl rfl, rfl, rfl⟩
    exact cleared.trans (Media.raise_reported _ (.inl rfl))

theorem State.reserveTest_reported (s : State) : s.Reported s.reserveTest := by
  cases issues : s.issuesReserve with
  | true =>
    rw [State.reserveTest_of_issues issues]
    exact s.withReserve_reported
  | false =>
    rw [State.reserveTest_of_not issues]
    exact .refl s

theorem State.withSource_reported (s : State) : s.Reported s.withSource :=
  ⟨rfl, rfl, rfl, rfl, rfl, rfl, rfl, rfl, .refl _⟩

theorem State.sourceReport_reported (s : State) : s.Reported s.sourceReport := by
  by_cases source : s.charge.source = .none
  · rw [State.sourceReport_of_none source]
    have told : s.Reported { s with gauge := { s.gauge with sourceSelected := false } } :=
      ⟨rfl, rfl, rfl, rfl, rfl, rfl, rfl, rfl, .refl _⟩
    exact told.trans (State.reserveTest_reported _)
  · rw [State.sourceReport_of_source source]
    split
    · exact s.withoutReserve_reported.trans (State.withSource_reported _)
    · exact s.withSource_reported

@[simp] theorem State.sourceReport_charge (s : State) : s.sourceReport.charge = s.charge := by
  by_cases source : s.charge.source = .none
  · rw [State.sourceReport_of_none source, State.reserveTest_charge]
  · rw [State.sourceReport_of_source source]
    split <;> rfl

theorem State.sourceReportIf_reported (s : State) (before : Source) : s.Reported (s.sourceReportIf before) := by
  unfold State.sourceReportIf
  split
  · exact .refl s
  · exact s.sourceReport_reported

@[simp] theorem State.sourceReportIf_charge (s : State) (before : Source) : (s.sourceReportIf before).charge = s.charge := by
  unfold State.sourceReportIf
  split
  · rfl
  · exact s.sourceReport_charge

/-! ### The selector (R152) -/

theorem Charge.input_setInput (c : Charge) (i j : Input) (u : InputUnit) :
    (c.setInput i u).input j = if j = i then u else c.input j := by
  cases i <;> cases j <;> rfl

theorem Charge.setInput_input (c : Charge) (i : Input) : c.setInput i (c.input i) = c := by
  cases i <;> rfl

theorem Charge.setInput_source (c : Charge) (i : Input) (u : InputUnit) : (c.setInput i u).source = c.source := by
  cases i <;> rfl

theorem Charge.setInput_windowOpen (c : Charge) (i : Input) (u : InputUnit) : (c.setInput i u).windowOpen = c.windowOpen := by
  cases i <;> rfl

/-- The cap formed afresh, and the current falling to it. -/
theorem Charge.recap_eq (c : Charge) (o : ChargeOptions) :
    c.recap o = { c with cap := c.formCap o, ic := min c.ic (c.formCap o) } := rfl

theorem Charge.select_of_same {c : Charge} (o : ChargeOptions) (h : c.choice = c.source) : c.select o = c :=
  if_pos h

theorem Charge.select_of_changed {c : Charge} (o : ChargeOptions) (h : c.choice ≠ c.source) :
    c.select o = ({ c with source := c.choice }.switched c.source).recap o :=
  if_neg h

theorem Charge.switched_from_none (c : Charge) : c.switched .none = if c.state = .idle then c.enterQualify else c := by
  unfold Charge.switched
  rfl

theorem Charge.switched_to_none {c : Charge} {before : Source} (was : before ≠ .none) (h : c.source = .none) :
    c.switched before = if c.state = .noBattery then { c with ic := 0 } else { c with ic := 0 }.enterIdle := by
  unfold Charge.switched
  rw [h]
  cases before
  · exact absurd rfl was
  all_goals rfl

theorem Charge.switched_between {c : Charge} {before : Source} (was : before ≠ .none) (h : c.source ≠ .none) :
    c.switched before = { c with ic := min c.ic 100, termination := none } := by
  unfold Charge.switched
  split
  · exact absurd rfl was
  · contradiction
  · rfl

/-- A change of source leaves the inputs, the window and the source in force. -/
theorem Charge.switched_inputs (c : Charge) (before : Source) :
    (c.switched before).usb = c.usb ∧ (c.switched before).aux = c.aux ∧ (c.switched before).source = c.source ∧
      (c.switched before).windowOpen = c.windowOpen := by
  unfold Charge.switched
  split <;> (try split) <;> exact ⟨rfl, rfl, rfl, rfl⟩

theorem Charge.select_inputs (c : Charge) (o : ChargeOptions) :
    (c.select o).usb = c.usb ∧ (c.select o).aux = c.aux ∧ (c.select o).source = c.choice ∧
      (c.select o).windowOpen = c.windowOpen := by
  by_cases h : c.choice = c.source
  · rw [Charge.select_of_same o h]
    exact ⟨rfl, rfl, h.symm, rfl⟩
  · rw [Charge.select_of_changed o h]
    exact Charge.switched_inputs { c with source := c.choice } c.source

theorem Charge.select_input (c : Charge) (o : ChargeOptions) (i : Input) : (c.select o).input i = c.input i := by
  obtain ⟨usb, aux, -⟩ := c.select_inputs o
  cases i
  · exact usb
  · exact aux

theorem Charge.news_of_input {c d : Charge} {i : Input} (h : (c.input i).state ≠ (d.input i).state) : c.news d = true := by
  cases i
  · exact decide_eq_true (.inl h)
  · exact decide_eq_true (.inr (.inl h))

/-! ### The Charge Controller has a new state of its inputs -/

/-- The part once the selector's choice is in force and reported, before the power-down condition is tested. -/
def State.inputsHeard (s : State) (c : Charge) : State :=
  ((s.selected c).raiseIf (s.charge.news (c.select s.options)) .charge).sourceReportIf s.charge.source

theorem State.inputChange_heard (s : State) (c : Charge) : s.inputChange c = (s.inputsHeard c).powerDownTest := rfl

@[simp] theorem State.raiseIf_charge (s : State) (news : Bool) (f : AttnFlag) : (s.raiseIf news f).charge = s.charge := by
  rw [State.raiseIf_eq]

@[simp] theorem State.inputsHeard_charge (s : State) (c : Charge) : (s.inputsHeard c).charge = c.select s.options := by
  rw [State.inputsHeard, State.sourceReportIf_charge, State.raiseIf_charge]
  rfl

theorem State.inputsHeard_reported (s : State) (c : Charge) : s.Reported (s.inputsHeard c) := by
  have selected : s.Reported (s.selected c) := ⟨rfl, rfl, rfl, rfl, rfl, rfl, rfl, rfl, .refl _⟩
  have raised (t : State) (news : Bool) : t.Reported (t.raiseIf news .charge) := by
    cases news
    · exact .refl t
    · exact ⟨rfl, rfl, rfl, rfl, rfl, rfl, rfl, rfl, Media.raise_reported _ (.inr rfl)⟩
  exact (selected.trans (raised _ _)).trans (State.sourceReportIf_reported _ _)

theorem State.inputsHeard_flag {s : State} {c : Charge} (news : s.charge.news (c.select s.options) = true) :
    (s.inputsHeard c).media.exch.flagSet .charge = true := by
  rw [State.inputsHeard, news]
  exact (State.sourceReportIf_reported _ _).media.kept .charge (Exchange.raise_flagSet _ _)

theorem State.powerDownTest_of_awake {s : State} (h : s.power.state = .run ∨ s.power.state = .shutting ∨ s.power.state = .dormant) :
    s.powerDownTest = s := by
  rcases h with h | h | h <;> simp only [State.powerDownTest, h]

theorem State.powerDownTest_of_idle {s : State} (h : s.power.state = .waking ∨ s.power.state = .standby) :
    s.powerDownTest = if s.idleOutside then s.setPower .dormant else s := by
  rcases h with h | h <;> simp only [State.powerDownTest, h]

theorem State.inputChange_of_awake {s : State} (c : Charge)
    (h : s.power.state = .run ∨ s.power.state = .shutting ∨ s.power.state = .dormant) : s.inputChange c = s.inputsHeard c := by
  rw [State.inputChange_heard, State.powerDownTest_of_awake]
  rwa [(s.inputsHeard_reported c).power_state]

/-- Where the source stays in force, the change is told as the charge report alone. -/
theorem State.inputsHeard_of_same {s : State} {c : Charge} (h : c.choice = c.source) (source : c.source = s.charge.source) :
    s.inputsHeard c = ({ s with charge := c } : State).raiseIf (s.charge.news c) .charge := by
  have selected : s.selected c = { s with charge := c } := by rw [State.selected, Charge.select_of_same _ h]
  rw [State.inputsHeard, selected, Charge.select_of_same _ h, State.sourceReportIf, State.raiseIf_charge, if_pos source.symm]

end Sys2Proof.Machine
end

section
/-! PROOFS. The incident window (R71 to R74). -/

namespace Sys2Proof.Machine

theorem accelSum_eq (a : Axes Int) : accelSum a = a.yaw.natAbs + a.pitch.natAbs + a.roll.natAbs := rfl

theorem Incident.runOn_of_low {i : Incident} {l1 : Nat} (h : l1 < i.settings.threshold) :
    i.runOn l1 = { i with shockRun := 0, runPeak := 0 } :=
  if_pos h

theorem Incident.runOn_of_high {i : Incident} {l1 : Nat} (h : i.settings.threshold ≤ l1) :
    i.runOn l1 = { i with shockRun := min i.settings.runLength (i.shockRun + 1), runPeak := max i.runPeak l1 } :=
  if_neg (Nat.not_lt.mpr h)

theorem Incident.shockAt_iff (i : Incident) (l1 : Nat) :
    i.shockAt l1 = true ↔ i.settings.threshold ≤ l1 ∧ i.settings.runLength ≤ i.shockRun + 1 :=
  decide_eq_true_iff

theorem Incident.sample_of_no_shock {i : Incident} {l1 : Nat} (stamp : Stamp)
    (h : ¬(i.settings.threshold ≤ l1 ∧ i.settings.runLength ≤ i.shockRun + 1)) : i.sample l1 stamp = (i.runOn l1, false) :=
  if_neg (mt (i.shockAt_iff l1).mp h)

theorem Incident.sample_of_opening {i : Incident} {l1 : Nat} (stamp : Stamp)
    (h : i.settings.threshold ≤ l1 ∧ i.settings.runLength ≤ i.shockRun + 1) (quiet : i.window = .quiet) :
    i.sample l1 stamp = ((i.runOn l1).openWindow stamp, true) := by
  rw [Incident.sample, if_pos ((i.shockAt_iff l1).mpr h), quiet]

theorem Incident.sample_of_extension {i : Incident} {l1 : Nat} (stamp : Stamp)
    (h : i.settings.threshold ≤ l1 ∧ i.settings.runLength ≤ i.shockRun + 1) (opened : i.window = .incident) :
    i.sample l1 stamp = ((i.runOn l1).extendWindow stamp, false) := by
  rw [Incident.sample, if_pos ((i.shockAt_iff l1).mpr h), opened]

theorem modifyLast_append {α : Type} (f : α → α) (older : List α) (x : α) : modifyLast f (older ++ [x]) = older ++ [f x] := by
  induction older with
  | nil => rfl
  | cons y rest ih =>
    cases rest with
    | nil => rfl
    | cons z rest => exact congrArg (y :: ·) ih

theorem stampMax_eq (a b : Stamp) : stampMax a b = if 0 < (a - b).toInt then a else b := by
  unfold stampMax
  by_cases later : 0 < (a - b).toInt
  · rw [if_pos later, if_pos ((stampLater_iff a b).2 later)]
  · rw [if_neg later, if_neg fun x => later ((stampLater_iff a b).1 x)]

theorem Incident.extendWindow_eq (i : Incident) (stamp : Stamp) :
    let end_ := stampAdd stamp (i.settings.windowSeconds * 1000000 : Nat)
    let later := if 0 < (end_ - i.windowEnd).toInt then end_ else i.windowEnd
    i.extendWindow stamp = { i with
      windowEnd := later
      list := modifyLast
        (fun e => { e with endStamp := later, extensions := min 255 (e.extensions + 1), peak := max e.peak i.runPeak }) i.list } := by
  intro end_ later
  have latest : stampMax end_ i.windowEnd = later := stampMax_eq _ _
  rw [← latest]
  rfl

theorem Incident.windowDue_iff (i : Incident) (now : Stamp) :
    i.windowDue now = true ↔ i.window = .incident ∧ 0 ≤ (now - i.windowEnd).toInt := by
  rw [Incident.windowDue, Bool.and_eq_true, decide_eq_true_iff, reached_iff]
  rfl

/-- The window's report reaches the two blocks that keep it (R29, R151). -/
def State.toldWindow (s : State) (isOpen : Bool) : State :=
  { s with motion := s.motion.window isOpen, charge := { s.charge with windowOpen := isOpen } }

theorem State.windowReport_eq (s : State) (isOpen : Bool) : s.windowReport isOpen =
    if isOpen then s.toldWindow isOpen else ((s.toldWindow isOpen).loseIfDue .usb).loseIfDue .aux := rfl

theorem State.windowReport_of_open (s : State) : s.windowReport true = s.toldWindow true := by
  rw [State.windowReport_eq, if_pos rfl]

theorem State.windowReport_of_closed (s : State) : s.windowReport false = ((s.toldWindow false).loseIfDue .usb).loseIfDue .aux := by
  rw [State.windowReport_eq, if_neg Bool.false_ne_true]

theorem State.incidentSample_eq (s : State) (r : Sample) :
    s.incidentSample r =
      let t : State := { s with incident := (s.incident.sample (accelSum r.accel) r.stamp).1 }
      if (s.incident.sample (accelSum r.accel) r.stamp).2 then t.toldWindow true else t := by
  have whole : s.incidentSample r =
      let t : State := { s with incident := (s.incident.sample (accelSum r.accel) r.stamp).1 }
      if (s.incident.sample (accelSum r.accel) r.stamp).2 then t.windowReport true else t := rfl
  rw [whole]
  dsimp only
  rw [State.windowReport_of_open]

theorem exec_windowExpiry (s : State) :
    exec .windowExpiry s = .next (if s.incident.windowDue s.now then
      ({ s with incident := s.incident.closeWindow } : State).windowReport false else s).settle := rfl

end Sys2Proof.Machine

namespace Sys2Proof.Proofs
open Sys2Proof.Machine

/-- Settles O23, by the shock run and the window. -/
theorem incidentWindow : Obligations.IncidentWindow := by
  refine ⟨fun s r => ⟨fun low => ?_, fun high short => ?_, fun high long quiet => ?_, fun older e high long opened list => ?_⟩,
    fun s => ⟨fun opened due => ?_, fun not => ?_⟩⟩
  · have noShock : ¬(s.incident.settings.threshold ≤ accelSum r.accel ∧ s.incident.settings.runLength ≤ s.incident.shockRun + 1) :=
      fun shock => Nat.not_lt.mpr shock.1 low
    rw [State.incidentSample_eq, Incident.sample_of_no_shock _ noShock, Incident.runOn_of_low (l1 := accelSum r.accel) low]
    rfl
  · have noShock : ¬(s.incident.settings.threshold ≤ accelSum r.accel ∧ s.incident.settings.runLength ≤ s.incident.shockRun + 1) :=
      fun shock => Nat.not_lt.mpr shock.2 short
    rw [State.incidentSample_eq, Incident.sample_of_no_shock _ noShock, Incident.runOn_of_high (l1 := accelSum r.accel) high]
    rfl
  · rw [State.incidentSample_eq, Incident.sample_of_opening (l1 := accelSum r.accel) _ ⟨high, long⟩ quiet, Incident.runOn_of_high (l1 := accelSum r.accel) high]
    rfl
  · have entries (f : IncidentEntry → IncidentEntry) : modifyLast f s.incident.list = older ++ [f e] := by
      rw [list, modifyLast_append]
    rw [State.incidentSample_eq, Incident.sample_of_extension (l1 := accelSum r.accel) _ ⟨high, long⟩ opened,
      Incident.runOn_of_high (l1 := accelSum r.accel) high]
    dsimp only
    rw [if_neg Bool.false_ne_true, Incident.extendWindow_eq]
    dsimp only
    rw [entries]
    rfl
  · rw [exec_windowExpiry, if_pos ((Incident.windowDue_iff _ s.now).mpr ⟨opened, due⟩), State.windowReport_of_closed]
    rfl
  · have late : ¬s.incident.windowDue s.now = true := by
      rw [Incident.windowDue_iff]
      rintro ⟨opened, due⟩
      rcases not with quiet | early
      · rw [quiet] at opened; cases opened
      · exact absurd due (Int.not_le.mpr early)
    rw [exec_windowExpiry, if_neg late]

end Sys2Proof.Proofs
end

section
/-! PROOFS. The inputs' commands settled (R150 to R152, R180, R183). -/

namespace Sys2Proof.Machine

/-! ### The window of an input and its commands (R150) -/

/-- An input's voltage lies in its window, both bounds included. -/
def WithinWindow (i : Input) (v : Nat) : Prop :=
  (i = .usb ∧ 4400 ≤ v ∧ v ≤ 6200) ∨ (i = .aux ∧ 6000 ≤ v ∧ v ≤ 24000)

theorem inWindow_iff (i : Input) (v : Nat) : inWindow i v = true ↔ WithinWindow i v := by
  rw [inWindow, decide_eq_true_iff, WithinWindow]
  cases i <;> simp [inputWindow]

theorem inputCommands_of_entry {i : Input} {before after : Nat} (inside : WithinWindow i after) (outside : ¬WithinWindow i before) :
    inputCommands i before after = [.inputEntersWindow i] := by
  have b : inWindow i before = false := Bool.eq_false_iff.mpr (mt (inWindow_iff i before).mp outside)
  rw [inputCommands, b, (inWindow_iff i after).mpr inside]
  rfl

theorem inputCommands_of_exit {i : Input} {before after : Nat} (inside : WithinWindow i before) (outside : ¬WithinWindow i after) :
    inputCommands i before after = [.inputLeavesWindow i] := by
  have a : inWindow i after = false := Bool.eq_false_iff.mpr (mt (inWindow_iff i after).mp outside)
  rw [inputCommands, a, (inWindow_iff i before).mpr inside]
  rfl

theorem inputCommands_of_same {i : Input} {before after : Nat} (h : WithinWindow i before ↔ WithinWindow i after) :
    inputCommands i before after = [] :=
  if_pos (Bool.eq_iff_iff.mpr (by rw [inWindow_iff, inWindow_iff, h]))

/-! ### One input (R150, R151) -/

section
variable {u : InputUnit} (now : Stamp)

theorem InputUnit.enter_of_absent (h : u.state = .absent) : u.enter now = { u with state := .qualifying, qualify := some now } := by
  rw [InputUnit.enter, h]

theorem InputUnit.enter_of_present (h : u.state = .present) : u.enter now = { u with loss := none } := by
  rw [InputUnit.enter, h]

theorem InputUnit.leave_of_absent (h : u.state = .absent) : u.leave now = u := by
  rw [InputUnit.leave, h]

theorem InputUnit.leave_of_qualifying (h : u.state = .qualifying) : u.leave now = { u with state := .absent, qualify := none } := by
  rw [InputUnit.leave, h]

theorem InputUnit.leave_of_present (h : u.state = .present) : u.leave now = { u with loss := some (u.loss.getD now) } := by
  rw [InputUnit.leave, h]
end

theorem waitDue_some_iff (start count : Stamp) (length : Nat) :
    waitDue (some ⟨start, length⟩) count = true ↔ (length : Int) ≤ (count - start).toInt :=
  reached_iff _ _ _

theorem waitDue_iff (w : Option Wait) (count : Stamp) :
    waitDue w count = true ↔ ∃ x, w = some x ∧ (x.length : Int) ≤ (count - x.start).toInt := by
  cases w with
  | none => simp [waitDue]
  | some x => exact (waitDue_some_iff x.start count x.length).trans ⟨fun h => ⟨x, rfl, h⟩, fun ⟨y, same, h⟩ => by cases same; exact h⟩

theorem InputUnit.qualifyDue_iff {u : InputUnit} {start : Stamp} (now : Stamp) (state : u.state = .qualifying)
    (qualify : u.qualify = some start) : u.qualifyDue now = true ↔ 1000000 ≤ (now - start).toInt := by
  rw [InputUnit.qualifyDue, state, qualify, Bool.and_eq_true]
  exact (and_iff_right rfl).trans (waitDue_some_iff _ _ _)

theorem Charge.lossMicros_eq (c : Charge) : (c.lossMicros : Int) = if c.windowOpen then 200000 else 20000 := by
  unfold Charge.lossMicros
  split <;> rfl

theorem Charge.lossDue_iff (c : Charge) (i : Input) (now : Stamp) : c.lossDue i now = true ↔
    ∃ start, (c.input i).state = .present ∧ (c.input i).loss = some start ∧
      (if c.windowOpen then 200000 else 20000) ≤ (now - start).toInt := by
  rw [Charge.lossDue, Bool.and_eq_true, decide_eq_true_iff, ← Charge.lossMicros_eq]
  cases loss : (c.input i).loss with
  | none => simp [waitDue]
  | some start =>
    rw [Option.map_some, waitDue_some_iff]
    exact ⟨fun ⟨state, due⟩ => ⟨start, state, rfl, due⟩, fun ⟨_, state, same, due⟩ => by cases same; exact ⟨state, due⟩⟩

/-! ### An input that stays absent or present, for the selector -/

theorem Charge.choice_setInput {c : Charge} {i : Input} {u : InputUnit} (h : u.state = .present ↔ (c.input i).state = .present) :
    (c.setInput i u).choice = c.choice := by
  cases i
  · have usb : u.state = .present ↔ c.usb.state = .present := h
    show (if c.aux.state = .present then Source.aux else if u.state = .present then .usb else .none) = c.choice
    rw [Charge.choice]
    simp only [usb]
  · have aux : u.state = .present ↔ c.aux.state = .present := h
    show (if u.state = .present then Source.aux else if c.usb.state = .present then .usb else .none) = c.choice
    rw [Charge.choice]
    simp only [aux]

theorem Charge.news_setInput_of_same {c : Charge} {i : Input} {u : InputUnit} (h : u.state = (c.input i).state) :
    c.news (c.setInput i u) = false := by
  cases i
  · have usb : u.state = c.usb.state := h
    simp [Charge.news, Charge.setInput, usb]
  · have aux : u.state = c.aux.state := h
    simp [Charge.news, Charge.setInput, aux]

theorem Charge.news_setInput_of_other {c d : Charge} {i : Input} {u : InputUnit} (h : u.state ≠ (c.input i).state)
    (same : d.input i = u) : c.news d = true :=
  Charge.news_of_input (i := i) (by rw [same]; exact h.symm)

/-! ### A change of an input -/

section
variable {s : State} {i : Input} {u : InputUnit}

theorem State.idleOutside_iff (s : State) :
    s.idleOutside = true ↔ s.charge.usb.state = .absent ∧ s.charge.aux.state = .absent ∧ s.power.key.state = .up :=
  decide_eq_true_iff

/-- An input that is there keeps the part awake. -/
theorem State.powerDownTest_of_input {t : State} (h : (t.charge.input i).state ≠ .absent) : t.powerDownTest = t := by
  have kept : ¬t.idleOutside = true := by
    rw [State.idleOutside_iff]
    rintro ⟨usb, aux, -⟩
    cases i
    · exact h usb
    · exact h aux
  unfold State.powerDownTest
  split
  case h_1 | h_2 => exact if_neg kept
  all_goals rfl

/-- With the selector's choice as before, a change of an input is its own report. -/
theorem State.inputsHeard_setInput (source : s.charge.choice = s.charge.source)
    (h : u.state = .present ↔ (s.charge.input i).state = .present) :
    s.inputsHeard (s.charge.setInput i u) = ({ s with charge := s.charge.setInput i u } : State).raiseIf
      (s.charge.news (s.charge.setInput i u)) .charge :=
  State.inputsHeard_of_same (by rw [Charge.choice_setInput h, Charge.setInput_source, source]) (Charge.setInput_source _ _ _)

/-- An input that stays as it is for the selector and the report: its waits change. -/
theorem State.inputsHeard_of_waits (source : s.charge.choice = s.charge.source) (h : u.state = (s.charge.input i).state) :
    s.inputsHeard (s.charge.setInput i u) = { s with charge := s.charge.setInput i u } := by
  rw [State.inputsHeard_setInput source (by rw [h]), Charge.news_setInput_of_same h]
  rfl

/-- An input that comes or goes short of being selected: CHARGE is raised. -/
theorem State.inputsHeard_of_news (source : s.charge.choice = s.charge.source) (new : u.state ≠ .present)
    (old : (s.charge.input i).state ≠ .present) (other : u.state ≠ (s.charge.input i).state) :
    s.inputsHeard (s.charge.setInput i u) = ({ s with charge := s.charge.setInput i u } : State).raise .charge := by
  rw [State.inputsHeard_setInput source ⟨fun h => absurd h new, fun h => absurd h old⟩,
    Charge.news_setInput_of_other other (by rw [Charge.input_setInput, if_pos rfl])]
  rfl
end

theorem exec_inputEntersWindow (s : State) (i : Input) : exec (.inputEntersWindow i) s = .next (s.inputEnters i).settle := rfl
theorem exec_inputLeavesWindow (s : State) (i : Input) :
    exec (.inputLeavesWindow i) s = .next (s.inputChange (s.charge.setInput i ((s.charge.input i).leave s.now))).settle := rfl
theorem exec_qualifyWaitExpiry (s : State) (i : Input) : exec (.qualifyWaitExpiry i) s = .next (s.qualified i).settle := rfl
theorem exec_lossDebounceExpiry (s : State) (i : Input) : exec (.lossDebounceExpiry i) s = .next (s.loseIfDue i).settle := rfl

theorem State.inputEnters_of_qualifying {s : State} {i : Input} (h : (s.charge.input i).state = .qualifying) :
    s.inputEnters i = s := by
  rw [State.inputEnters, h]

theorem State.inputEnters_of_other {s : State} {i : Input} (h : (s.charge.input i).state ≠ .qualifying) :
    s.inputEnters i = (s.inputChange (s.charge.setInput i ((s.charge.input i).enter s.now))).wakeFor := by
  unfold State.inputEnters
  split
  · contradiction
  · rfl
  · rfl

theorem State.wakeFor_of_awake {s : State} (h : s.power.state ≠ .dormant) : s.wakeFor = s :=
  if_neg h

theorem State.qualified_of_due {s : State} {i : Input} (h : (s.charge.input i).qualifyDue s.now = true) :
    s.qualified i = (s.inputChange (s.charge.setInput i (s.charge.input i).toPresent)).autoOn :=
  if_pos h

theorem State.qualified_of_not_due {s : State} {i : Input} (h : ¬(s.charge.input i).qualifyDue s.now = true) : s.qualified i = s :=
  if_neg h

theorem State.loseIfDue_of_due {s : State} {i : Input} (h : s.charge.lossDue i s.now = true) :
    s.loseIfDue i = s.inputChange (s.charge.setInput i (s.charge.input i).toAbsent) :=
  if_pos h

theorem State.loseIfDue_of_not_due {s : State} {i : Input} (h : ¬s.charge.lossDue i s.now = true) : s.loseIfDue i = s :=
  if_neg h

theorem State.autoOn_of_not_standby {s : State} (h : s.power.state ≠ .standby) : s.autoOn = s :=
  if_neg fun both => h both.2

/-! ### A change of power state with the rail OFF before it -/

/-- With the rail OFF before, a change of power state leaves the flags that are set, but for those that a reserve adds. -/
theorem State.setPower_flag {s : State} {after : PowerState} {f : AttnFlag} (off : s.power.state.rail = false)
    (h : s.media.exch.flagSet f = true) : (s.setPower after).media.exch.flagSet f = true := by
  have exch : (s.changed after).media.exch = s.media.exch := by
    rcases (s.powerChanged after).railChanged_cases s.power.state after with ⟨on, _, _⟩ | ⟨_, _, same⟩ | ⟨_, same⟩
    · rw [off] at on; cases on
    · rw [State.changed, same]; rfl
    · rw [State.changed, same]; rfl
  rw [State.setPower_changed]
  refine (State.reserveTest_reported _).media.kept f ?_
  rw [exch]
  exact h

end Sys2Proof.Machine
end

section
/-! PROOFS. The inputs' commands, settled (R150 to R152, R180, R183). -/

namespace Sys2Proof.Machine

/-! ### The selector's choice -/

/-- The input that R152 selects: AUX before USB before NONE. -/
def Charge.best (c : Charge) : Source :=
  if c.aux.state = .present then .aux else if c.usb.state = .present then .usb else .none

theorem Charge.choice_eq_best (c : Charge) : c.choice = c.best := rfl

theorem Charge.choice_of_present {c : Charge} {i : Input} (h : (c.input i).state = .present) : c.choice ≠ .none := by
  unfold Charge.choice
  cases i
  · have usb : c.usb.state = .present := h
    rw [if_pos usb]
    split <;> exact Source.noConfusion
  · have aux : c.aux.state = .present := h
    rw [if_pos aux]
    exact Source.noConfusion

theorem Charge.select_source_best (c : Charge) (o : ChargeOptions) : (c.select o).source = (c.select o).best := by
  obtain ⟨usb, aux, source, -⟩ := c.select_inputs o
  rw [source, Charge.best, usb, aux]
  rfl

theorem Charge.select_connects {c : Charge} (o : ChargeOptions) (source : c.source = .none) (new : c.choice ≠ .none) :
    (c.state = .idle → c.select o = ({ c with
      source := c.choice, state := .qualify, ic := 0, totalTimer := 0, termination := none } : Charge).recap o) ∧
    (c.state ≠ .idle → c.select o = ({ c with source := c.choice } : Charge).recap o) := by
  have changed : c.choice ≠ c.source := by rw [source]; exact new
  rw [Charge.select_of_changed o changed, source, Charge.switched_from_none]
  exact ⟨fun idle => congrArg (Charge.recap · o) (if_pos idle), fun other => congrArg (Charge.recap · o) (if_neg other)⟩

theorem Charge.select_changes_over {c : Charge} (o : ChargeOptions) (source : c.source ≠ .none) (new : c.choice ≠ .none)
    (changed : c.choice ≠ c.source) :
    c.select o = ({ c with source := c.choice, ic := min c.ic 100, termination := none } : Charge).recap o := by
  rw [Charge.select_of_changed o changed, Charge.switched_between source]
  exact new

theorem Charge.select_disconnects {c : Charge} (o : ChargeOptions) (source : c.source ≠ .none) (gone : c.choice = .none) :
    (c.state ≠ .noBattery → c.select o = ({ c with
      source := .none, ic := 0, state := .idle, fault := .none, causes := ⟨false, false, false⟩ } : Charge).recap o) ∧
    (c.state = .noBattery → c.select o = ({ c with source := .none, ic := 0 } : Charge).recap o) := by
  have changed : c.choice ≠ c.source := by rw [gone]; exact source.symm
  rw [Charge.select_of_changed o changed, gone, Charge.switched_to_none source rfl]
  exact ⟨fun other => congrArg (Charge.recap · o) (if_neg other), fun noBattery => congrArg (Charge.recap · o) (if_pos noBattery)⟩

theorem Charge.recap_ic_of_zero {c : Charge} (o : ChargeOptions) (h : c.ic = 0) : (c.recap o).ic = 0 := by
  rw [Charge.recap_eq, h]
  exact Nat.zero_min _

/-- The end of charging: with no source the current is 0. -/
theorem Charge.select_ic_of_none {c : Charge} (o : ChargeOptions) (source : c.source ≠ .none) (gone : c.choice = .none) :
    (c.select o).ic = 0 := by
  obtain ⟨idle, noBattery⟩ := Charge.select_disconnects o source gone
  by_cases h : c.state = .noBattery
  · rw [noBattery h]
    exact Charge.recap_ic_of_zero o rfl
  · rw [idle h]
    exact Charge.recap_ic_of_zero o rfl

/-! ### The power-down condition at a change of the inputs (R180) -/

/-- What the test leaves of a part in WAKING or STANDBY. -/
theorem State.powerDownTest_spec {t : State} (idle : t.power.state = .waking ∨ t.power.state = .standby) :
    t.powerDownTest.charge = t.charge ∧ t.powerDownTest.clock.count = t.clock.count ∧
    t.powerDownTest.power.state = (if t.idleOutside then .dormant else t.power.state) ∧
    ∀ f, t.media.exch.flagSet f = true → t.powerDownTest.media.exch.flagSet f = true := by
  have off : t.power.state.rail = false := by rcases idle with h | h <;> rw [h] <;> rfl
  rw [State.powerDownTest_of_idle idle]
  split
  · exact ⟨State.setPower_charge _ _, by rw [State.setPower_clock, Clock.powerChange_count], State.setPower_state _ _,
      fun f h => State.setPower_flag off h⟩
  · exact ⟨rfl, rfl, rfl, fun _ h => h⟩

/-- A turn-on by auto-on, of a part in WAKING or STANDBY (R183). -/
theorem State.autoOn_spec {t : State} (idle : t.power.state = .waking ∨ t.power.state = .standby) :
    t.autoOn.charge = t.charge ∧ t.autoOn.clock.count = t.clock.count ∧
    t.autoOn.power.state = (if t.power.state = .standby ∧ t.options.autoOn = true ∧ t.gauge.warning = false then .run
      else t.power.state) ∧
    ∀ f, t.media.exch.flagSet f = true → t.autoOn.media.exch.flagSet f = true := by
  have off : t.power.state.rail = false := by rcases idle with h | h <;> rw [h] <;> rfl
  by_cases goes : t.power.state = .standby ∧ t.options.autoOn = true ∧ t.gauge.warning = false
  · have run : t.autoOn = t.setPower .run := by
      rw [State.autoOn, if_pos ⟨goes.2.1, goes.1⟩, State.turnOn, goes.2.2]
      rfl
    rw [if_pos goes, run]
    exact ⟨State.setPower_charge _ _, by rw [State.setPower_clock, Clock.powerChange_count], State.setPower_state _ _,
      fun f h => State.setPower_flag off h⟩
  · have stays : t.autoOn = t := by
      unfold State.autoOn
      split
      next both =>
        unfold State.turnOn
        split
        · rfl
        next noWarning => exact absurd ⟨both.2, both.1, Bool.eq_false_iff.mpr noWarning⟩ goes
      next => rfl
    rw [if_neg goes, stays]
    exact ⟨rfl, rfl, rfl, fun _ h => h⟩

/-! ### An input that comes, goes, arrives or is lost -/

section
variable {s : State} {i : Input}

/-- An arrival: the input PRESENT, the selection made and told. -/
theorem State.arrival_heard (c : Charge) (u : InputUnit) (h : c = s.charge.setInput i u) (state : u.state ≠ (s.charge.input i).state) :
    (s.inputsHeard c).charge = c.select s.options ∧ (s.inputsHeard c).charge.input i = u ∧
    (s.inputsHeard c).charge.source = (s.inputsHeard c).charge.best ∧ (s.inputsHeard c).clock = s.clock ∧
    (s.inputsHeard c).media.exch.flagSet .charge = true := by
  have input : (c.select s.options).input i = u := by
    rw [Charge.select_input, h, Charge.input_setInput, if_pos rfl]
  rw [State.inputsHeard_charge]
  exact ⟨rfl, input, Charge.select_source_best _ _, (s.inputsHeard_reported c).clock,
    State.inputsHeard_flag (Charge.news_setInput_of_other state input)⟩

/-- With no source before and one after, the gauge and the power hear of it. -/
theorem State.inputsHeard_connects (c : Charge) (source : s.charge.source = .none) (new : c.choice ≠ .none) :
    let x := s.inputsHeard c
    x.gauge.sourceSelected = true ∧ x.gauge.cutoffRun = 0 ∧ x.gauge.reserve = false ∧ x.power.cutoffLock = false := by
  have selected : ((s.selected c).raiseIf (s.charge.news (c.select s.options)) .charge).charge.source = c.choice := by
    rw [State.raiseIf_charge]
    exact (c.select_inputs s.options).2.2.1
  have reported : s.inputsHeard c = ((s.selected c).raiseIf (s.charge.news (c.select s.options)) .charge).sourceReport := by
    rw [State.inputsHeard, State.sourceReportIf, selected, source, if_neg new.symm]
  rw [reported, State.sourceReport_of_source (by rw [selected]; exact new)]
  split
  · exact ⟨rfl, rfl, rfl, rfl⟩
  next off => exact ⟨rfl, rfl, Bool.eq_false_iff.mpr off, rfl⟩

/-- An input's neighbour. -/
def otherInput : Input → Input
  | .usb => .aux
  | .aux => .usb

/-- With an input absent, the power-down condition rests on the other one and on the POWER key. -/
theorem State.idleOutside_of_absent {t : State} (h : (t.charge.input i).state = .absent) :
    t.idleOutside = true ↔ (t.charge.input (otherInput i)).state = .absent ∧ t.power.key.state = .up := by
  rw [State.idleOutside_iff]
  cases i
  · exact and_iff_right h
  · exact ⟨fun ⟨usb, _, key⟩ => ⟨usb, key⟩, fun ⟨usb, key⟩ => ⟨usb, h, key⟩⟩

/-- An input that goes in WAKING or STANDBY: CHARGE is told, and the part may go to DORMANT. -/
theorem State.inputChange_of_gone {u : InputUnit} (idle : s.power.state = .standby ∨ s.power.state = .waking) (gone : u.state = .absent)
    (there : (s.charge.input i).state ≠ .absent) :
    let x := s.inputChange (s.charge.setInput i u)
    x.charge = (s.charge.setInput i u).select s.options ∧
    x.power.state = (if (s.charge.input (otherInput i)).state = .absent ∧ s.power.key.state = .up then .dormant else s.power.state) ∧
    x.media.exch.flagSet .charge = true ∧ x.clock.count = s.clock.count := by
  have heard := s.inputsHeard_reported (s.charge.setInput i u)
  have absent : ((s.inputsHeard (s.charge.setInput i u)).charge.input i).state = .absent := by
    rw [State.inputsHeard_charge, Charge.select_input, Charge.input_setInput, if_pos rfl, gone]
  have other : (s.inputsHeard (s.charge.setInput i u)).charge.input (otherInput i) = s.charge.input (otherInput i) := by
    rw [State.inputsHeard_charge, Charge.select_input, Charge.input_setInput, if_neg (by cases i <;> exact Input.noConfusion)]
  obtain ⟨charge, count, state, flags⟩ := State.powerDownTest_spec (t := s.inputsHeard (s.charge.setInput i u))
    (by rw [heard.power_state]; exact idle.symm)
  obtain ⟨selected, -, -, clock, flag⟩ := State.arrival_heard (s := s) (i := i) _ u rfl (by rw [gone]; exact there.symm)
  refine ⟨by rw [State.inputChange_heard, charge, selected], ?_, flags _ flag, by rw [State.inputChange_heard, count, clock]⟩
  rw [State.inputChange_heard, state, heard.power_state]
  simp only [State.idleOutside_of_absent absent, other, heard.power_key]
end

end Sys2Proof.Machine

namespace Sys2Proof.Proofs
open Sys2Proof.Machine

/-- Settles O37: each command by the state of its input and of the power, and the selector by the sources before and after. -/
theorem inputs : Obligations.Inputs := by
  refine ⟨fun s i source => ?_, fun c o => ⟨fun same => Charge.select_of_same o same,
    fun none new => Charge.select_connects o none new, fun was new changed => Charge.select_changes_over o was new changed,
    fun was gone => Charge.select_disconnects o was gone⟩⟩
  refine ⟨fun before after => ⟨inputCommands_of_entry, inputCommands_of_exit, inputCommands_of_same⟩,
    fun awake => ⟨fun absent => ?_, fun present => ?_⟩, fun dormant absent => ?_, fun qualifying => ?_,
    fun on => ⟨fun qualifying => ?_, fun present => ?_, fun absent => ?_, fun start qualifying wait => ⟨fun due => ?_, fun early => ?_⟩,
      fun start present wait => ⟨fun due => ?_, fun early => ?_⟩⟩,
    fun idle => ⟨fun present => ?_, fun qualifying => ?_, fun start present wait due => ?_, fun start qualifying wait due => ?_⟩⟩
  · have heard := State.inputsHeard_of_news (i := i) (u := (s.charge.input i).enter s.now) source
      (by rw [InputUnit.enter_of_absent _ absent]; exact InputState.noConfusion) (by rw [absent]; exact InputState.noConfusion)
      (by rw [InputUnit.enter_of_absent _ absent, absent]; exact InputState.noConfusion)
    rw [exec_inputEntersWindow, State.inputEnters_of_other (by rw [absent]; exact InputState.noConfusion),
      State.inputChange_heard, heard, State.powerDownTest_of_input (i := i), State.wakeFor_of_awake]
    · rw [InputUnit.enter_of_absent _ absent]
      rfl
    · exact awake
    · show ((s.charge.setInput i _).input i).state ≠ _
      rw [Charge.input_setInput, if_pos rfl, InputUnit.enter_of_absent _ absent]
      exact InputState.noConfusion
  · have heard := State.inputsHeard_of_waits (i := i) (u := (s.charge.input i).enter s.now) source
      (by rw [InputUnit.enter_of_present _ present])
    rw [exec_inputEntersWindow, State.inputEnters_of_other (by rw [present]; exact InputState.noConfusion),
      State.inputChange_heard, heard, State.powerDownTest_of_input (i := i), State.wakeFor_of_awake]
    · rw [InputUnit.enter_of_present _ present]
    · exact awake
    · show ((s.charge.setInput i _).input i).state ≠ _
      rw [Charge.input_setInput, if_pos rfl, InputUnit.enter_of_present _ present]
      show (s.charge.input i).state ≠ _
      rw [present]
      exact InputState.noConfusion
  · have heard := State.inputsHeard_of_news (i := i) (u := (s.charge.input i).enter s.now) source
      (by rw [InputUnit.enter_of_absent _ absent]; exact InputState.noConfusion) (by rw [absent]; exact InputState.noConfusion)
      (by rw [InputUnit.enter_of_absent _ absent, absent]; exact InputState.noConfusion)
    refine ⟨_, exec_inputEntersWindow s i, ?_⟩
    rw [State.inputEnters_of_other (by rw [absent]; exact InputState.noConfusion),
      State.inputChange_of_awake _ (.inr (.inr dormant)), heard, State.wakeFor, if_pos]
    · refine ⟨State.setPower_state _ _, ?_, ?_, ?_, ?_, ?_⟩
      · rw [State.setPower_power]
        rfl
      · rw [State.setPower_clock]
        rfl
      · rw [State.setPower_clock, Clock.powerChange_count]
        rfl
      · rw [State.setPower_charge, InputUnit.enter_of_absent _ absent]
        rfl
      · refine State.setPower_flag ?_ (Exchange.raise_flagSet _ _)
        show s.power.state.rail = false
        rw [dormant]
        rfl
    · exact dormant
  · rw [exec_inputEntersWindow, State.inputEnters_of_qualifying qualifying]
  · have heard := State.inputsHeard_of_news (i := i) (u := (s.charge.input i).leave s.now) source
      (by rw [InputUnit.leave_of_qualifying _ qualifying]; exact InputState.noConfusion)
      (by rw [qualifying]; exact InputState.noConfusion)
      (by rw [InputUnit.leave_of_qualifying _ qualifying, qualifying]; exact InputState.noConfusion)
    rw [exec_inputLeavesWindow, State.inputChange_of_awake _ (on.imp_right .inl), heard, InputUnit.leave_of_qualifying _ qualifying]
  · have heard := State.inputsHeard_of_waits (i := i) (u := (s.charge.input i).leave s.now) source
      (by rw [InputUnit.leave_of_present _ present])
    rw [exec_inputLeavesWindow, State.inputChange_of_awake _ (on.imp_right .inl), heard, InputUnit.leave_of_present _ present]
    rfl
  · have heard := State.inputsHeard_of_waits (i := i) (u := (s.charge.input i).leave s.now) source
      (by rw [InputUnit.leave_of_absent _ absent])
    rw [exec_inputLeavesWindow, State.inputChange_of_awake _ (on.imp_right .inl), heard, InputUnit.leave_of_absent _ absent,
      Charge.setInput_input]
  · have ready : (s.charge.input i).qualifyDue s.now = true := (InputUnit.qualifyDue_iff s.now qualifying wait).mpr due
    have arrived : (s.charge.setInput i (s.charge.input i).toPresent).choice ≠ .none :=
      Charge.choice_of_present (i := i) (by rw [Charge.input_setInput, if_pos rfl]; rfl)
    have heard := s.inputsHeard_reported (s.charge.setInput i (s.charge.input i).toPresent)
    obtain ⟨selected, input, best, clock, flag⟩ := State.arrival_heard (s := s) (i := i) _ (s.charge.input i).toPresent rfl
      (by rw [qualifying]; exact InputState.noConfusion)
    refine ⟨_, exec_qualifyWaitExpiry s i, ?_⟩
    rw [State.qualified_of_due ready, State.inputChange_of_awake _ (on.imp_right .inl), State.autoOn_of_not_standby]
    · refine ⟨input, best, flag, clock, fun noSource idle => ?_, fun noSource => State.inputsHeard_connects _ noSource arrived, selected⟩
      rw [selected, (Charge.select_connects s.options ((Charge.setInput_source _ _ _).trans noSource) arrived).1]
      · exact ⟨rfl, Charge.recap_ic_of_zero _ rfl⟩
      · cases i <;> exact idle
    · rw [heard.power_state]
      rcases on with h | h <;> rw [h] <;> exact PowerState.noConfusion
  · rw [exec_qualifyWaitExpiry, State.qualified_of_not_due]
    rw [InputUnit.qualifyDue_iff s.now qualifying wait]
    exact Int.not_le.mpr early
  · have ready : s.charge.lossDue i s.now = true := (s.charge.lossDue_iff i s.now).mpr ⟨start, present, wait, due⟩
    obtain ⟨selected, input, best, clock, flag⟩ := State.arrival_heard (s := s) (i := i) _ (s.charge.input i).toAbsent rfl
      (by rw [present]; exact InputState.noConfusion)
    refine ⟨_, exec_lossDebounceExpiry s i, ?_⟩
    rw [State.loseIfDue_of_due ready, State.inputChange_of_awake _ (on.imp_right .inl)]
    refine ⟨input, best, flag, clock, fun gone => ?_, selected⟩
    rw [selected] at gone ⊢
    refine Charge.select_ic_of_none _ ?_ ((Charge.select_inputs _ _).2.2.1.symm.trans gone)
    rw [Charge.setInput_source, ← source]
    exact Charge.choice_of_present present
  · rw [exec_lossDebounceExpiry, State.loseIfDue_of_not_due]
    rw [Charge.lossDue_iff]
    rintro ⟨other, -, again, due⟩
    rw [wait] at again
    cases again
    exact absurd due (Int.not_le.mpr early)
  · have heard := State.inputsHeard_of_waits (i := i) (u := (s.charge.input i).leave s.now) source
      (by rw [InputUnit.leave_of_present _ present])
    rw [exec_inputLeavesWindow, State.inputChange_heard, heard, State.powerDownTest_of_input (i := i)]
    · rw [InputUnit.leave_of_present _ present]
      rfl
    · show ((s.charge.setInput i _).input i).state ≠ _
      rw [Charge.input_setInput, if_pos rfl, InputUnit.leave_of_present _ present]
      show (s.charge.input i).state ≠ _
      rw [present]
      exact InputState.noConfusion
  · have gone : ((s.charge.input i).leave s.now).state = .absent := by rw [InputUnit.leave_of_qualifying _ qualifying]
    obtain ⟨charge, state, flag, count⟩ := State.inputChange_of_gone (s := s) (i := i) idle gone
      (by rw [qualifying]; exact InputState.noConfusion)
    refine ⟨_, exec_inputLeavesWindow s i, charge.trans ?_, state.trans (by cases i <;> rfl), flag, count⟩
    rw [Charge.select_of_same, InputUnit.leave_of_qualifying _ qualifying]
    rw [Charge.choice_setInput, Charge.setInput_source, source]
    rw [gone, qualifying]
    exact ⟨InputState.noConfusion, InputState.noConfusion⟩
  · have ready : s.charge.lossDue i s.now = true := (s.charge.lossDue_iff i s.now).mpr ⟨start, present, wait, due⟩
    obtain ⟨charge, state, flag, count⟩ := State.inputChange_of_gone (s := s) (i := i) (u := (s.charge.input i).toAbsent) idle rfl
      (by rw [present]; exact InputState.noConfusion)
    refine ⟨_, exec_lossDebounceExpiry s i, ?_⟩
    rw [State.loseIfDue_of_due ready]
    exact ⟨charge, state.trans (by cases i <;> rfl), flag, count⟩
  · have ready : (s.charge.input i).qualifyDue s.now = true := (InputUnit.qualifyDue_iff s.now qualifying wait).mpr due
    have heard := s.inputsHeard_reported (s.charge.setInput i (s.charge.input i).toPresent)
    obtain ⟨selected, input, -, clock, flag⟩ := State.arrival_heard (s := s) (i := i) _ (s.charge.input i).toPresent rfl
      (by rw [qualifying]; exact InputState.noConfusion)
    obtain ⟨charge, count, state, flags⟩ := State.autoOn_spec (t := s.inputsHeard (s.charge.setInput i (s.charge.input i).toPresent))
      (by rw [heard.power_state]; exact idle.symm)
    refine ⟨_, exec_qualifyWaitExpiry s i, ?_⟩
    rw [State.qualified_of_due ready, State.inputChange_heard, State.powerDownTest_of_input (i := i)]
    · refine ⟨charge.trans selected, ?_, flags _ flag, count.trans (by rw [clock])⟩
      rw [state, heard.power_state, heard.options, heard.warning]
    · rw [input]
      exact InputState.noConfusion

end Sys2Proof.Proofs
end

section
/-! PROOFS. What a WARM reset leaves (R12, R32, R46, R68, R69, R83, R92, R131, R149, R151, R167, R178, R188, R191, R199). -/

namespace Sys2Proof.Machine

/-! ### The Clip Writer at a WARM reset (R131) -/

/-- A drop counted changes the tables and what is to be written of them, nothing else. -/
theorem Writer.addDrops_frame (w : Writer) (n : Nat) : w.addDrops n = { w with
    tables := (w.addDrops n).tables, updates := (w.addDrops n).updates, mirrorDirty := (w.addDrops n).mirrorDirty } := by
  unfold Writer.addDrops
  split
  · rfl
  · split <;> rfl

theorem Media.warmBuffer_writer (m : Media) (id : BufferId) : (m.warmBuffer id).writer = m.writer := by
  unfold Media.warmBuffer
  split <;> rfl

theorem Media.warmBuffer_card (m : Media) (id : BufferId) : (m.warmBuffer id).card = m.card := by
  unfold Media.warmBuffer
  split <;> rfl

theorem Media.warmDrop_card (m : Media) : m.warmDrop.card = m.card.withdraw .readBack := by
  unfold Media.warmDrop
  dsimp only [Media.modCard]
  rw [Media.warmBuffer_card, Media.warmBuffer_card]
  rfl

/-- The writer with its chunks and requests dropped. -/
def Writer.dropped (w : Writer) : Writer :=
  { w.addDrops (hostCount w.warmDropped) with
    parked := []
    queue := []
    held := []
    wip := w.wip.filter fun p => decide (p.stage = .writing)
    waiting := []
    flight := w.flight.map fun f => { f with carried := [] }
    stopSlots := []
    unmounting := none
    starvation := none
    stopPending := none
    gapFresh := false
    readBack := none }

theorem Media.warmDrop_writer (m : Media) : m.warmDrop.writer = m.writer.dropped := by
  unfold Media.warmDrop
  dsimp only [Media.modCard]
  rw [Media.warmBuffer_writer, Media.warmBuffer_writer]
  rw [Media.modWriter, Writer.dropped, Writer.addDrops_frame]

theorem Writer.dropped_state (w : Writer) : w.dropped.state = w.state := by
  rw [Writer.dropped, Writer.addDrops_frame]

theorem Writer.dropped_flight (w : Writer) : w.dropped.flight = w.flight.map fun f => { f with carried := [] } := rfl

theorem Writer.dropped_lastCompletion (w : Writer) : w.dropped.lastCompletion = w.lastCompletion := by
  rw [Writer.dropped, Writer.addDrops_frame]

/-- The writer holds no chunk but one being written, and no request. -/
structure Writer.Empty (w : Writer) : Prop where
  parked : w.parked = []
  queue : w.queue = []
  held : w.held = []
  waiting : w.waiting = []
  stopSlots : w.stopSlots = []
  readBack : w.readBack = none
  stopPending : w.stopPending = none
  starvation : w.starvation = none
  wip : ∀ p, w.wip = some p → p.stage = .writing

theorem Writer.dropped_empty (w : Writer) : w.dropped.Empty :=
  ⟨rfl, rfl, rfl, rfl, rfl, rfl, rfl, rfl, fun p h => by
    have := (Option.filter_eq_some_iff.mp h).2
    simpa using this⟩

/-! ### The writer after the reset, by its state before -/

section
variable {m : Media} (env : Env)

theorem Media.warmDrop_state (m : Media) : m.warmDrop.writer.state = m.writer.state := by
  rw [Media.warmDrop_writer, Writer.dropped_state]

theorem Media.warmWriter_of_recording (h : m.writer.state = .recording ∨ m.writer.state = .closing) :
    (m.warmWriter env).writer =
      ({ m.writer.dropped with hostReset := true, closeCause := some .hostReset } : Writer).enter .closing := by
  rw [← m.warmDrop_state] at h
  rw [← Media.warmDrop_writer]
  rcases h with h | h <;> simp only [Media.warmWriter, h] <;> rfl

theorem Media.warmWriter_of_idle (h : m.writer.state = .idle) :
    (m.warmWriter env).writer = { m.writer.dropped with hostReset := true } := by
  rw [← m.warmDrop_state] at h
  have goes : m.warmWriter env = m.warmDrop.modWriter fun w => { w with hostReset := true } := by
    simp only [Media.warmWriter, h]
  rw [goes, ← Media.warmDrop_writer]
  rfl

/-- A writer that was mounting, or had no volume to close, is UNMOUNTED. -/
theorem Media.warmWriter_of_over (h : m.writer.state = .cardLost ∨ m.writer.state = .cardFault ∨ m.writer.state = .mounting ∨
      m.writer.state = .formatting ∨ (m.writer.state = .halted ∧ env.warn = false)) :
    ∃ job, (m.warmWriter env).writer = ({ m.writer.dropped with job := job } : Writer).dropTables.warmCleared.enter .unmounted := by
  rw [← m.warmDrop_state] at h
  rw [← Media.warmDrop_writer]
  rcases h with h | h | h | h | ⟨h, warn⟩
  · exact ⟨m.warmDrop.writer.job, by simp only [Media.warmWriter, h]; rfl⟩
  · exact ⟨m.warmDrop.writer.job, by simp only [Media.warmWriter, h]; rfl⟩
  · exact ⟨none, by simp only [Media.warmWriter, h]; rfl⟩
  · exact ⟨none, by simp only [Media.warmWriter, h]; rfl⟩
  · exact ⟨m.warmDrop.writer.job, by simp only [Media.warmWriter, h, warn]; rfl⟩

theorem Media.warmWriter_of_warned (h : m.writer.state = .halted) (warn : env.warn = true) :
    (m.warmWriter env).writer = m.writer.dropped.dropTables.warmCleared := by
  rw [← m.warmDrop_state] at h
  rw [← Media.warmDrop_writer]
  simp only [Media.warmWriter, h, warn]
  rfl

theorem Media.warmWriter_of_unmounted (h : m.writer.state = .unmounted) :
    (m.warmWriter env).writer = m.writer.dropped.warmCleared := by
  rw [← m.warmDrop_state] at h
  rw [← Media.warmDrop_writer]
  simp only [Media.warmWriter, h]
  rfl

/-- The writer's chunks and requests are gone, whatever it was doing; the stamp of the last completion stays. -/
theorem Media.warmWriter_empty (m : Media) :
    (m.warmWriter env).writer.Empty ∧ (m.warmWriter env).writer.lastCompletion = m.writer.lastCompletion := by
  have wip := m.writer.dropped_empty.wip
  have stamp := m.writer.dropped_lastCompletion
  have gone (job : Option VolumeJob) : (({ m.writer.dropped with job := job } : Writer).dropTables.warmCleared.enter .unmounted).Empty :=
    ⟨rfl, rfl, rfl, rfl, rfl, rfl, rfl, rfl, wip⟩
  cases state : m.writer.state
  case recording =>
    rw [Media.warmWriter_of_recording env (.inl state)]
    exact ⟨⟨rfl, rfl, rfl, rfl, rfl, rfl, rfl, rfl, wip⟩, stamp⟩
  case closing =>
    rw [Media.warmWriter_of_recording env (.inr state)]
    exact ⟨⟨rfl, rfl, rfl, rfl, rfl, rfl, rfl, rfl, wip⟩, stamp⟩
  case idle =>
    rw [Media.warmWriter_of_idle env state]
    exact ⟨⟨rfl, rfl, rfl, rfl, rfl, rfl, rfl, rfl, wip⟩, stamp⟩
  case unmounted =>
    rw [Media.warmWriter_of_unmounted env state]
    exact ⟨⟨rfl, rfl, rfl, rfl, rfl, rfl, rfl, rfl, wip⟩, stamp⟩
  case halted =>
    cases warn : env.warn
    · obtain ⟨job, eq⟩ := Media.warmWriter_of_over env (.inr (.inr (.inr (.inr ⟨state, warn⟩))))
      rw [eq]
      exact ⟨gone job, stamp⟩
    · rw [Media.warmWriter_of_warned env state warn]
      exact ⟨⟨rfl, rfl, rfl, rfl, rfl, rfl, rfl, rfl, wip⟩, stamp⟩
  all_goals
    obtain ⟨job, eq⟩ := Media.warmWriter_of_over (m := m) env (by rw [state]; simp)
    rw [eq]
    exact ⟨gone job, stamp⟩
end

/-! ### The card at a WARM reset (R149) -/

theorem Media.dropVolume_card (m : Media) : m.dropVolume.card = m.card.withdrawAll := rfl
theorem Media.warmUnmount_card (m : Media) : m.warmUnmount.card = m.card.withdrawAll := rfl

/-- The card's claims go with the writer's volume, or its read-back alone; no run, no identification and no total of it changes. -/
theorem Media.warmWriter_card (m : Media) (env : Env) :
    (m.warmWriter env).card = m.card.withdraw .readBack ∨ (m.warmWriter env).card = (m.card.withdraw .readBack).withdrawAll := by
  rw [← Media.warmDrop_card]
  unfold Media.warmWriter
  dsimp only
  split
  case h_1 | h_2 | h_3 | h_9 =>
    left
    simp only [Media.modWriter_card, Media.enter_card]
  case h_6 =>
    right
    split <;> simp only [Media.modWriter_card, Media.warmUnmount_card, Media.dropVolume_card]
  all_goals
    right
    simp only [Media.modWriter_card, Media.warmUnmount_card]

/-- What a WARM reset leaves of the card, but for one in FAULT. -/
structure Card.KeptBy (c d : Card) : Prop where
  state : d.state = c.state
  detect : d.detect = c.detect
  capacity : d.capacity = c.capacity
  readErrors : d.readErrors = c.readErrors
  writeErrors : d.writeErrors = c.writeErrors
  timeouts : d.timeouts = c.timeouts
  removals : d.removals = c.removals
  ident : d.ident = c.ident
  fast : d.fast = c.fast

theorem Card.KeptBy.trans {c d e : Card} (first : c.KeptBy d) (second : d.KeptBy e) : c.KeptBy e where
  state := second.state.trans first.state
  detect := second.detect.trans first.detect
  capacity := second.capacity.trans first.capacity
  readErrors := second.readErrors.trans first.readErrors
  writeErrors := second.writeErrors.trans first.writeErrors
  timeouts := second.timeouts.trans first.timeouts
  removals := second.removals.trans first.removals
  ident := second.ident.trans first.ident
  fast := second.fast.trans first.fast

theorem Card.withdraw_kept (c : Card) (cls : ClaimClass) : c.KeptBy (c.withdraw cls) := by
  cases cls <;> exact ⟨rfl, rfl, rfl, rfl, rfl, rfl, rfl, rfl, rfl⟩

theorem Card.withdrawAll_kept (c : Card) : c.KeptBy c.withdrawAll :=
  ((c.withdraw_kept _).trans (Card.withdraw_kept _ _)).trans (Card.withdraw_kept _ _)

theorem Card.withdraw_readBack (c : Card) : (c.withdraw .readBack).readBack = none := rfl

theorem Media.warmWriter_keeps_card (m : Media) (env : Env) :
    m.card.KeptBy (m.warmWriter env).card ∧ (m.warmWriter env).card.readBack = none := by
  rcases m.warmWriter_card env with eq | eq <;> rw [eq]
  · exact ⟨Card.withdraw_kept _ _, Card.withdraw_readBack _⟩
  · exact ⟨(Card.withdraw_kept _ _).trans (Card.withdrawAll_kept _), Card.withdraw_readBack _⟩

theorem Card.warm_of_fault {c : Card} (now : Stamp) (h : c.state = .fault) :
    c.warm now = ({ c with
      state := .identifying, fast := false, run := none, ident := some .reset, identWait := some ⟨now, 1000000⟩
      recovery := true, stopOwed := false } : Card).begin :=
  if_pos h

theorem Card.warm_of_not_fault {c : Card} (now : Stamp) (h : c.state ≠ .fault) : c.warm now = c :=
  if_neg h

end Sys2Proof.Machine
end

section
/-! PROOFS. A WARM reset, settled (R12, R32, R46, R68, R69, R83, R92, R131, R149, R151, R167, R178, R188, R191, R199). -/

namespace Sys2Proof.Machine

/-! ### A window that closes in RUN or SHUTTING (R74, R151) -/

theorem State.loseIfDue_spec {s : State} (i : Input) (awake : s.power.state = .run ∨ s.power.state = .shutting) :
    let x := s.loseIfDue i
    s.Reported x ∧ x.charge.windowOpen = s.charge.windowOpen ∧
    (s.charge.lossDue i s.now = true → (x.charge.input i).state = .absent ∧ x.media.exch.flagSet .charge = true) ∧
    (∀ j, j ≠ i → x.charge.input j = s.charge.input j) ∧ (¬s.charge.lossDue i s.now = true → x = s) := by
  intro x
  by_cases due : s.charge.lossDue i s.now = true
  · have lost : x = s.inputsHeard (s.charge.setInput i (s.charge.input i).toAbsent) := by
      rw [← State.inputChange_of_awake _ (awake.imp_right .inl)]
      exact State.loseIfDue_of_due due
    obtain ⟨start, present, -⟩ := (s.charge.lossDue_iff i s.now).mp due
    obtain ⟨selected, input, -, -, flag⟩ := State.arrival_heard (s := s) (i := i) _ (s.charge.input i).toAbsent rfl
      (by rw [present]; exact InputState.noConfusion)
    rw [lost]
    refine ⟨s.inputsHeard_reported _, ?_, fun _ => ⟨by rw [input]; rfl, flag⟩, fun j other => ?_, fun not => absurd due not⟩
    · rw [selected, (Charge.select_inputs _ _).2.2.2, Charge.setInput_windowOpen]
    · rw [selected, Charge.select_input, Charge.input_setInput, if_neg other]
  · have same : x = s := State.loseIfDue_of_not_due due
    rw [same]
    exact ⟨.refl s, rfl, fun h => absurd h due, fun _ _ => rfl, fun _ => rfl⟩

/-- An input's loss debounce has lasted the 20 ms that are in force once the window is closed. -/
def State.lostAtClose (s : State) (i : Input) : Prop :=
  ({ s.charge with windowOpen := false } : Charge).lossDue i s.now = true

theorem State.lostAtClose_iff (s : State) (i : Input) : s.lostAtClose i ↔
    ∃ start, (s.charge.input i).state = .present ∧ (s.charge.input i).loss = some start ∧ 20000 ≤ (s.clock.count - start).toInt := by
  rw [State.lostAtClose, Charge.lossDue_iff]
  cases i <;> rfl

/-- With an input and the window as before, the debounce is judged as before. -/
theorem Charge.lossDue_of_same {c d : Charge} {i : Input} (now : Stamp) (input : d.input i = c.input i)
    (window : d.windowOpen = c.windowOpen) : d.lossDue i now = true ↔ c.lossDue i now = true := by
  rw [Charge.lossDue_iff, Charge.lossDue_iff, input, window]

theorem State.windowClosed_spec {s : State} (awake : s.power.state = .run ∨ s.power.state = .shutting) :
    let x := s.windowReport false
    (s.toldWindow false).Reported x ∧ x.charge.windowOpen = false ∧
    (∀ i, s.lostAtClose i → (x.charge.input i).state = .absent ∧ x.media.exch.flagSet .charge = true) ∧
    (∀ i, ¬s.lostAtClose i → x.charge.input i = s.charge.input i) ∧
    ((∀ i, ¬s.lostAtClose i) → x = s.toldWindow false) := by
  intro x
  have closed : x = ((s.toldWindow false).loseIfDue .usb).loseIfDue .aux := s.windowReport_of_closed
  obtain ⟨usbHeard, usbWindow, usbLost, usbOther, usbNone⟩ := State.loseIfDue_spec (s := s.toldWindow false) .usb awake
  obtain ⟨auxHeard, auxWindow, auxLost, auxOther, auxNone⟩ := State.loseIfDue_spec (s := (s.toldWindow false).loseIfDue .usb) .aux
    (by rw [usbHeard.power_state]; exact awake)
  have aux_same : ((s.toldWindow false).loseIfDue .usb).charge.lossDue .aux ((s.toldWindow false).loseIfDue .usb).now = true ↔
      s.lostAtClose .aux := by
    have now : ((s.toldWindow false).loseIfDue .usb).now = s.now := by rw [State.now, usbHeard.clock]; rfl
    rw [now]
    exact Charge.lossDue_of_same _ (usbOther .aux Input.noConfusion) usbWindow
  rw [closed]
  refine ⟨usbHeard.trans auxHeard, auxWindow.trans usbWindow, fun i due => ?_, fun i not => ?_, fun none => ?_⟩
  · cases i
    · obtain ⟨absent, flag⟩ := usbLost due
      exact ⟨by rw [auxOther .usb Input.noConfusion, absent], auxHeard.media.kept _ flag⟩
    · exact auxLost (aux_same.mpr due)
  · cases i
    · rw [auxOther .usb Input.noConfusion, usbNone not]
      rfl
    · rw [auxNone (mt aux_same.mp not), usbOther .aux Input.noConfusion]
      rfl
  · rw [auxNone (mt aux_same.mp (none .aux)), usbNone (none .usb)]

/-! ### The Incident Monitor's part of a WARM reset -/

/-- The exchange's registers are 0 and the monitor at rest; a dropped protection request has raised INCIDENT. -/
def State.warmTold (s : State) : State :=
  { s with
    incident := s.incident.warm
    media := { s.media with exch := if s.incident.requests.isEmpty then s.media.exch.warm else s.media.exch.warm.raise .incident } }

theorem State.warmIncident_told (s : State) : (s.modExch Exchange.warm).warmIncident =
    if s.incident.window = .incident then s.warmTold.windowReport false else s.warmTold := by
  have told : ((s.modExch Exchange.warm).modIncident Incident.warm).raiseIf (!s.incident.requests.isEmpty) .incident = s.warmTold := by
    rw [State.raiseIf_eq, State.warmTold]
    cases s.incident.requests.isEmpty <;> rfl
  rw [State.warmIncident_eq]
  show (if decide (s.incident.window = .incident) = true then _ else _) = _
  rw [← told]
  simp only [decide_eq_true_eq]
  rfl

/-- The exchange as the reset table has it, but for its flags (R191, R193, R199). -/
structure Exchange.Cleared (e : Exchange) : Prop where
  state : e.state = .stopped
  run : e.run = false
  period : e.period = 0
  enables : e.enables = 0
  baseLo : e.baseLo = 0
  baseHi : e.baseHi = 0
  torn : e.torn = 0
  handed : e.handed = []

theorem Exchange.warm_cleared (e : Exchange) : e.warm.Cleared := ⟨rfl, rfl, rfl, rfl, rfl, rfl, rfl, rfl⟩

theorem Exchange.Cleared.of_rest {e d : Exchange} (h : ({ e with attn := 0 } : Exchange).rest = ({ d with attn := 0 } : Exchange).rest)
    (cleared : d.Cleared) : e.Cleared where
  state := (congrArg Exchange.state h).trans cleared.state
  run := (congrArg Exchange.run h).trans cleared.run
  period := (congrArg Exchange.period h).trans cleared.period
  enables := (congrArg Exchange.enables h).trans cleared.enables
  baseLo := (congrArg Exchange.baseLo h).trans cleared.baseLo
  baseHi := (congrArg Exchange.baseHi h).trans cleared.baseHi
  torn := (congrArg Exchange.torn h).trans cleared.torn
  handed := (congrArg Exchange.handed h).trans cleared.handed

theorem Exchange.Cleared.control {e : Exchange} (h : e.Cleared) : e.control = 0 := by
  rw [Exchange.control, h.run, h.period, h.enables]
  rfl

theorem Exchange.Cleared.base {e : Exchange} (h : e.Cleared) : e.base = 0 := by
  rw [Exchange.base, h.baseLo, h.baseHi]
  rfl

/-- The flags as the monitor's dropped requests leave them. -/
theorem State.warmTold_attn (s : State) :
    s.warmTold.media.exch.attn = if s.incident.requests = [] then 0 else 0x40#11 := by
  show (if s.incident.requests.isEmpty then s.media.exch.warm else s.media.exch.warm.raise .incident).attn = _
  cases s.incident.requests with
  | nil => rfl
  | cons r rest =>
    rw [if_neg (List.cons_ne_nil r rest)]
    show 0#11 ||| AttnFlag.incident.mask = 0x40#11
    decide

theorem State.warmTold_flag (s : State) (f : AttnFlag) :
    s.warmTold.media.exch.flagSet f = true ↔ f = .incident ∧ s.incident.requests ≠ [] := by
  rw [Exchange.flagSet, State.warmTold_attn]
  cases s.incident.requests
  · simp
  · cases f <;> simp [AttnFlag.index]

theorem State.warmTold_cleared (s : State) : s.warmTold.media.exch.Cleared := by
  show (if s.incident.requests.isEmpty then s.media.exch.warm else s.media.exch.warm.raise .incident).Cleared
  split
  · exact s.media.exch.warm_cleared
  · exact ⟨rfl, rfl, rfl, rfl, rfl, rfl, rfl, rfl⟩

/-- The state in which the reset's report of the window, if there is one, has been heard. -/
def State.warmHeard (s : State) : State :=
  (s.modExch Exchange.warm).warmIncident

theorem State.warmHeard_of_quiet {s : State} (h : s.incident.window ≠ .incident) : s.warmHeard = s.warmTold :=
  s.warmIncident_told.trans (if_neg h)

theorem State.warmHeard_of_open {s : State} (h : s.incident.window = .incident) : s.warmHeard = s.warmTold.windowReport false :=
  s.warmIncident_told.trans (if_pos h)

/-- Whether a window closes or not, what the report leaves: the part but for the charge report and the window's listeners. -/
theorem State.warmHeard_reported {s : State} (awake : s.power.state = .run ∨ s.power.state = .shutting) :
    s.warmTold.Reported s.warmHeard ∨ (s.warmTold.toldWindow false).Reported s.warmHeard := by
  by_cases h : s.incident.window = .incident
  · rw [State.warmHeard_of_open h]
    exact .inr (State.windowClosed_spec (s := s.warmTold) awake).1
  · rw [State.warmHeard_of_quiet h]
    exact .inl (.refl _)

/-- What the other blocks hold as the report has been heard. -/
theorem State.warmHeard_spec {s : State} (awake : s.power.state = .run ∨ s.power.state = .shutting) :
    let x := s.warmHeard
    x.clock = s.clock ∧ x.options = s.options ∧ x.pending = s.pending ∧ x.incident = s.incident.warm ∧
    x.motion.state = s.motion.state ∧ x.motion.profile = s.motion.profile ∧ x.motion.bias = s.motion.bias ∧
    x.power = { s.power with reserveHeld := x.power.reserveHeld, cutoffLock := x.power.cutoffLock } ∧
    x.gauge.warning = s.gauge.warning ∧ s.warmTold.media.Reported x.media := by
  intro x
  rcases State.warmHeard_reported awake with heard | heard
  all_goals
    exact ⟨heard.clock, heard.options, heard.pending, heard.incident, by rw [heard.motion]; rfl, by rw [heard.motion]; rfl,
      by rw [heard.motion]; rfl, heard.power, heard.warning, heard.media⟩

/-! ### The whole reset -/

theorem exec_warmReset (s : State) : exec .warmReset s = .next (if s.railOn then s.warmReset.settle else s) := rfl

/-- The media blocks before the writer's own part: the frames gone, the writer and the card as the report left them. -/
def State.warmStopped (s : State) : Media :=
  s.warmHeard.warmReport.media.steadyStop

theorem Media.steadyStop_spec (m : Media) :
    m.steadyStop.writer = m.writer ∧ m.steadyStop.card = m.card ∧ m.steadyStop.exch.rest = m.exch.rest ∧
    m.steadyStop.steady.state = .idle ∧ m.steadyStop.steady.frames = [] :=
  ⟨rfl, rfl, rfl, rfl, rfl⟩

theorem State.warmReport_media (s : State) : s.warmReport.media = s.media ∨ s.warmReport.media = s.media.steadyStop := by
  unfold State.warmReport
  split
  · exact .inr rfl
  · exact .inl rfl

theorem State.warmStopped_spec (s : State) :
    s.warmStopped.writer = s.warmHeard.media.writer ∧ s.warmStopped.card = s.warmHeard.media.card ∧
    s.warmStopped.exch.rest = s.warmHeard.media.exch.rest ∧ s.warmStopped.steady.state = .idle ∧ s.warmStopped.steady.frames = [] := by
  obtain ⟨writer, card, exch, state, frames⟩ := s.warmHeard.warmReport.media.steadyStop_spec
  have before : s.warmHeard.warmReport.media.writer = s.warmHeard.media.writer ∧
      s.warmHeard.warmReport.media.card = s.warmHeard.media.card ∧
      s.warmHeard.warmReport.media.exch.rest = s.warmHeard.media.exch.rest := by
    obtain ⟨writer, card, exch, -, -⟩ := s.warmHeard.media.steadyStop_spec
    rcases s.warmHeard.warmReport_media with same | stopped
    · rw [same]
      exact ⟨rfl, rfl, rfl⟩
    · rw [stopped]
      exact ⟨writer, card, exch⟩
  exact ⟨writer.trans before.1, card.trans before.2.1, exch.trans before.2.2, state, frames⟩

theorem State.warmReset_media (s : State) : s.warmReset.media =
    (s.warmStopped.warmWriter s.warmHeard.warmReport.env).modCard fun c => c.warm s.warmHeard.warmReport.now := rfl

theorem State.warmReport_spec (s : State) :
    s.warmReport.clock = s.clock ∧ s.warmReport.gauge = s.gauge ∧ s.warmReport.motion = s.motion ∧ s.warmReport.charge = s.charge ∧
    s.warmReport.power = s.power ∧ s.warmReport.options = s.options ∧ s.warmReport.pending = s.pending ∧
    s.warmReport.incident.window = s.incident.window ∧ s.warmReport.incident.requests = s.incident.requests ∧
    s.warmReport.incident.number = s.incident.number := by
  unfold State.warmReport
  split <;> exact ⟨rfl, rfl, rfl, rfl, rfl, rfl, rfl, rfl, rfl, rfl⟩

theorem State.warmReset_blocks (s : State) :
    let x := s.warmReset
    x.clock = s.warmHeard.clock ∧ x.integ = .reset ∧ x.motion = s.warmHeard.motion.warm ∧ x.charge = s.warmHeard.charge ∧
    x.gauge = s.warmHeard.gauge ∧ x.options = s.warmHeard.options ∧ x.pending = s.warmHeard.pending ∧
    x.power = { s.warmHeard.power with
      record := s.warmHeard.power.record.after .warm
      storing := s.warmHeard.power.storing.map fun st => { st with slot := none } } ∧
    x.incident.window = s.warmHeard.incident.window ∧ x.incident.requests = s.warmHeard.incident.requests ∧
    x.incident.number = s.warmHeard.incident.number := by
  obtain ⟨clock, gauge, motion, charge, power, options, pending, window, requests, number⟩ := s.warmHeard.warmReport_spec
  refine ⟨clock, rfl, congrArg MotionPort.warm motion, charge, gauge, options, pending, ?_, window, requests, number⟩
  have whole : s.warmReset.power = { s.warmHeard.warmReport.power with
      record := s.warmHeard.warmReport.power.record.after .warm
      storing := s.warmHeard.warmReport.power.storing.map fun st => { st with slot := none } } := rfl
  rw [whole, power]

/-- The media blocks after the reset, in terms of those that the report left. -/
theorem State.warmReset_media_spec (s : State) :
    let x := s.warmReset.media
    x.writer = (s.warmStopped.warmWriter s.warmHeard.warmReport.env).writer ∧ x.exch.rest = s.warmHeard.media.exch.rest ∧
    x.steady.state = .idle ∧ x.steady.frames = [] ∧
    x.card = (s.warmStopped.warmWriter s.warmHeard.warmReport.env).card.warm s.warmHeard.warmReport.now := by
  obtain ⟨-, -, exch, state, frames⟩ := s.warmStopped_spec
  have rest := s.warmStopped.warmWriter_rest s.warmHeard.warmReport.env
  have exchRest : (s.warmStopped.warmWriter s.warmHeard.warmReport.env).exch.rest = s.warmStopped.exch.rest := congrArg Prod.fst rest
  have steady : (s.warmStopped.warmWriter s.warmHeard.warmReport.env).steady.rest = s.warmStopped.steady.rest :=
    congrArg (fun p => p.2.1) rest
  rw [State.warmReset_media]
  exact ⟨rfl, exchRest.trans exch, (congrArg Steady.state steady).trans state, (congrArg Steady.frames steady).trans frames, rfl⟩

/-- With no input lost as the window closes, no flag beyond the monitor's is raised. -/
theorem State.warmHeard_of_nothing {s : State} (awake : s.power.state = .run ∨ s.power.state = .shutting)
    (h : s.incident.window = .incident → ∀ i, ¬s.lostAtClose i) : s.warmHeard.media.exch.attn = s.warmTold.media.exch.attn := by
  by_cases opened : s.incident.window = .incident
  · rw [State.warmHeard_of_open opened, (State.windowClosed_spec (s := s.warmTold) awake).2.2.2.2 (h opened)]
    rfl
  · rw [State.warmHeard_of_quiet opened]

/-- The Clip Writer after the reset, by its state before. -/
theorem State.warmReset_writer {s : State} (awake : s.power.state = .run ∨ s.power.state = .shutting) :
    let w := s.media.writer
    let v := s.warmReset.media.writer
    v.parked = [] ∧ v.queue = [] ∧ v.held = [] ∧ v.waiting = [] ∧ v.stopSlots = [] ∧ v.readBack = none ∧
      v.stopPending = none ∧ v.starvation = none ∧ v.lastCompletion = w.lastCompletion ∧
      (∀ p, v.wip = some p → p.stage = .writing) ∧
      (w.state = .recording ∨ w.state = .closing ∨ w.state = .idle →
        v.flight = w.flight.map fun f => { f with carried := [] }) ∧
      (w.state = .recording ∨ w.state = .closing →
        v.state = .closing ∧ v.closeCause = some .hostReset ∧ v.hostReset = true) ∧
      (w.state = .idle → v.state = .idle ∧ v.hostReset = true) ∧
      (w.state = .cardLost ∨ w.state = .cardFault ∨ w.state = .mounting ∨ w.state = .formatting →
        v.state = .unmounted ∧ v.mounted = false ∧ v.tables = none ∧ v.expected = 0 ∧ v.keyWait = false) ∧
      (w.state = .halted → v.state = (if s.gauge.warning then .halted else .unmounted) ∧ v.mounted = false ∧
        v.tables = none ∧ v.expected = 0 ∧ v.keyWait = false) ∧
      (w.state = .unmounted → v.state = .unmounted ∧ v.expected = 0 ∧ v.keyWait = false) := by
  intro w v
  obtain ⟨-, -, -, -, -, -, -, -, warning, media⟩ := State.warmHeard_spec awake
  have writer : v = (s.warmStopped.warmWriter s.warmHeard.warmReport.env).writer := s.warmReset_media_spec.1
  have before : s.warmStopped.writer = s.warmHeard.media.writer := s.warmStopped_spec.1
  have env : s.warmHeard.warmReport.env.warn = s.gauge.warning :=
    (congrArg Gauge.warning s.warmHeard.warmReport_spec.2.1).trans warning
  have flight : s.warmStopped.writer.flight = w.flight := by rw [before]; exact media.flight
  have same (st : WriterState) (other : st ≠ .recording) (h : w.state = st) : s.warmStopped.writer.state = st := by
    rw [before]
    rcases media.state with eq | ⟨recording, -⟩
    · exact eq.trans h
    · exact absurd (h.symm.trans recording) other
  have recording (h : w.state = .recording ∨ w.state = .closing) :
      s.warmStopped.writer.state = .recording ∨ s.warmStopped.writer.state = .closing := by
    rw [before]
    rcases media.state with eq | ⟨-, closing⟩
    · rw [eq]; exact h
    · exact .inr closing
  obtain ⟨empty, completion⟩ := s.warmStopped.warmWriter_empty s.warmHeard.warmReport.env
  rw [← writer] at empty completion
  refine ⟨empty.parked, empty.queue, empty.held, empty.waiting, empty.stopSlots, empty.readBack, empty.stopPending,
    empty.starvation, completion.trans (by rw [before]; exact media.lastCompletion), empty.wip, fun h => ?_, fun h => ?_, fun h => ?_,
    fun h => ?_, fun h => ?_, fun h => ?_⟩
  · rw [← flight, writer]
    rcases or_assoc.mpr h with h | h
    · rw [Media.warmWriter_of_recording _ (recording h)]
      rfl
    · rw [Media.warmWriter_of_idle _ (same _ WriterState.noConfusion h)]
      rfl
  · rw [writer, Media.warmWriter_of_recording _ (recording h)]
    exact ⟨rfl, rfl, rfl⟩
  · have idle := same _ WriterState.noConfusion h
    rw [writer, Media.warmWriter_of_idle _ idle]
    exact ⟨(Writer.dropped_state _).trans idle, rfl⟩
  · obtain ⟨job, eq⟩ := Media.warmWriter_of_over (m := s.warmStopped) s.warmHeard.warmReport.env (by
      rcases h with h | h | h | h
      · exact .inl (same _ WriterState.noConfusion h)
      · exact .inr (.inl (same _ WriterState.noConfusion h))
      · exact .inr (.inr (.inl (same _ WriterState.noConfusion h)))
      · exact .inr (.inr (.inr (.inl (same _ WriterState.noConfusion h)))))
    rw [writer, eq]
    exact ⟨rfl, rfl, rfl, rfl, rfl⟩
  · have halted := same _ WriterState.noConfusion h
    cases warned : s.gauge.warning
    · obtain ⟨job, eq⟩ := Media.warmWriter_of_over (m := s.warmStopped) s.warmHeard.warmReport.env
        (.inr (.inr (.inr (.inr ⟨halted, env.trans warned⟩))))
      rw [writer, eq]
      exact ⟨rfl, rfl, rfl, rfl, rfl⟩
    · rw [writer, Media.warmWriter_of_warned _ halted (env.trans warned)]
      exact ⟨(Writer.dropped_state _).trans halted, rfl, rfl, rfl, rfl⟩
  · have unmounted := same _ WriterState.noConfusion h
    rw [writer, Media.warmWriter_of_unmounted _ unmounted]
    exact ⟨(Writer.dropped_state _).trans unmounted, rfl, rfl⟩

/-- The card after the reset: kept, but for the read-back's claim, or identified once more from FAULT. -/
theorem State.warmReset_card {s : State} (awake : s.power.state = .run ∨ s.power.state = .shutting) :
    let c := s.media.card
    let d := s.warmReset.media.card
    d.detect = c.detect ∧ d.capacity = c.capacity ∧ d.readErrors = c.readErrors ∧ d.writeErrors = c.writeErrors ∧
      d.timeouts = c.timeouts ∧ d.removals = c.removals ∧ d.readBack = none ∧
      (c.state ≠ .fault → d.state = c.state ∧ d.ident = c.ident ∧ d.fast = c.fast) ∧
      (c.state = .fault → d.state = .identifying ∧ d.ident = some .reset ∧ d.recovery = true ∧ d.fast = false ∧
        d.identWait = some ⟨s.clock.count, 1000000⟩) := by
  intro c d
  obtain ⟨clock, -, -, -, -, -, -, -, -, media⟩ := State.warmHeard_spec awake
  have card : d = (s.warmStopped.warmWriter s.warmHeard.warmReport.env).card.warm s.warmHeard.warmReport.now :=
    s.warmReset_media_spec.2.2.2.2
  have now : s.warmHeard.warmReport.now = s.clock.count :=
    (congrArg Clock.count s.warmHeard.warmReport_spec.1).trans (congrArg Clock.count clock)
  have before : s.warmStopped.card = c := s.warmStopped_spec.2.1.trans media.card
  obtain ⟨kept, readBack⟩ := s.warmStopped.warmWriter_keeps_card s.warmHeard.warmReport.env
  rw [before] at kept
  obtain ⟨state, detect, capacity, readErrors, writeErrors, timeouts, removals, ident, fast⟩ := kept
  rw [card, now]
  by_cases fault : c.state = .fault
  · rw [Card.warm_of_fault _ (state.trans fault)]
    exact ⟨detect, capacity, readErrors, writeErrors, timeouts, removals, readBack, fun h => absurd fault h,
      fun _ => ⟨rfl, rfl, rfl, rfl, rfl⟩⟩
  · rw [Card.warm_of_not_fault _ (fun h => fault (state.symm.trans h))]
    exact ⟨detect, capacity, readErrors, writeErrors, timeouts, removals, readBack, fun _ => ⟨state, ident, fast⟩,
      fun h => absurd h fault⟩

end Sys2Proof.Machine

namespace Sys2Proof.Proofs
open Sys2Proof.Machine

/-- Settles O9, by the blocks: the reports first, then the writer by its state and the card. -/
theorem warmReset : Obligations.WarmReset := by
  intro s
  refine ⟨fun on => ?_, fun off => ?_⟩
  · have rail : s.railOn = true := by
      rcases on with h | h <;> rw [State.railOn, h] <;> rfl
    obtain ⟨clock, options, pending, incident, motionState, profile, bias, power, warning, media⟩ := State.warmHeard_spec on
    obtain ⟨xClock, xInteg, xMotion, xCharge, xGauge, xOptions, xPending, xPower, window, requests, number⟩ := s.warmReset_blocks
    obtain ⟨writer, exch, steadyState, frames, card⟩ := s.warmReset_media_spec
    have cleared : s.warmReset.media.exch.Cleared := by
      refine .of_rest (d := s.warmTold.media.exch) ?_ s.warmTold_cleared
      rw [← media.exch]
      exact congrArg (fun e : Exchange => { e with attn := 0 }) exch
    refine ⟨s.warmReset, by rw [exec_warmReset, if_pos rail], xClock.trans clock, xInteg, ?_, ?_, ?_, by rw [xMotion]; rfl,
      by rw [xMotion]; rfl, steadyState, frames, cleared.state, cleared.control, cleared.base, cleared.torn, cleared.handed,
      window.trans (by rw [incident]; rfl), requests.trans (by rw [incident]; rfl), number.trans (by rw [incident]; rfl),
      ?_, ?_, ?_, xOptions.trans options, xPending.trans pending, ?_, ?_, ?_, ?_, ?_⟩
    · rw [xMotion, MotionPort.warm, motionState]
    · rw [xMotion, ← profile]; rfl
    · rw [xMotion, ← bias]; rfl
    · rw [xPower, power]
    · rw [xPower, power]
    · rw [xPower, power]; rfl
    · exact State.warmReset_writer on
    · exact State.warmReset_card on
    · have attn : s.warmReset.media.exch.attn = s.warmHeard.media.exch.attn := by
        show s.warmReset.media.exch.rest.attn = s.warmHeard.media.exch.rest.attn
        rw [exch]
      have flag (f : AttnFlag) : s.warmReset.media.exch.flagSet f = s.warmHeard.media.exch.flagSet f := by
        rw [Exchange.flagSet, attn, Exchange.flagSet]
      refine ⟨fun none => ?_, fun i ⟨opened, due⟩ => ⟨?_, ?_, fun f charge told gauge => ?_⟩⟩
      · rw [attn, ← State.warmTold_attn, State.warmHeard_of_nothing on fun opened i due =>
          none i ⟨opened, (s.lostAtClose_iff i).mp due⟩]
      · rw [State.warmHeard_of_open opened] at flag
        exact (flag .charge).trans ((State.windowClosed_spec (s := s.warmTold) on).2.2.1 i ((s.lostAtClose_iff i).mpr due)).2
      · dsimp only
        rw [flag, media.others .incident AttnFlag.noConfusion AttnFlag.noConfusion, State.warmTold_flag]
        exact and_iff_right rfl
      · dsimp only
        rw [flag, media.others f gauge charge, Bool.eq_false_iff, ne_eq, State.warmTold_flag]
        exact fun h => told h.1
    · intro quiet
      rw [xCharge, xGauge, State.warmHeard_of_quiet (by rw [quiet]; exact WindowState.noConfusion)]
      exact ⟨rfl, rfl⟩
    · intro opened
      obtain ⟨-, closed, lost, kept, none⟩ := State.windowClosed_spec (s := s.warmTold) on
      rw [xCharge, xGauge, State.warmHeard_of_open opened]
      refine ⟨closed, fun i due => (lost i ((s.lostAtClose_iff i).mpr due)).1, fun i not => kept i (mt (s.lostAtClose_iff i).mp not),
        fun all => ?_⟩
      rw [none fun i => mt (s.lostAtClose_iff i).mp (all i)]
      exact ⟨rfl, rfl⟩
  · have rail : ¬s.railOn = true := by
      rcases off with h | h | h <;> rw [State.railOn, h] <;> exact Bool.false_ne_true
    rw [exec_warmReset, if_neg rail]

end Sys2Proof.Proofs
end

section
/-! PROOFS. Intake: its start and stop, data-ready edges and bursts (R17, R18, R20 to R26, R29, R31). -/

namespace Sys2Proof.Machine

/-! ### The rail and the port (R20, R31, R179) -/

theorem State.motionFree_iff (s : State) : s.motionFree = true ↔
    (s.power.state = .run ∨ s.power.state = .shutting) ∧ s.motion.state = .ready ∧ s.motion.activity = .idle := by
  rw [State.motionFree, Bool.and_eq_true, State.railOn_iff, MotionPort.free, decide_eq_true_iff]

/-! ### START_MOTION and STOP_MOTION (R17, R18) -/

theorem exec_startMotion {s : State} {h : Handed} {first : Word32} (next : s.media.exch.nextRequest .motion = some h)
    (kind : h.request = .startMotion first) :
    exec .startMotion s = .next ((s.requestTaken .motion).takeStartMotion h first) := by
  show Host.Outcome.next (s.onRequest .motion Request.asStartMotion State.takeStartMotion) = _
  rw [State.onRequest_of_next (a := first) _ next (by rw [kind]; rfl)]
  rfl

theorem exec_stopMotion {s : State} {h : Handed} (next : s.media.exch.nextRequest .motion = some h)
    (kind : h.request = .stopMotion) :
    exec .stopMotion s = .next ((s.requestTaken .motion).takeStopMotion h ()) := by
  show Host.Outcome.next (s.onRequest .motion Request.asStopMotion State.takeStopMotion) = _
  rw [State.onRequest_of_next (a := ()) _ next (by rw [kind]; rfl)]
  rfl

theorem State.takeStartMotion_of_free {s : State} (h : Handed) (first : Word32) (free : s.motionFree = true) :
    s.takeStartMotion h first = (s.startIntake first).answer h.slot .done :=
  if_pos free

theorem State.takeStartMotion_of_not_free {s : State} (h : Handed) (first : Word32) (busy : ¬s.motionFree = true) :
    s.takeStartMotion h first = s.answer h.slot .refusedState :=
  if_neg busy

theorem State.takeStopMotion_of_idle {s : State} (h : Handed) (u : Unit) (running : s.motion.state = .running)
    (idle : s.motion.activity ≠ .burst) : s.takeStopMotion h u = s.stopIntake.answer h.slot .done := by
  rw [State.takeStopMotion, if_pos running, if_neg idle]

theorem State.takeStopMotion_of_burst {s : State} (h : Handed) (u : Unit) (running : s.motion.state = .running)
    (burst : s.motion.activity = .burst) : s.takeStopMotion h u = s.modMotion fun p => p.waitToStop h.slot := by
  rw [State.takeStopMotion, if_pos running, if_pos burst]

theorem State.takeStopMotion_of_not_running {s : State} (h : Handed) (u : Unit) (stopped : s.motion.state ≠ .running) :
    s.takeStopMotion h u = s.answer h.slot .done :=
  if_neg stopped

/-! ### Answers given one after the other (R197) -/

/-- Several answers, given in turn to the state. -/
theorem State.answerAll_eq_foldl (s : State) (slots : List Nat) (a : Answer) :
    s.answerAll slots a = slots.foldl (fun x slot => x.answer slot a) s := by
  induction slots generalizing s with
  | nil => rfl
  | cons slot slots ih =>
    rw [List.foldl_cons, ← ih]
    rfl

/-- The part as intake stops, before the answers. -/
def State.intakeOver (s : State) : State :=
  { s with
    motion := s.motion.stopped
    integ := s.integ.stop
    media := s.media.steadyStop
    incident := s.incident.intakeStopped }

theorem State.stopIntake_eq (s : State) : s.stopIntake = s.intakeOver.answerAll s.motion.stopSlots .done := rfl

theorem MotionPort.stopped_of_no_slots {p : MotionPort} (slots : p.stopSlots = []) : p.stopped = { p with
    state := .ready, stopWaiting := false, missed := 0, prevStamp := none, seedWaiting := false, stillRun := 0 } := by
  simp only [MotionPort.stopped, slots]

theorem State.stopIntake_of_no_slots {s : State} (slots : s.motion.stopSlots = []) : s.stopIntake = { s with
    motion := { s.motion with
      state := .ready, stopWaiting := false, missed := 0, prevStamp := none, seedWaiting := false, stillRun := 0 }
    integ := s.integ.stop
    media := s.media.steadyStop
    incident := s.incident.intakeStopped } := by
  rw [State.stopIntake_eq, slots, ← MotionPort.stopped_of_no_slots slots]
  rfl

/-! ### Data-ready edges (R21) -/

theorem exec_dataReadyEdge (s : State) :
    exec .dataReadyEdge s = .next (if s.railOn then { s with motion := s.motion.dataReady s.now } else s) := rfl

section
variable {p : MotionPort} (now : Stamp)

theorem MotionPort.dataReady_of_not_running (h : p.state ≠ .running) : p.dataReady now = p := by
  unfold MotionPort.dataReady
  split
  · contradiction
  · contradiction
  · rfl

theorem MotionPort.dataReady_of_stop (h : p.stopWaiting = true) : p.dataReady now = p := by
  unfold MotionPort.dataReady
  rw [h]
  split
  · contradiction
  · contradiction
  · rfl

theorem MotionPort.dataReady_of_idle (running : p.state = .running) (goes : p.stopWaiting = false) (idle : p.activity = .idle) :
    p.dataReady now =
      { p.beginTransfer .burst (burstBytes (p.profile.elim 0 MotionProfile.dataAddress)) with burstStamp := now } := by
  rw [MotionPort.dataReady, running, goes, idle]

theorem MotionPort.dataReady_of_burst (running : p.state = .running) (goes : p.stopWaiting = false) (burst : p.activity = .burst) :
    p.dataReady now = p.lose := by
  rw [MotionPort.dataReady, running, goes, burst]
end

theorem MotionPort.beginTransfer_of_profile {p : MotionPort} {q : MotionProfile} (activity : PortActivity) (out : List Byte)
    (profile : p.profile = some q) : p.beginTransfer activity out = { p with
      activity := activity, selectHigh := false, dataHigh := q.port.leadData out, inFlight := some q.port, outBytes := out } := by
  simp only [MotionPort.beginTransfer, profile, Option.elim, Option.map]

theorem serialBits_head (b : Byte) (bs : List Byte) : (serialBits (b :: bs)).headD false = b.getLsbD 7 := rfl

/-! ### The end of a burst (R18, R22, R24 to R26, R29) -/

theorem exec_burstEnd (s : State) (bytes : List Byte) (first : Bool) :
    exec (.burstEnd bytes first) s = .next (s.burstEnd bytes first).settle := rfl

/-- The state as a transfer or burst has ended. -/
def State.burstOver (s : State) : State :=
  { s with motion := s.motion.endTransfer }

theorem State.burstEnd_of_sample {s : State} (bytes : List Byte) (first : Bool) (burst : s.motion.activity = .burst)
    (running : s.motion.state = .running) (goes : s.motion.stopWaiting = false) :
    s.burstEnd bytes first = s.burstOver.burstSample bytes first := by
  rw [State.burstEnd, if_pos burst]
  dsimp only
  rw [if_pos running, goes]
  rfl

theorem State.burstEnd_of_stop {s : State} (bytes : List Byte) (first : Bool) (burst : s.motion.activity = .burst)
    (running : s.motion.state = .running) (stops : s.motion.stopWaiting = true) :
    s.burstEnd bytes first = s.burstOver.stopIntake := by
  rw [State.burstEnd, if_pos burst]
  dsimp only
  rw [if_pos running, stops]
  rfl

theorem State.burstEnd_of_not_running {s : State} (bytes : List Byte) (first : Bool) (burst : s.motion.activity = .burst)
    (stopped : s.motion.state ≠ .running) : s.burstEnd bytes first = s.burstOver := by
  rw [State.burstEnd, if_pos burst]
  dsimp only
  rw [if_neg stopped]
  rfl

theorem MotionPort.accepts_eq (p : MotionPort) (r : Sample) : p.accepts r = p.prevStamp.all (stampLater r.stamp) := by
  unfold MotionPort.accepts
  cases p.prevStamp <;> rfl

theorem State.burstSample_of_profile {s : State} {q : MotionProfile} (bytes : List Byte) (first : Bool)
    (profile : s.motion.profile = some q) :
    s.burstSample bytes first = if s.motion.accepts (s.motion.sample q.axisMap bytes)
      then s.handOn q (s.motion.sample q.axisMap bytes) first else s.modMotion MotionPort.stampFault := by
  rw [State.burstSample, profile]

/-! ### The sample record (R24) -/

/-- A signed value of a burst by its two bytes, the high one first. -/
def burstValue (bs : List Byte) (at_ : Nat) : Int :=
  (BitVec.ofNat 16 (256 * (byteAt bs at_).toNat + (byteAt bs (at_ + 1)).toNat)).toInt

theorem sensorValue_eq (bs : List Byte) (at_ : Nat) : sensorValue bs at_ = burstValue bs at_ := by
  have two : beNat bs at_ 2 = 256 * (byteAt bs at_).toNat + (byteAt bs (at_ + 1)).toNat := by
    show (0 * 256 + (byteAt bs (at_ + 0)).toNat) * 256 + (byteAt bs (at_ + 1)).toNat = _
    rw [Nat.zero_mul, Nat.zero_add, Nat.add_zero, Nat.mul_comm]
  rw [sensorValue, two, burstValue]

/-- A source axis's value, by its sign, of the group of values that begins at a place. -/
def AxisSource.value (a : AxisSource) (bs : List Byte) (start : Nat) : Int :=
  if a.negative then -burstValue bs (start + 2 * a.source) else burstValue bs (start + 2 * a.source)

theorem AxisSource.gyro_eq (a : AxisSource) (bs : List Byte) : a.gyro bs = a.value bs 1 := by
  rw [AxisSource.gyro, sensorGyro, sensorValue_eq, AxisSource.value]

theorem AxisSource.accel_eq (a : AxisSource) (bs : List Byte) : a.accel bs = a.value bs 7 := by
  rw [AxisSource.accel, sensorAccel, sensorValue_eq, AxisSource.value]

theorem AxisSource.saturated_eq (a : AxisSource) (bs : List Byte) : a.saturated bs =
    decide (burstValue bs (1 + 2 * a.source) = 32767 ∨ burstValue bs (1 + 2 * a.source) = -32768) := by
  simp only [AxisSource.saturated, sensorGyro, sensorValue_eq]

/-! ### A record handed on (R26, R29) -/

/-- The still test touches the run, the learning state and the bias alone. -/
theorem MotionPort.stillTest_frame (p : MotionPort) (q : MotionProfile) (r : Sample) : p.stillTest q r = { p with
    stillRun := (p.stillTest q r).stillRun, learning := (p.stillTest q r).learning, bias := (p.stillTest q r).bias } := by
  unfold MotionPort.stillTest
  dsimp only
  split
  · rfl
  · split <;> rfl
  · split <;> rfl

/-- The state with the record handed on and integrated, before the still test and the monitor. -/
def State.integrated (s : State) (q : MotionProfile) (r : Sample) : State :=
  (s.modMotion fun p => p.handOn r).integrateSample q r

theorem State.integrated_eq (s : State) (q : MotionProfile) (r : Sample) {period : Nat} (nominal : s.motion.nominalPeriod = period) :
    s.integrated q r = { s with
      motion := s.motion.handOn r
      integ := s.integ.take q period r
      media := s.media.historyNotice s.env ({ s with integ := s.integ.take q period r } : State).orientation r.stamp } := by
  subst nominal
  rfl

/-- The still test and the monitor, in the order that the operand gives. -/
def State.judged (s : State) (q : MotionProfile) (r : Sample) (first : Bool) : State :=
  if first then (s.incidentSample r).modMotion fun p => p.stillTest q r
  else (s.modMotion fun p => p.stillTest q r).incidentSample r

theorem State.handOn_eq (s : State) (q : MotionProfile) (r : Sample) (first : Bool) :
    s.handOn q r first = (s.integrated q r).judged q r first := rfl

/-- The monitor's part of a sample rests on the monitor alone. -/
theorem State.incidentSample_incident {s t : State} (r : Sample) (same : t.incident = s.incident) :
    (t.incidentSample r).incident = (s.incidentSample r).incident := by
  rw [State.incidentSample_eq, State.incidentSample_eq, same]
  dsimp only
  split <;> rfl

/-- A sample that opens no incident changes the monitor alone. -/
theorem State.incidentSample_of_no_opening {s : State} {r : Sample}
    (h : ¬(s.incident.settings.threshold ≤ accelSum r.accel ∧ s.incident.settings.runLength ≤ s.incident.shockRun + 1 ∧
      s.incident.window = .quiet)) : s.incidentSample r = { s with incident := (s.incidentSample r).incident } := by
  have not : (s.incident.sample (accelSum r.accel) r.stamp).2 = false := by
    by_cases shock : s.incident.settings.threshold ≤ accelSum r.accel ∧ s.incident.settings.runLength ≤ s.incident.shockRun + 1
    · cases window : s.incident.window
      · exact absurd ⟨shock.1, shock.2, window⟩ h
      · rw [Incident.sample_of_extension _ shock window]
    · rw [Incident.sample_of_no_shock _ shock]
  rw [State.incidentSample_eq]
  dsimp only
  rw [not]
  rfl

/-- A sample that opens an incident has the window told to the motion port and the charge controller. -/
theorem State.incidentSample_of_opening {s : State} {r : Sample}
    (shock : s.incident.settings.threshold ≤ accelSum r.accel ∧ s.incident.settings.runLength ≤ s.incident.shockRun + 1)
    (quiet : s.incident.window = .quiet) :
    s.incidentSample r = ({ s with incident := (s.incidentSample r).incident } : State).toldWindow true := by
  rw [State.incidentSample_eq, Incident.sample_of_opening _ shock quiet]
  rfl

theorem State.judged_of_opening {s : State} {r : Sample} (q : MotionProfile) (first : Bool)
    (shock : s.incident.settings.threshold ≤ accelSum r.accel ∧ s.incident.settings.runLength ≤ s.incident.shockRun + 1)
    (quiet : s.incident.window = .quiet) :
    s.judged q r first = { s with
      motion := { s.motion with
        windowOpen := true, stillRun := 0, learning := .suspended
        bias := if first then s.motion.bias else (s.motion.stillTest q r).bias }
      incident := (s.incidentSample r).incident
      charge := { s.charge with windowOpen := true } } := by
  cases first
  case true =>
    rw [State.judged, if_pos rfl, State.incidentSample_of_opening shock quiet, State.modMotion,
      MotionPort.stillTest_of_suspended rfl]
    rfl
  case false =>
    rw [State.judged, if_neg Bool.false_ne_true,
      State.incidentSample_of_opening (s := s.modMotion fun p => p.stillTest q r) shock quiet,
      State.incidentSample_incident (s := s) (t := s.modMotion fun p => p.stillTest q r) _ rfl, State.modMotion, MotionPort.stillTest_frame s.motion q r]
    rfl

theorem State.judged_of_no_opening {s : State} {r : Sample} (q : MotionProfile) (first : Bool)
    (none : ¬(s.incident.settings.threshold ≤ accelSum r.accel ∧ s.incident.settings.runLength ≤ s.incident.shockRun + 1 ∧
      s.incident.window = .quiet)) :
    s.judged q r first = { s with motion := s.motion.stillTest q r, incident := (s.incidentSample r).incident } := by
  cases first
  case true =>
    rw [State.judged, if_pos rfl, State.incidentSample_of_no_opening none]
    rfl
  case false =>
    rw [State.judged, if_neg Bool.false_ne_true,
      State.incidentSample_of_no_opening (s := s.modMotion fun p => p.stillTest q r) none,
      State.incidentSample_incident (s := s) (t := s.modMotion fun p => p.stillTest q r) _ rfl]
    rfl

theorem State.incidentSample_of_low {s : State} {r : Sample} (h : accelSum r.accel < s.incident.settings.threshold) :
    s.incidentSample r = { s with incident := { s.incident with shockRun := 0, runPeak := 0 } } := by
  have noShock : ¬(s.incident.settings.threshold ≤ accelSum r.accel ∧ s.incident.settings.runLength ≤ s.incident.shockRun + 1) :=
    fun shock => Nat.not_lt.mpr shock.1 h
  rw [State.incidentSample_eq, Incident.sample_of_no_shock _ noShock, Incident.runOn_of_low h]
  rfl

end Sys2Proof.Machine

namespace Sys2Proof.Proofs
open Sys2Proof.Machine

/-- Settles O12, by whether the port is free and the rail ON. -/
theorem startMotion : Obligations.StartMotion := by
  intro s slot first stamp next t on
  refine ⟨fun ready idle rail => ?_, fun h => ?_⟩
  · rw [exec_startMotion next rfl, State.takeStartMotion_of_free (s := s.requestTaken .motion) _ _ ((State.motionFree_iff _).mpr ⟨rail, ready, idle⟩)]
    rfl
  · rw [exec_startMotion next rfl, State.takeStartMotion_of_not_free (s := s.requestTaken .motion)]
    · rfl
    · rw [State.motionFree_iff]
      rintro ⟨rail, ready, idle⟩
      rcases h with h | h | h
      · exact h ready
      · exact h idle
      · exact h rail

/-- Settles O13, by the burst in flight. -/
theorem stopMotion : Obligations.StopMotion := by
  intro s slot stamp next t
  refine ⟨fun running idle slots => ?_, fun running burst => ?_, fun stopped => ?_⟩
  · rw [exec_stopMotion next rfl, State.takeStopMotion_of_idle (s := s.requestTaken .motion) _ _ running idle,
      State.stopIntake_of_no_slots (s := s.requestTaken .motion) slots]
    rfl
  · rw [exec_stopMotion next rfl, State.takeStopMotion_of_burst (s := s.requestTaken .motion) _ _ running burst]
    rfl
  · rw [exec_stopMotion next rfl, State.takeStopMotion_of_not_running (s := s.requestTaken .motion) _ _ stopped]
    rfl

/-- Settles O15, by the table of R21. -/
theorem dataReadyEdge : Obligations.DataReadyEdge := by
  intro s on
  refine ⟨fun off => ?_, fun stopped => ?_, fun running stops burst => ?_, fun q rail profile running goes idle => ?_,
    fun rail running goes burst => ?_⟩
  · rw [exec_dataReadyEdge, if_neg (mt s.railOn_iff.mp off)]
  · rw [exec_dataReadyEdge, MotionPort.dataReady_of_not_running _ stopped, ite_self]
  · rw [exec_dataReadyEdge, MotionPort.dataReady_of_stop _ stops, ite_self]
  · rw [exec_dataReadyEdge, if_pos (s.railOn_iff.mpr rail), MotionPort.dataReady_of_idle _ running goes idle,
      MotionPort.beginTransfer_of_profile _ _ profile]
    have address : s.motion.profile.elim 0 MotionProfile.dataAddress = q.dataAddress := by rw [profile]; rfl
    rw [address]
    rfl
  · rw [exec_dataReadyEdge, if_pos (s.railOn_iff.mpr rail), MotionPort.dataReady_of_burst _ running goes burst]
    rfl

/-- Settles O16: the record by the burst's bytes, and what takes it by the stamp, the shock and the state of intake. -/
theorem burstEnd : Obligations.BurstEnd := by
  intro s bytes first burst ended
  refine ⟨fun q running goes profile => ?_, fun running stops => ?_, fun stopped => ?_⟩
  · intro r l1 value axis full m
    have whole : exec (.burstEnd bytes first) s = .next (s.burstOver.burstSample bytes first).settle := by
      rw [exec_burstEnd, State.burstEnd_of_sample _ _ burst running goes]
    have sample : s.burstOver.burstSample bytes first = if s.motion.prevStamp.all (stampLater s.motion.burstStamp)
        then s.burstOver.handOn q r first else s.burstOver.modMotion MotionPort.stampFault := by
      rw [State.burstSample_of_profile (s := s.burstOver) _ _ profile, MotionPort.accepts_eq]
      rfl
    rw [whole, sample]
    have nominal : s.motion.nominalPeriod = 1000000 / q.nominalRate := by rw [MotionPort.nominalPeriod, profile]
    refine ⟨?_, fun later low => ?_, fun later high => ?_, fun notLater => ?_⟩
    · show s.motion.sample q.axisMap bytes = _
      simp only [MotionPort.sample, Axes.map, AxisSource.gyro_eq, AxisSource.accel_eq, AxisSource.saturated_eq]
      rfl
    · intro given
      have integrated : s.burstOver.integrated q r =
          { given with media := s.media.historyNotice s.env given.orientation s.motion.burstStamp } := by
        rw [State.integrated_eq s.burstOver q r nominal]
        rfl
      rw [if_pos later, State.handOn_eq, State.judged_of_no_opening _ _ fun opening => Nat.not_lt.mpr opening.1 (by exact low),
        integrated, State.incidentSample_of_low (by exact low)]
    · intro given media opens
      have integrated : s.burstOver.integrated q r = { given with media := media } := by
        rw [State.integrated_eq s.burstOver q r nominal]
        rfl
      rw [if_pos later, State.handOn_eq, integrated]
      refine ⟨fun shock => ?_, fun noShock => ?_⟩
      · obtain ⟨run, quiet⟩ := shock
        rw [State.judged_of_opening _ _ (by exact ⟨high, run⟩) (by exact quiet),
          State.incidentSample_incident (s := s) (t := { given with media := media }) _ rfl]
      · have none : ¬(s.incident.settings.threshold ≤ accelSum r.accel ∧
            s.incident.settings.runLength ≤ s.incident.shockRun + 1 ∧ s.incident.window = .quiet) :=
          fun opening => noShock opening.2
        rw [State.judged_of_no_opening _ _ (by exact none),
          State.incidentSample_incident (s := s) (t := { given with media := media }) _ rfl]
    · rw [notLater, if_neg Bool.false_ne_true]
      rfl
  · rw [exec_burstEnd, State.burstEnd_of_stop _ _ burst running stops, State.stopIntake_eq, State.answerAll_eq_foldl]
    rfl
  · rw [exec_burstEnd, State.burstEnd_of_not_running _ _ burst stopped]
    rfl

end Sys2Proof.Proofs
end

section
/-! PROOFS. Bits on serial lines, and IMU transfers (R13, R14, R19, R20, R31, R136). -/

namespace Sys2Proof.Machine

/-! ### Bytes and their bits in the order of a serial port (R13, R136) -/

theorem msbBits_length (b : Byte) : (msbBits b).length = 8 := rfl

theorem msbBits_getElem? (b : Byte) {i : Nat} (h : i < 8) : (msbBits b)[i]? = some (b.getLsbD (7 - i)) := by
  rw [msbBits, List.getElem?_map, List.getElem?_range h]
  rfl

theorem serialBits_cons (b : Byte) (bs : List Byte) : serialBits (b :: bs) = msbBits b ++ serialBits bs := rfl

theorem serialBits_length (bs : List Byte) : (serialBits bs).length = 8 * bs.length := by
  induction bs with
  | nil => rfl
  | cons b bs ih =>
    rw [serialBits_cons, List.length_append, ih, msbBits_length, List.length_cons]
    omega

/-- Bit `k` on the line is bit `7 - k % 8` of byte `k / 8`. -/
theorem serialBits_getElem? (bs : List Byte) {k : Nat} (h : k < 8 * bs.length) :
    (serialBits bs)[k]? = some ((byteAt bs (k / 8)).getLsbD (7 - k % 8)) := by
  induction bs generalizing k with
  | nil => exact absurd h (Nat.not_lt_zero k)
  | cons b bs ih =>
    rw [List.length_cons] at h
    rw [serialBits_cons]
    by_cases first : k < 8
    · rw [List.getElem?_append_left (by rwa [msbBits_length]), msbBits_getElem? b first, Nat.div_eq_of_lt first,
        Nat.mod_eq_of_lt first]
      rfl
    · obtain ⟨i, rfl⟩ := Nat.exists_eq_add_of_le' (Nat.not_lt.mp first)
      rw [List.getElem?_append_right (by rw [msbBits_length]; omega), msbBits_length, Nat.add_sub_cancel, ih (by omega),
        Nat.add_div_right _ (by omega), Nat.add_mod_right]
      rfl

/-- Bits taken most significant first spell, behind what was there, the number's low bits. -/
theorem foldl_bits (n k v : Nat) :
    ((List.range k).map fun i => n.testBit (k - 1 - i)).foldl (fun n b => 2 * n + b.toNat) v = v * 2 ^ k + n % 2 ^ k := by
  induction k generalizing v with
  | zero => simp [Nat.mod_one]
  | succ k ih =>
    have rest : ∀ i, k + 1 - 1 - (i + 1) = k - 1 - i := fun i => by omega
    rw [List.range_succ_eq_map, List.map_cons, List.map_map, List.foldl_cons]
    simp only [Function.comp_def, rest]
    rw [ih, Nat.add_sub_cancel, Nat.sub_zero, Nat.toNat_testBit, Nat.mod_pow_succ, Nat.pow_succ]
    ring

theorem byteOfBits_msbBits (b : Byte) : byteOfBits (msbBits b) = b := by
  have spelled : (msbBits b).foldl (fun n b => 2 * n + b.toNat) 0 = b.toNat := by
    refine (foldl_bits b.toNat 8 0).trans ?_
    rw [Nat.zero_mul, Nat.zero_add, Nat.mod_eq_of_lt b.isLt]
  rw [byteOfBits, spelled, BitVec.ofNat_toNat, BitVec.setWidth_eq]

/-- A port takes the bytes whose bits stand at the edges at which it samples, whatever stands at the others. -/
theorem takenBytes_serialBits {second : Bool} {f : Bool → Bool × Bool} (edge : ∀ b, (if second then (f b).2 else (f b).1) = b)
    (bs : List Byte) : takenBytes second ((serialBits bs).map f) bs.length = bs := by
  induction bs with
  | nil => rfl
  | cons b bs ih =>
    have bits : (((msbBits b).map f).map fun l => if second then l.2 else l.1) = msbBits b := by
      rw [List.map_map]
      exact List.map_id'' edge _
    have eight : ((msbBits b).map f).length = 8 := by rw [List.length_map, msbBits_length]
    rw [serialBits_cons, List.map_append, List.length_cons, takenBytes, List.take_left' eight, List.drop_left' eight, bits, ih,
      byteOfBits_msbBits]

/-! ### The lines of a transfer (R13) -/

section
variable (p : PortSettings)

theorem PortSettings.bitsLines_length (bits : List Bool) : (p.bitsLines bits).length = 2 * bits.length := by
  induction bits with
  | nil => rfl
  | cons b bits ih =>
    show ((p.bitsLines bits).length + 1) + 1 = 2 * (bits.length + 1)
    omega

/-- After the first clock edge of a bit period the bit stands on the line. -/
theorem PortSettings.bitsLines_first (bits : List Bool) (k : Nat) :
    (p.bitsLines bits)[2 * k]? = bits[k]?.map fun b => ⟨false, !p.idleHigh, b⟩ := by
  induction bits generalizing k with
  | nil => rfl
  | cons b bits ih =>
    cases k with
    | zero => rfl
    | succ k => exact ih k

/-- After the second one it stands there with capture edge SECOND, and the next one does with FIRST. -/
theorem PortSettings.bitsLines_second (bits : List Bool) (k : Nat) :
    (p.bitsLines bits)[2 * k + 1]? =
      bits[k]?.map fun b => ⟨false, p.idleHigh, if p.captureSecond then b else bits[k + 1]?.getD false⟩ := by
  induction bits generalizing k with
  | nil => rfl
  | cons b bits ih =>
    cases k with
    | zero => cases bits <;> rfl
    | succ k => exact ih k

theorem PortSettings.transferLines_length (out : List Byte) : (p.transferLines out).length = 2 * (8 * out.length + 2) := by
  rw [PortSettings.transferLines, List.length_append, List.length_append, p.bitsLines_length, serialBits_length,
    List.length_replicate, List.length_replicate]
  omega

theorem PortSettings.selectHigh_of_mem_bitsLines {bits : List Bool} {l : PortLines} (h : l ∈ p.bitsLines bits) :
    l.selectHigh = false := by
  induction bits with
  | nil => exact absurd h List.not_mem_nil
  | cons b bits ih =>
    rcases List.mem_cons.mp h with rfl | h
    · rfl
    rcases List.mem_cons.mp h with rfl | h
    · rfl
    exact ih h

theorem PortSettings.selectHigh_of_mem_transferLines {out : List Byte} {l : PortLines} (h : l ∈ p.transferLines out) :
    l.selectHigh = false := by
  rw [PortSettings.transferLines, List.mem_append, List.mem_append] at h
  rcases h with h | h | h
  · rw [(List.mem_replicate.mp h).2]
  · exact p.selectHigh_of_mem_bitsLines h
  · rw [(List.mem_replicate.mp h).2]

theorem PortSettings.transferLines_lead (out : List Byte) {j : Nat} (h : j < 2) :
    (p.transferLines out)[j]? = some ⟨false, p.idleHigh, p.leadData out⟩ := by
  rw [PortSettings.transferLines, List.getElem?_append_left (by rwa [List.length_replicate]), List.getElem?_replicate, if_pos h]

theorem PortSettings.transferLines_bits (out : List Byte) {i : Nat} (h : i < 16 * out.length) :
    (p.transferLines out)[i + 2]? = (p.bitsLines (serialBits out))[i]? := by
  rw [PortSettings.transferLines, List.getElem?_append_right (by rw [List.length_replicate]; omega), List.length_replicate,
    Nat.add_sub_cancel, List.getElem?_append_left]
  rw [p.bitsLines_length, serialBits_length]
  omega

theorem PortSettings.transferLines_trail (out : List Byte) {i : Nat} (h : i < 2) :
    (p.transferLines out)[16 * out.length + i + 2]? = some ⟨false, p.idleHigh, p.trailData out⟩ := by
  have bits : (p.bitsLines (serialBits out)).length = 16 * out.length := by
    rw [p.bitsLines_length, serialBits_length]
    omega
  rw [PortSettings.transferLines, List.getElem?_append_right (by rw [List.length_replicate]; omega), List.length_replicate,
    Nat.add_sub_cancel, List.getElem?_append_right (by omega), bits, Nat.add_sub_cancel_left, List.getElem?_replicate, if_pos h]

/-- The lead, the bit periods and the trail are all of a transfer. -/
theorem PortSettings.transferLines_cases {out : List Byte} {j : Nat} {l : PortLines} (h : (p.transferLines out)[j]? = some l) :
    (j < 2 ∧ l = ⟨false, p.idleHigh, p.leadData out⟩) ∨
    (∃ k b, k < 8 * out.length ∧ j = 2 * k + 2 ∧ (serialBits out)[k]? = some b ∧ l = ⟨false, !p.idleHigh, b⟩) ∨
    (∃ k b, k < 8 * out.length ∧ j = 2 * k + 3 ∧ (serialBits out)[k]? = some b ∧
      l = ⟨false, p.idleHigh, if p.captureSecond then b else (serialBits out)[k + 1]?.getD false⟩) ∨
    (16 * out.length + 2 ≤ j ∧ l = ⟨false, p.idleHigh, p.trailData out⟩) := by
  by_cases lead : j < 2
  · rw [p.transferLines_lead out lead] at h
    exact .inl ⟨lead, (Option.some.inj h).symm⟩
  obtain ⟨i, rfl⟩ := Nat.exists_eq_add_of_le' (Nat.not_lt.mp lead)
  by_cases bits : i < 16 * out.length
  · rw [p.transferLines_bits out bits] at h
    obtain ⟨k, rfl | rfl⟩ := Nat.even_or_odd' i
    · rw [p.bitsLines_first, Option.map_eq_some_iff] at h
      obtain ⟨b, bit, rfl⟩ := h
      exact .inr (.inl ⟨k, b, by omega, by omega, bit, rfl⟩)
    · rw [p.bitsLines_second, Option.map_eq_some_iff] at h
      obtain ⟨b, bit, rfl⟩ := h
      exact .inr (.inr (.inl ⟨k, b, by omega, by omega, bit, rfl⟩))
  · have len := (List.getElem?_eq_some_iff.mp h).1
    rw [p.transferLines_length] at len
    obtain ⟨t, rfl⟩ := Nat.exists_eq_add_of_le (Nat.not_lt.mp bits)
    rw [p.transferLines_trail out (i := t) (by omega)] at h
    exact .inr (.inr (.inr ⟨by omega, (Option.some.inj h).symm⟩))

/-- The clock leaves its idle level at the first edge of each bit period and is back at the second. -/
theorem PortSettings.transferLines_clock {out : List Byte} {j : Nat} {l : PortLines} (h : (p.transferLines out)[j]? = some l) :
    l.clockHigh = (p.idleHigh ^^ decide (2 ≤ j ∧ j < 2 + 16 * out.length ∧ j % 2 = 0)) := by
  obtain ⟨lead, rfl⟩ | ⟨k, b, hk, rfl, -, rfl⟩ | ⟨k, b, hk, rfl, -, rfl⟩ | ⟨trail, rfl⟩ := p.transferLines_cases h
  · rw [decide_eq_false (by omega), Bool.xor_false]
  · rw [decide_eq_true (by omega), Bool.xor_true]
  · rw [decide_eq_false (by omega), Bool.xor_false]
  · rw [decide_eq_false (by omega), Bool.xor_false]

/-- Each bit stands on the line before and after its capture edge. -/
theorem PortSettings.transferLines_data {out : List Byte} {j : Nat} {l : PortLines} (h : (p.transferLines out)[j]? = some l)
    {k : Nat} (hk : k < 8 * out.length) (place : j = 2 + 2 * k ∨ j = if p.captureSecond then 3 + 2 * k else 1 + 2 * k) :
    l.dataHigh = (byteAt out (k / 8)).getLsbD (7 - k % 8) := by
  have bit := serialBits_getElem? out hk
  obtain ⟨lead, rfl⟩ | ⟨i, b, hi, rfl, at_, rfl⟩ | ⟨i, b, hi, rfl, at_, rfl⟩ | ⟨trail, rfl⟩ := p.transferLines_cases h <;>
    cases edge : p.captureSecond <;> simp only [edge, if_true, Bool.false_eq_true, if_false] at place
  case inl.false =>
    obtain rfl : k = 0 := by omega
    show (!p.captureSecond && (serialBits out).headD false) = _
    rw [edge, Bool.not_false, Bool.true_and, List.headD_eq_head?_getD, List.head?_eq_getElem?, bit]
    rfl
  case inr.inl.false =>
    obtain rfl : i = k := by omega
    exact Option.some.inj (at_.symm.trans bit)
  case inr.inl.true =>
    obtain rfl : i = k := by omega
    exact Option.some.inj (at_.symm.trans bit)
  case inr.inr.inl.false =>
    obtain rfl : k = i + 1 := by omega
    simp only [bit, Bool.false_eq_true, if_false, Option.getD_some]
  case inr.inr.inl.true =>
    obtain rfl : i = k := by omega
    simp only [if_true]
    exact Option.some.inj (at_.symm.trans bit)
  all_goals omega

theorem PortSettings.transferLines_getLast? (out : List Byte) : (p.transferLines out).getLast? =
    some ⟨false, p.idleHigh, p.captureSecond && (serialBits out).getLastD false⟩ := by
  rw [PortSettings.transferLines, ← List.append_assoc, List.getLast?_append]
  rfl
end

/-! ### IMU_TRANSFER and TRANSFER_END (R14, R19, R20, R31) -/

theorem exec_imuTransfer {s : State} {h : Handed} {count : Nat} {out : List Byte}
    (next : s.media.exch.nextRequest .motion = some h) (kind : h.request = .imuTransfer count out) :
    exec .imuTransfer s = .next ((s.requestTaken .motion).takeTransfer h (count, out)) := by
  show Host.Outcome.next (s.onRequest .motion Request.asTransfer State.takeTransfer) = _
  rw [State.onRequest_of_next (a := (count, out)) _ next (by rw [kind]; rfl)]
  rfl

section
variable {s : State} (h : Handed) {r : Nat × List Byte}

theorem State.takeTransfer_of_free (free : s.motionFree = true) (length : 1 ≤ r.1 ∧ r.1 ≤ 16) :
    s.takeTransfer h r = s.modMotion fun p => p.transfer h.slot r.2 := by
  rw [State.takeTransfer, if_pos free, if_pos length]

theorem State.takeTransfer_of_length (free : s.motionFree = true) (length : ¬(1 ≤ r.1 ∧ r.1 ≤ 16)) :
    s.takeTransfer h r = s.answer h.slot .refusedParam := by
  rw [State.takeTransfer, if_pos free, if_neg length]

theorem State.takeTransfer_of_not_free (busy : ¬s.motionFree = true) : s.takeTransfer h r = s.answer h.slot .refusedState := by
  rw [State.takeTransfer, if_neg busy]
end

theorem exec_transferEnd (s : State) (bytes : List Byte) : exec (.transferEnd bytes) s = .next (s.transferEnd bytes) := rfl

theorem State.transferEnd_of_none {s : State} (bytes : List Byte) (h : s.motion.activity ≠ .transfer) :
    s.transferEnd bytes = s :=
  if_neg h

theorem State.transferEnd_of_transfer {s : State} {slot : Nat} (bytes : List Byte) (h : s.motion.activity = .transfer)
    (request : s.motion.transferSlot = some slot) : s.transferEnd bytes =
      ({ s with motion := { s.motion.endTransfer with transferSlot := none } } : State).answer slot
        (Answer.done.withData (slice bytes 0 s.motion.outBytes.length)) := by
  rw [State.transferEnd, if_pos h]
  dsimp only
  rw [request]
  rfl

theorem MotionPort.idleLevel_of_profile {p : MotionPort} {q : MotionProfile} (h : p.profile = some q) :
    p.idleLevel = q.port.idleHigh := by
  rw [MotionPort.idleLevel, h]

end Sys2Proof.Machine

namespace Sys2Proof.Proofs
open Sys2Proof.Machine

/-- Settles O14: the request by the port's state and the length, the end by the transfer in flight, and the lines by their place
in the lead, a bit period or the trail. -/
theorem imuTransfer : Obligations.ImuTransfer := by
  refine ⟨?_, ?_, ?_⟩
  · intro s slot count out stamp next t free
    have isFree : free ↔ (s.requestTaken .motion).motionFree = true := by
      rw [State.motionFree_iff]
      exact ⟨fun ⟨ready, idle, on⟩ => ⟨on, ready, idle⟩, fun ⟨on, ready, idle⟩ => ⟨ready, idle, on⟩⟩
    refine ⟨fun free low high => ?_, fun free length => ?_, fun busy => ?_⟩
    · rw [exec_imuTransfer next rfl, State.takeTransfer_of_free _ (isFree.mp free) ⟨low, high⟩]
      rfl
    · rw [exec_imuTransfer next rfl, State.takeTransfer_of_length _ (isFree.mp free) (by dsimp only; omega)]
      rfl
    · rw [exec_imuTransfer next rfl, State.takeTransfer_of_not_free _ (mt isFree.mpr busy)]
      rfl
  · intro s bytes
    refine ⟨fun q slot transfer profile request => ?_, fun none => ?_⟩
    · rw [exec_transferEnd, State.transferEnd_of_transfer _ transfer request, MotionPort.endTransfer,
        MotionPort.idleLevel_of_profile profile]
      rfl
    · rw [exec_transferEnd, State.transferEnd_of_none _ none]
  · intro p out other
    refine ⟨p.transferLines_length out, fun l mem => p.selectHigh_of_mem_transferLines mem, fun j l at_ => ?_,
      p.transferLines_getLast? out, takenBytes_serialBits (fun b => ?_) out⟩
    · exact ⟨p.transferLines_clock at_, fun k hk place => p.transferLines_data at_ hk place⟩
    · cases p.captureSecond <;> rfl

end Sys2Proof.Proofs
end

section
/-! PROOFS. LOAD_PROFILE and the sections of the profile (R15, R16, R47, R70, R84, R153, R168, R198). -/

namespace Sys2Proof.Machine

theorem exec_loadProfile {s : State} {h : Handed} {code : Nat} (next : s.media.exch.nextRequest .exchange = some h)
    (kind : h.request = .loadProfile code) :
    exec .loadProfile s = .next ((s.requestTaken .exchange).takeLoadProfile h code) := by
  show Host.Outcome.next (s.onRequest .exchange Request.asLoadProfile State.takeLoadProfile) = _
  rw [State.onRequest_of_next (a := code) _ next (by rw [kind]; rfl)]
  rfl

theorem exec_sectionReadComplete {s : State} {n slot code : Nat} (bs : List Byte)
    (read : (s.media.exch.transferAt n).map Transfer.purpose = some (.profileSection slot code)) :
    exec (.sectionReadComplete n bs) s =
      .next ((s.modExch fun e => e.dropTransfer n).sectionRead slot code bs).settle := by
  show Host.Outcome.next (s.sectionEnd n bs).settle = _
  rw [State.sectionEnd, read]

/-! ### The section judged (R198) -/

section
variable {s : State} (slot code : Nat) {bs : List Byte}

theorem State.sectionRead_of_torn (h : editionAt bs 0 ≠ editionAt bs 62) : s.sectionRead slot code bs =
    (s.modExch fun e => { e with torn := bump 65535 e.torn }).answer slot (.failed .torn) := by
  rw [State.sectionRead, if_pos ((torn_iff bs 62).mpr h)]

theorem State.sectionRead_of_zero (whole : editionAt bs 0 = editionAt bs 62) (zero : editionAt bs 0 = 0) :
    s.sectionRead slot code bs = s.answer slot .refusedParam := by
  rw [State.sectionRead, if_neg (mt (torn_iff bs 62).mp (not_not.mpr whole)), if_pos zero]

/-- What a section's owners make of it, as the request's answer. -/
def State.answerJudgement (s : State) (slot : Nat) : Judgement → State
  | .refusedState => s.answer slot .refusedState
  | .refusedParam => s.answer slot .refusedParam
  | .taken s' clamped => s'.answer slot (.doneClamped clamped)

theorem State.sectionRead_of_whole (whole : editionAt bs 0 = editionAt bs 62) (some : editionAt bs 0 ≠ 0) :
    s.sectionRead slot code bs = s.answerJudgement slot (s.judge code bs) := by
  rw [State.sectionRead, if_neg (mt (torn_iff bs 62).mp (not_not.mpr whole)), if_neg some]
  cases s.judge code bs <;> rfl
end

theorem State.takeLoadProfile_of_section {s : State} (h : Handed) {code : Nat} (known : code ≤ 3) :
    s.takeLoadProfile h code = s.modExch fun e => e.readArea s.now (.profileSection h.slot code) (sectionOffset code) 64 :=
  if_neg (Nat.not_lt.mpr known)

theorem State.takeLoadProfile_of_unknown {s : State} (h : Handed) {code : Nat} (unknown : 3 < code) :
    s.takeLoadProfile h code = s.answer h.slot .refusedParam :=
  if_pos unknown

section
variable {s : State} {bs : List Byte}

theorem State.judgeMotion_of_running (h : s.motion.state = .running) : s.judgeMotion bs = .refusedState :=
  if_pos h

theorem State.judgeMotion_of_bad (h : s.motion.state ≠ .running) (bad : motionStructureOk bs = false) :
    s.judgeMotion bs = .refusedParam := by
  rw [State.judgeMotion, if_neg h, bad, if_neg Bool.false_ne_true]

theorem State.judgeMotion_of_ok (h : s.motion.state ≠ .running) (ok : motionStructureOk bs = true) : s.judgeMotion bs =
    .taken { s with motion := s.motion.load (parseMotion bs).value } (parseMotion bs).clamped := by
  rw [State.judgeMotion, if_neg h, if_pos ok]
  rfl

theorem State.judgeSteady_of_bad (bad : steadyStructureOk bs = false) : s.judgeSteady bs = .refusedParam := by
  rw [State.judgeSteady, bad, if_neg Bool.false_ne_true]

theorem State.judgeSteady_of_ok (ok : steadyStructureOk bs = true) : s.judgeSteady bs =
    .taken { s with media := s.media.loadSteady (parseSteady bs).value } (parseSteady bs).clamped := by
  rw [State.judgeSteady, if_pos ok]
  rfl

theorem volumeAddressable_iff (p : VolumeProfile) : volumeAddressable p = true ↔
    areaEnd p.firstSector p.segmentSize p.segmentCount ≤ 4294967296 :=
  decide_eq_true_iff

theorem State.judgeVolume_of_state (h : s.media.writer.state.takesProfile = false) : s.judgeVolume bs = .refusedState := by
  rw [State.judgeVolume, h, if_neg Bool.false_ne_true]

theorem State.judgeVolume_of_large (h : s.media.writer.state.takesProfile = true)
    (large : ¬volumeAddressable (parseVolume bs).value = true) : s.judgeVolume bs = .refusedParam := by
  rw [State.judgeVolume, if_pos h, if_neg large]

theorem State.judgeVolume_of_addressable (h : s.media.writer.state.takesProfile = true)
    (fits : volumeAddressable (parseVolume bs).value = true) : s.judgeVolume bs = .taken
      { s with
        media := { s.media with writer := { s.media.writer with profile := (parseVolume bs).value } }
        incident := s.incident.load (parseIncident bs).value }
      ((parseVolume bs).clamped || (parseIncident bs).clamped) := by
  rw [State.judgeVolume, if_pos h, if_pos fits]
  rfl

theorem State.judgeCharge_of_bad (bad : chargeAcceptable (parseCharge bs).value = false) : s.judgeCharge bs = .refusedParam := by
  rw [State.judgeCharge, bad, if_neg Bool.false_ne_true]

theorem State.judgeCharge_of_ok (ok : chargeAcceptable (parseCharge bs).value = true) : s.judgeCharge bs =
    .taken (s.takeOptions (parseCharge bs).value) (parseCharge bs).clamped :=
  if_pos ok
end

end Sys2Proof.Machine

namespace Sys2Proof.Proofs
open Sys2Proof.Machine

/-- Settles O10: the request by its section, and a section read by its editions, its code and the judgement of its owners. -/
theorem profileSections : Obligations.ProfileSections := by
  refine ⟨?_, ?_⟩
  · intro s slot code stamp next t
    refine ⟨fun known => ?_, fun unknown => ?_⟩
    · rw [exec_loadProfile next rfl, State.takeLoadProfile_of_section _ known]
      rfl
    · rw [exec_loadProfile next rfl, State.takeLoadProfile_of_unknown _ unknown]
      rfl
  · intro s n slot code bs read t taken
    have ends := exec_sectionReadComplete bs read
    refine ⟨fun torn => ?_, fun whole zero => ?_, fun whole nonzero => ?_⟩
    · rw [ends, State.sectionRead_of_torn _ _ torn]
      rfl
    · rw [ends, State.sectionRead_of_zero _ _ whole zero]
    · rw [State.sectionRead_of_whole _ _ whole nonzero] at ends
      refine ⟨?_, ?_, ?_, ?_⟩
      · rintro rfl
        have owner : State.judge t 0 bs = t.judgeMotion bs := rfl
        rw [owner] at ends
        refine ⟨fun running => ?_, fun stopped bad => ?_, fun stopped ok => ?_⟩
        · rw [ends, State.judgeMotion_of_running (by exact running)]
          rfl
        · rw [ends, State.judgeMotion_of_bad (by exact stopped) bad]
          rfl
        · rw [ends, State.judgeMotion_of_ok (by exact stopped) ok]
          rfl
      · rintro rfl
        have owner : State.judge t 1 bs = t.judgeSteady bs := rfl
        rw [owner] at ends
        refine ⟨fun bad => ?_, fun ok => ?_⟩
        · rw [ends, State.judgeSteady_of_bad bad]
          rfl
        · rw [ends, State.judgeSteady_of_ok ok]
          rfl
      · rintro rfl
        have owner : State.judge t 2 bs = t.judgeVolume bs := rfl
        rw [owner] at ends
        refine ⟨fun busy => ?_, fun takes large => ?_, fun takes fits => ?_⟩
        · rw [ends, State.judgeVolume_of_state (by exact busy)]
          rfl
        · rw [ends, State.judgeVolume_of_large (by exact takes)
            (mt (volumeAddressable_iff _).mp (Nat.not_le.mpr large))]
          rfl
        · rw [ends, State.judgeVolume_of_addressable (by exact takes) ((volumeAddressable_iff _).mpr fits)]
          rfl
      · rintro rfl
        have owner : State.judge t 3 bs = t.judgeCharge bs := rfl
        rw [owner] at ends
        refine ⟨fun bad => ?_, fun ok => ?_⟩
        · rw [ends, State.judgeCharge_of_bad bad]
          rfl
        · rw [ends, State.judgeCharge_of_ok ok]
          rfl

end Sys2Proof.Proofs
end

section
/-! PROOFS. Frames: their starts, sheets, times, computation and motion records (R49 to R55, R62 to R66, R194). -/

namespace Sys2Proof.Machine

/-! ### A change of an entry, and motion drops (R63, R87) -/

/-- A clip's entry changed: its sector goes on the update list, and its mirror entry is due. -/
theorem Writer.changeEntry_eq (w : Writer) (i : Nat) (f : Clip → Clip) : w.changeEntry i f = { w with
    tables := w.tables.map fun t => { t with dir := t.dir.modify i (Option.map f) }
    updates := addOnce w.updates (1 + i / 2)
    mirrorDirty := addOnce w.mirrorDirty i } := rfl

theorem Writer.openIndex_of_tables {w : Writer} {d : Tables} (mounted : w.mounted = true) (tables : w.tables = some d) :
    w.openIndex = d.openIndex := by
  rw [Writer.openIndex, if_pos mounted, tables]
  rfl

theorem Writer.addMotionDrops_of_none {w : Writer} (n : Nat) (none : w.openIndex = none) : w.addMotionDrops n = w := by
  rw [Writer.addMotionDrops, none]

theorem Writer.addMotionDrops_of_open {w : Writer} {d : Tables} {i : Nat} {n : Nat} (mounted : w.mounted = true)
    (tables : w.tables = some d) (index : d.openIndex = some i) (nonzero : n ≠ 0) : w.addMotionDrops n = { w with
      tables := some { d with dir := d.dir.modify i (Option.map fun c => { c with motionDrops := c.motionDrops + n }) }
      updates := addOnce w.updates (1 + i / 2)
      mirrorDirty := addOnce w.mirrorDirty i } := by
  rw [Writer.addMotionDrops, Writer.openIndex_of_tables mounted tables, index]
  show (if n = 0 then w else _) = _
  rw [if_neg nonzero, Writer.changeEntry_eq, tables]
  rfl

/-! ### Motion records (R63 to R66) -/

section
variable {m : Media} (r : MotionRecord)

/-- A clip takes motion records: the track is ON and a clip is recorded. -/
def Media.Tracks (m : Media) : Prop :=
  m.steady.profile.track = true ∧ m.writer.state = .recording

theorem Media.tracks_iff (m : Media) :
    (m.steady.profile.track && decide (m.writer.state = .recording)) = true ↔ m.Tracks := by
  rw [Bool.and_eq_true, decide_eq_true_iff, Media.Tracks]

theorem Media.keepRecord_of_not_tracks (off : ¬m.Tracks) : m.keepRecord r = m :=
  if_neg (mt m.tracks_iff.mp off)

theorem Media.keepRecord_of_no_track (off : m.steady.profile.track = false) : m.keepRecord r = m :=
  m.keepRecord_of_not_tracks r fun tracks => Bool.false_ne_true (off.symm.trans tracks.1)

/-- The media blocks with a buffer filled as given, the last one used. -/
def Media.filled (m : Media) (id : BufferId) (records : List MotionRecord) : Media :=
  (m.setBuffer id ⟨.filling, records⟩).modSteady fun s => { s with lastUsed := some id }

theorem Media.keepRecord_of_buffer {id : BufferId} (tracks : m.Tracks) (buffer : m.steady.recordBuffer = some id) :
    m.keepRecord r = if 32 ≤ ((m.steady.buffer id).records ++ [r]).length
      then (m.filled id ((m.steady.buffer id).records ++ [r])).handOver id
      else m.filled id ((m.steady.buffer id).records ++ [r]) := by
  rw [Media.keepRecord, if_pos (m.tracks_iff.mpr tracks), buffer]
  rfl

theorem Media.keepRecord_of_no_buffer (tracks : m.Tracks) (none : m.steady.recordBuffer = none) : m.keepRecord r =
    { m with
      steady := { m.steady with dropTotal := bump 65535 m.steady.dropTotal }
      writer := m.writer.addMotionDrops 1 } := by
  rw [Media.keepRecord, if_pos (m.tracks_iff.mpr tracks), none]
  rfl

/-- The 32nd record hands the buffer over to a writer that is recording. -/
theorem Media.handOver_filled {id : BufferId} (recording : m.writer.state = .recording) (records : List MotionRecord) :
    (m.filled id records).handOver id = { m with
      steady := { m.steady.setBuffer id ⟨.queued, records⟩ with lastUsed := some id }
      writer := { m.writer with queue := m.writer.queue ++ [motionChunk id records] } } := by
  have takes : (m.filled id records).writer.returnsBuffers = false := by
    show decide (m.writer.state = _ ∨ m.writer.state = _ ∨ m.writer.state = _) = false
    rw [recording]
    rfl
  rw [Media.handOver, takes, if_neg Bool.false_ne_true]
  cases id <;> rfl

theorem Media.keepRecord_steady_of_no_buffer (tracks : m.Tracks) (none : m.steady.recordBuffer = none) :
    (m.keepRecord r).steady = { m.steady with dropTotal := bump 65535 m.steady.dropTotal } := by
  rw [m.keepRecord_of_no_buffer r tracks none]

theorem Steady.setBuffer_frames (s : Steady) (id : BufferId) (b : MotionBuffer) : (s.setBuffer id b).frames = s.frames := by
  cases id <;> rfl

/-- A motion record changes neither the frames waiting nor the exchange. -/
theorem Media.keepRecord_frames : (m.keepRecord r).steady.frames = m.steady.frames ∧ (m.keepRecord r).exch = m.exch := by
  by_cases tracks : m.Tracks
  · cases buffer : m.steady.recordBuffer with
    | none =>
      rw [m.keepRecord_of_no_buffer r tracks buffer]
      exact ⟨rfl, rfl⟩
    | some id =>
      rw [m.keepRecord_of_buffer r tracks buffer]
      split
      · rw [Media.handOver_filled tracks.2]
        exact ⟨Steady.setBuffer_frames _ _ _, rfl⟩
      · exact ⟨Steady.setBuffer_frames _ _ _, rfl⟩
  · rw [m.keepRecord_of_not_tracks r tracks]
    exact ⟨rfl, rfl⟩
end

theorem Steady.recordBuffer_of_filling {y : Steady} {id : BufferId} (h : y.filling = some id) : y.recordBuffer = some id := by
  rw [Steady.recordBuffer, h]

/-- With none FILLING, a free buffer is taken, of two free ones the one not used last. -/
theorem Steady.recordBuffer_of_free {y : Steady} {id : BufferId} (filling : y.filling = none) (free : (y.buffer id).state = .free)
    (turn : y.bufA.state = .free ∧ y.bufB.state = .free → id = if y.lastUsed = some .a then .b else .a) :
    y.recordBuffer = some id := by
  rw [Steady.recordBuffer, filling]
  cases id with
  | a =>
    have freeA : y.bufA.state = .free := free
    cases freeB : y.bufB.state <;> simp only [freeA]
    exact congrArg some (turn ⟨freeA, freeB⟩).symm
  | b =>
    have freeB : y.bufB.state = .free := free
    cases freeA : y.bufA.state <;> simp only [freeB]
    exact congrArg some (turn ⟨freeA, freeB⟩).symm

theorem Steady.recordBuffer_of_queued {y : Steady} (a : y.bufA.state = .queued) (b : y.bufB.state = .queued) :
    y.recordBuffer = none := by
  rw [Steady.recordBuffer, Steady.filling, a, b]
  rfl

/-! ### The head frame (R50 to R55) -/

section
variable {m : Media} (env : Env) (o : Orientation) {f : Frame} {rest : List Frame} {h : HeadFigures}

/-- The media blocks as a computed head frame leaves the list, before its motion record. -/
def Media.headLeft (m : Media) (now : Stamp) (f : Frame) (r : MotionRecord) (rest : List Frame) : Media := { m with
  steady := { m.steady with
    path := r.path, seeded := true, lastComputed := some f.number, frames := rest, headStage := .none, head := none }
  exch := m.exch.writeRecord now (correctionRecord f.number r.flags r.centre r.bands) }

theorem Media.computeHead_of_frames (frames : m.steady.frames = f :: rest) : m.computeHead env o f h =
    (m.headLeft env.now f (m.steady.computeFrame f h o.history) rest).keepRecord (m.steady.computeFrame f h o.history) := by
  have tail : m.steady.frames.tail = rest := by rw [frames, List.tail_cons]
  rw [← tail]
  rfl

theorem Media.advanceHead_of_no_frames (n : Nat) (none : m.steady.frames = []) : Media.advanceHead env o n m = m := by
  cases n with
  | zero => rfl
  | succ n => rw [Media.advanceHead, none]

/-- The oldest frame's sheet read begins while the exchange runs. -/
theorem Media.advanceHead_of_running (n : Nat) (frames : m.steady.frames = f :: rest) (stage : m.steady.headStage = .none)
    (running : m.exch.state = .running) : Media.advanceHead env o (n + 1) m = { m with
      steady := { m.steady with headStage := .reading }
      exch := { m.exch with transfers := m.exch.transfers ++
        [⟨.sheet true, m.exch.base + (0x600 + 32 * (f.number.toNat % 8)), none, 32, env.now⟩] } } := by
  rw [Media.advanceHead, frames, stage]
  exact if_pos (m.exch.running_iff.mpr running)

/-- While it does not run, the held values fix the oldest frame's times. -/
theorem Media.advanceHead_of_not_running (n : Nat) (frames : m.steady.frames = f :: rest) (stage : m.steady.headStage = .none)
    (stopped : m.exch.state ≠ .running) : Media.advanceHead env o (n + 1) m =
      Media.advanceHead env o n { m with steady := m.steady.settleSheet f.start m.steady.heldSheet true false } := by
  rw [Media.advanceHead, frames, stage]
  exact if_neg (mt m.exch.running_iff.mp stopped)

theorem Media.advanceHead_of_not_ready (n : Nat) (frames : m.steady.frames = f :: rest) (stage : m.steady.headStage = .waiting)
    (head : m.steady.head = some h) (early : h.ready o env.now = false) : Media.advanceHead env o n m = m := by
  cases n with
  | zero => rfl
  | succ n =>
    rw [Media.advanceHead, frames, stage, head]
    dsimp only
    rw [early, if_neg Bool.false_ne_true]

theorem Media.advanceHead_of_ready (n : Nat) (frames : m.steady.frames = f :: rest) (stage : m.steady.headStage = .waiting)
    (head : m.steady.head = some h) (ready : h.ready o env.now = true) :
    Media.advanceHead env o (n + 1) m = Media.advanceHead env o n (m.computeHead env o f h) := by
  rw [Media.advanceHead, frames, stage, head]
  exact if_pos ready

/-- The only frame is computed: the engine has nothing more to do. -/
theorem Media.advanceHead_of_last (n : Nat) (frames : m.steady.frames = [f]) :
    Media.advanceHead env o n (m.computeHead env o f h) =
      (m.headLeft env.now f (m.steady.computeFrame f h o.history) []).keepRecord (m.steady.computeFrame f h o.history) := by
  rw [Media.computeHead_of_frames env o frames]
  exact Media.advanceHead_of_no_frames env o n ((Media.keepRecord_frames _).1)

theorem Media.computeHead_of_no_track (frames : m.steady.frames = f :: rest) (track : m.steady.profile.track = false) :
    m.computeHead env o f h = m.headLeft env.now f (m.steady.computeFrame f h o.history) rest := by
  rw [Media.computeHead_of_frames env o frames]
  exact Media.keepRecord_of_no_track _ track

theorem Exchange.writeRecord_state (e : Exchange) (now : Stamp) (r : Record) : (e.writeRecord now r).state = e.state := by
  show (e.writeRecord now r).rest.state = e.rest.state
  rw [Exchange.writeRecord_rest]

/-- A frame computed with the track OFF while the exchange runs: the next one's sheet read begins. -/
theorem Media.advanceHead_of_next {g : Frame} {others : List Frame} (n : Nat) (frames : m.steady.frames = f :: g :: others)
    (track : m.steady.profile.track = false) (running : m.exch.state = .running) :
    Media.advanceHead env o (n + 1) (m.computeHead env o f h) =
      let left := m.headLeft env.now f (m.steady.computeFrame f h o.history) (g :: others)
      { left with
        steady := { left.steady with headStage := .reading }
        exch := { left.exch with transfers := left.exch.transfers ++
          [⟨.sheet true, left.exch.base + (0x600 + 32 * (g.number.toNat % 8)), none, 32, env.now⟩] } } := by
  rw [Media.computeHead_of_no_track env o frames track]
  refine Media.advanceHead_of_running (rest := others) env o n ?_ ?_ ?_
  · rfl
  · rfl
  · exact (Exchange.writeRecord_state _ _ _).trans running

/-- A frame computed with the track OFF while the exchange does not run: the held values fix the next one's times. -/
theorem Media.advanceHead_of_next_held {g : Frame} {others : List Frame} (n : Nat)
    (frames : m.steady.frames = f :: g :: others) (track : m.steady.profile.track = false) (stopped : m.exch.state ≠ .running) :
    Media.advanceHead env o (n + 1) (m.computeHead env o f h) =
      let left := m.headLeft env.now f (m.steady.computeFrame f h o.history) (g :: others)
      Media.advanceHead env o n { left with steady := left.steady.settleSheet g.start left.steady.heldSheet true false } := by
  rw [Media.computeHead_of_no_track env o frames track]
  refine Media.advanceHead_of_not_running (rest := others) env o n ?_ ?_ ?_
  · rfl
  · rfl
  · exact fun running => stopped ((Exchange.writeRecord_state _ _ _).symm.trans running)
end

/-! ### Frame starts (R49) -/

section
variable {m : Media} (env : Env) (o : Orientation)

theorem Media.frameStart_of_inactive (h : m.steady.state ≠ .active) : m.frameStart env o = m :=
  if_neg h

theorem Media.frameStart_of_behind (active : m.steady.state = .active) (some : m.steady.frames ≠ [])
    (room : m.steady.frames.length < 4) : m.frameStart env o = { m with steady := { m.steady with
      frameCounter := m.steady.frameCounter + 1
      frames := m.steady.frames ++ [⟨m.steady.frameCounter + 1, env.now⟩] } } := by
  rw [Media.frameStart, if_pos active]
  dsimp only
  rw [if_pos (by exact room), if_neg (by simpa [Media.modSteady] using some)]
  rfl

/-- The media blocks with a frame that starts alone in the list. -/
def Media.frameAlone (m : Media) (now : Stamp) : Media := { m with steady := { m.steady with
  frameCounter := m.steady.frameCounter + 1
  frames := [⟨m.steady.frameCounter + 1, now⟩] } }

theorem Media.frameStart_of_alone (active : m.steady.state = .active) (none : m.steady.frames = []) :
    m.frameStart env o = (m.frameAlone env.now).runHead env o := by
  have joined : m.steady.frames ++ [⟨m.steady.frameCounter + 1, env.now⟩] = [⟨m.steady.frameCounter + 1, env.now⟩] := by
    rw [none, List.nil_append]
  have room : m.steady.frames.length < 4 := by simp [none]
  have empty : m.steady.frames.isEmpty = true := by rw [none]; rfl
  rw [Media.frameStart, if_pos active]
  dsimp only
  rw [if_pos (by exact room), if_pos (by exact empty)]
  show Media.runHead { m with steady := { m.steady with
    frameCounter := m.steady.frameCounter + 1
    frames := m.steady.frames ++ [⟨m.steady.frameCounter + 1, env.now⟩] } } env o = _
  rw [joined]
  rfl

theorem Media.frameStart_of_full (active : m.steady.state = .active) (full : 4 ≤ m.steady.frames.length) :
    m.frameStart env o = { m with
      steady := { m.steady with
        frameCounter := m.steady.frameCounter + 1, skippedTotal := bump 65535 m.steady.skippedTotal }
      exch := m.exch.writeRecord env.now (skippedRecord ⟨m.steady.frameCounter + 1, env.now⟩ m.steady.heldSheet) } := by
  rw [Media.frameStart, if_pos active]
  dsimp only
  rw [if_neg (by exact Nat.not_lt.mpr full)]
  rfl
end

theorem exec_frameStart (s : State) : exec .frameStart s =
    .next ({ s with media := { s.media.frameStart s.env s.orientation with
      exch := (s.media.frameStart s.env s.orientation).exch.pickupDue s.clock.count } } : State).settle := rfl

/-! ### Pickups that become due (R194) -/

theorem Exchange.pickupDue_of_not_running {e : Exchange} (now : Stamp) (h : e.state ≠ .running) : e.pickupDue now = e :=
  if_neg (mt e.running_iff.mp h)

theorem Exchange.pickupDue_of_none {e : Exchange} (now : Stamp) (h : e.state = .running) (none : e.pickup = none) :
    e.pickupDue now = e.beginPickup now := by
  rw [Exchange.pickupDue, if_pos (e.running_iff.mpr h), none]

theorem Exchange.pickupDue_of_some {e : Exchange} (now : Stamp) {p : Pickup} (h : e.state = .running) (some : e.pickup = some p) :
    e.pickupDue now = { e with pickupHeld := true } := by
  rw [Exchange.pickupDue, if_pos (e.running_iff.mpr h), some]

theorem takenPeriod_toNat (code : BitVec 5) : (takenPeriod code).toNat = if code.toNat = 0 then 1 else min 20 code.toNat := by
  have zero : code = 0 ↔ code.toNat = 0 := by rw [← BitVec.toNat_inj]; rfl
  rw [takenPeriod]
  by_cases none : code = 0
  · rw [if_pos none, if_pos (zero.mp none)]
    rfl
  · rw [if_neg none, if_neg (mt zero.mpr none)]
    split
    · exact (Nat.min_eq_left (Nat.le_of_lt ‹_›)).symm
    · exact (Nat.min_eq_right (by omega)).symm

theorem waitDue_eq_any (w : Option Wait) (now : Stamp) :
    waitDue w now = w.any fun w => decide ((w.length : Int) ≤ (now - w.start).toInt) := by
  cases w <;> rfl

end Sys2Proof.Machine
end

section
/-! PROOFS. What FRAME_START, SHEET_READ_COMPLETE, HEAD_FRAME_TIMEOUT and a history notice do (R49 to R55, R62 to R66, R194). -/

namespace Sys2Proof.Machine

/-! ### A frame that starts alone while the exchange does not run (R49, R50) -/

section
variable {m : Media} (env : Env) (o : Orientation) {f : Frame} {h : HeadFigures}

theorem Media.runHead_of_running {rest : List Frame} (frames : m.steady.frames = f :: rest) (stage : m.steady.headStage = .none)
    (running : m.exch.state = .running) : m.runHead env o = { m with
      steady := { m.steady with headStage := .reading }
      exch := { m.exch with transfers := m.exch.transfers ++
        [⟨.sheet true, m.exch.base + (0x600 + 32 * (f.number.toNat % 8)), none, 32, env.now⟩] } } :=
  Media.advanceHead_of_running env o 15 frames stage running

theorem Media.runHead_of_not_ready {rest : List Frame} (frames : m.steady.frames = f :: rest)
    (stage : m.steady.headStage = .waiting) (head : m.steady.head = some h) (early : h.ready o env.now = false) :
    m.runHead env o = m :=
  Media.advanceHead_of_not_ready env o 16 frames stage head early

theorem Media.runHead_of_ready {rest : List Frame} (frames : m.steady.frames = f :: rest)
    (stage : m.steady.headStage = .waiting) (head : m.steady.head = some h) (ready : h.ready o env.now = true) :
    m.runHead env o = Media.advanceHead env o 15 (m.computeHead env o f h) :=
  Media.advanceHead_of_ready env o 15 frames stage head ready

/-- The media blocks with the head frame's times fixed by the held values. -/
def Media.headHeld (m : Media) (f : Frame) : Media :=
  { m with steady := m.steady.settleSheet f.start m.steady.heldSheet true false }

theorem Media.runHead_of_held (frames : m.steady.frames = [f]) (stage : m.steady.headStage = .none)
    (stopped : m.exch.state ≠ .running) {h : HeadFigures} (figures : h = HeadFigures.of f.start m.steady.heldSheet true false)
    (early : h.ready o env.now = false) : m.runHead env o = m.headHeld f := by
  subst figures
  exact (Media.advanceHead_of_not_running env o 15 frames stage stopped).trans
    (Media.advanceHead_of_not_ready (m := m.headHeld f) env o 15 frames rfl rfl early)

theorem Media.runHead_of_held_ready (frames : m.steady.frames = [f]) (stage : m.steady.headStage = .none)
    (stopped : m.exch.state ≠ .running) {h : HeadFigures} (figures : h = HeadFigures.of f.start m.steady.heldSheet true false)
    (ready : h.ready o env.now = true) :
    m.runHead env o = ((m.headHeld f).headLeft env.now f ((m.headHeld f).steady.computeFrame f h o.history) []).keepRecord
      ((m.headHeld f).steady.computeFrame f h o.history) := by
  subst figures
  exact (Media.advanceHead_of_not_running env o 15 frames stage stopped).trans
    ((Media.advanceHead_of_ready (m := m.headHeld f) env o 14 frames rfl rfl ready).trans
      (Media.advanceHead_of_last (m := m.headHeld f) env o 14 frames))
end

end Sys2Proof.Machine

namespace Sys2Proof.Proofs
open Sys2Proof.Machine

/-- Settles O20, by the engine's state, the frames waiting and the exchange; a pickup that is due by the one in progress. -/
theorem frameStart : Obligations.FrameStart := by
  intro s n due
  refine ⟨fun active some room => ?_, fun active none stage running => ?_, fun active full => ?_,
    fun active none stage stopped => ?_, fun f v => ?_, fun idle => ?_, fun d now => ?_⟩
  · rw [exec_frameStart, Media.frameStart_of_behind _ _ active some room]
    rfl
  · rw [exec_frameStart, Media.frameStart_of_alone _ _ active none, 
      Media.runHead_of_running (m := s.media.frameAlone s.env.now) (rest := []) _ _ rfl stage running]
    rfl
  · rw [exec_frameStart, Media.frameStart_of_full _ _ active full]
    rfl
  · intro f v h settled r
    refine ⟨fun early => ?_, fun ready => ?_⟩
    · rw [exec_frameStart, Media.frameStart_of_alone _ _ active none, 
        Media.runHead_of_held (m := s.media.frameAlone s.env.now) (f := f) (h := h) s.env s.orientation rfl stage stopped rfl early,
        Exchange.pickupDue_of_not_running _ (by exact stopped)]
      rfl
    · intro left
      rw [exec_frameStart, Media.frameStart_of_alone _ _ active none,
        Media.runHead_of_held_ready (m := s.media.frameAlone s.env.now) (f := f) (h := h) s.env s.orientation rfl stage stopped rfl ready, Exchange.pickupDue_of_not_running]
      · rfl
      · rw [(Media.keepRecord_frames _).2]
        exact fun running => stopped ((Exchange.writeRecord_state _ _ _).symm.trans running)
  · rfl
  · rw [exec_frameStart, Media.frameStart_of_inactive _ _ (by rw [idle]; exact EngineState.noConfusion)]
  · intro begun
    have begins : d.beginPickup now = begun := by
      simp only [begun, Exchange.beginPickup, Exchange.periodMicros, takenPeriod_toNat, waitDue_eq_any]
      rfl
    refine ⟨fun stopped => Exchange.pickupDue_of_not_running _ stopped,
      fun running none => (Exchange.pickupDue_of_none _ running none).trans begins,
      fun p running some => Exchange.pickupDue_of_some _ running some, fun running held => ?_, fun ended => ?_⟩
    · rw [Exchange.endPickup_eq, if_pos ⟨running, held⟩, ← begins]
      rfl
    · rw [Exchange.endPickup_eq, if_neg]
      rintro ⟨running, held⟩
      exact ended.elim (absurd running) fun off => Bool.false_ne_true (off.symm.trans held)

end Sys2Proof.Proofs
end

section
/-! PROOFS. Sheets, the head frame's time-out and history notices (R50 to R55, R62 to R66). -/

namespace Sys2Proof.Machine

/-! ### Sheets (R50 to R53) -/

theorem sheetGood_iff (bs : List Byte) (n : Word32) : sheetGood bs n = true ↔
    editionAt bs 0 = editionAt bs 30 ∧ editionAt bs 0 ≠ 0 ∧ leNat bs 4 4 = n.toNat := by
  rw [sheetGood, Bool.and_eq_true, Bool.and_eq_true, bne_iff_ne, beq_iff_eq, and_assoc, torn, Bool.not_eq_true', bne_eq_false_iff_eq]

theorem Steady.takeSheet_of_good {y : Steady} {f : Frame} {bs : List Byte} (good : sheetGood bs f.number = true) :
    y.takeSheet f bs = y.settleSheet f.start (sheetValues bs) false (sheetChanged bs) :=
  if_pos good

theorem Steady.takeSheet_of_bad {y : Steady} {f : Frame} {bs : List Byte} (bad : ¬sheetGood bs f.number = true) :
    y.takeSheet f bs = y.settleSheet f.start y.heldSheet true false :=
  if_neg bad

theorem exec_sheetReadComplete {s : State} {n : Nat} (bs : List Byte)
    (read : (s.media.exch.transferAt n).map Transfer.purpose = some (.sheet true)) :
    exec (.sheetReadComplete n bs) s = .next ({ s with
      media := ({ s.media with exch := s.media.exch.dropTransfer n } : Media).sheetEnd s.env s.orientation (some bs) } :
        State).settle := by
  show Host.Outcome.next (s.sheetRead n bs).settle = _
  rw [State.sheetRead, read]
  rfl

theorem Media.sheetEnd_of_reading {m : Media} {f : Frame} {rest : List Frame} (env : Env) (o : Orientation) (bs : List Byte)
    (stage : m.steady.headStage = .reading) (frames : m.steady.frames = f :: rest) :
    m.sheetEnd env o (some bs) = ({ m with steady := m.steady.takeSheet f bs } : Media).runHead env o := by
  rw [Media.sheetEnd, stage, frames]
  rfl

/-- The media blocks with the head frame's times fixed as its sheet read ends. -/
def Media.sheetTaken (m : Media) (n : Nat) (f : Frame) (v : SheetValues) (held clamped : Bool) : Media :=
  { m with exch := m.exch.dropTransfer n, steady := m.steady.settleSheet f.start v held clamped }

/-! ### Times and triggers (R52, R53) -/

theorem bandTime_eq (start : Stamp) (v : SheetValues) (j : Nat) : bandTime start v j =
    start + BitVec.ofInt 48 ((v.readout * (2 * j + 1) / (2 * v.bands) : Nat) - (v.exposure / 2 : Nat)) := by
  rw [bandTime, stampAdd]
  push_cast
  rfl

theorem HeadFigures.last_of (start : Stamp) (v : SheetValues) (held clamped : Bool) (bands : 0 < v.bands) :
    (HeadFigures.of start v held clamped).last = bandTime start v (v.bands - 1) := by
  have last : (HeadFigures.of start v held clamped).bandTimes.getLast? = some (bandTime start v (v.bands - 1)) := by
    show ((List.range v.bands).map (bandTime start v)).getLast? = _
    rw [List.getLast?_map, List.getLast?_range, if_neg (Nat.ne_of_gt bands)]
    rfl
  rw [HeadFigures.last, last]
  rfl

theorem HeadFigures.covered_iff (h : HeadFigures) (o : Orientation) :
    h.covered o = true ↔ ∃ e : HistoryEntry, o.history.getLast? = some e ∧ 0 < (e.stamp - h.last).toInt := by
  rw [HeadFigures.covered]
  cases o.history.getLast? with
  | none => simp
  | some e => simp [stampLater, stampDiff]

theorem HeadFigures.ready_iff (h : HeadFigures) (o : Orientation) (now : Stamp) : h.ready o now = true ↔
    (∃ e : HistoryEntry, o.history.getLast? = some e ∧ 0 < (e.stamp - h.last).toInt) ∨
      ((4 * o.period : Nat) : Int) ≤ (now - h.last).toInt := by
  rw [HeadFigures.ready, Bool.or_eq_true, HeadFigures.covered_iff, Wait.due, reached_iff]
  rfl

/-! ### The time-out and history notices (R53) -/

section
variable {m : Media} (env : Env) (o : Orientation) {f : Frame} {rest : List Frame} {h : HeadFigures}

theorem Media.headTimeout_of_due (stage : m.steady.headStage = .waiting) (frames : m.steady.frames = f :: rest)
    (head : m.steady.head = some h) (due : (h.wait o.period).due env.now = true) :
    m.headTimeout env o = (m.computeHead env o f h).runHead env o := by
  rw [Media.headTimeout, stage, frames, head]
  exact if_pos due

theorem Media.headTimeout_of_early (stage : m.steady.headStage = .waiting) (frames : m.steady.frames = f :: rest)
    (head : m.steady.head = some h) (early : (h.wait o.period).due env.now = false) : m.headTimeout env o = m := by
  rw [Media.headTimeout, stage, frames, head]
  dsimp only
  rw [early, if_neg Bool.false_ne_true]

theorem Media.historyNotice_of_not_waiting (stamp : Stamp) (stage : m.steady.headStage ≠ .waiting) :
    m.historyNotice env o stamp = m := by
  rw [Media.historyNotice]
  split
  · contradiction
  · rfl

theorem Media.historyNotice_of_later {stamp : Stamp} (stage : m.steady.headStage = .waiting) (frames : m.steady.frames = f :: rest)
    (head : m.steady.head = some h) (later : 0 < (stamp - h.last).toInt) :
    m.historyNotice env o stamp = (m.computeHead env o f h).runHead env o := by
  rw [Media.historyNotice, stage, frames, head]
  exact if_pos (decide_eq_true later)

theorem Media.historyNotice_of_earlier {stamp : Stamp} (stage : m.steady.headStage = .waiting)
    (frames : m.steady.frames = f :: rest) (head : m.steady.head = some h) (earlier : ¬0 < (stamp - h.last).toInt) :
    m.historyNotice env o stamp = m := by
  rw [Media.historyNotice, stage, frames, head]
  exact if_neg fun later => earlier (of_decide_eq_true later)
end

theorem exec_headFrameTimeout (s : State) : exec .headFrameTimeout s =
    .next ({ s with media := s.media.headTimeout s.env s.orientation } : State).settle := rfl

end Sys2Proof.Machine

namespace Sys2Proof.Proofs
open Sys2Proof.Machine

/-- Settles O21: a sheet by its editions and the trigger, the figures by their clamps and formulas, a time-out and a notice by the
head frame's wait and the frames behind it, a motion record by the buffers. -/
theorem headFrame : Obligations.HeadFrame := by
  refine ⟨?_, ?_, ?_, fun _ => rfl, ?_, ?_, ?_, fun _ _ _ => rfl, ?_⟩
  · intro s n bs f rest read stage frames good fixed
    have ends := exec_sheetReadComplete bs read
    rw [Media.sheetEnd_of_reading _ _ _ (by exact stage) (by exact frames)] at ends
    have taken : ∀ (v : SheetValues) (held clamped : Bool), (good ∧ v = sheetValues bs ∧ held = false ∧ clamped = sheetChanged bs) ∨
        (¬good ∧ v = s.media.steady.heldSheet ∧ held = true ∧ clamped = false) →
        exec (.sheetReadComplete n bs) s = .next ({ s with 
          media := (s.media.sheetTaken n f v held clamped).runHead s.env s.orientation } : State).settle := by
      rintro v held clamped (⟨whole, rfl, rfl, rfl⟩ | ⟨bad, rfl, rfl, rfl⟩)
      · rw [ends, Steady.takeSheet_of_good (y := s.media.steady) ((sheetGood_iff _ _).mpr whole)]
        rfl
      · rw [ends, Steady.takeSheet_of_bad (y := s.media.steady) (mt (sheetGood_iff _ _).mp bad)]
        rfl
    have waits : ∀ (v : SheetValues) (held clamped : Bool), (good ∧ v = sheetValues bs ∧ held = false ∧ clamped = sheetChanged bs) ∨
        (¬good ∧ v = s.media.steady.heldSheet ∧ held = true ∧ clamped = false) →
        (HeadFigures.of f.start v held clamped).ready s.orientation s.clock.count = false → fixed v held clamped := by
      intro v held clamped kind early
      show exec _ _ = _
      rw [taken v held clamped kind, Media.runHead_of_not_ready (h := .of f.start v held clamped) s.env s.orientation
        (by exact frames) rfl rfl early]
      rfl
    refine ⟨fun whole early => waits _ _ _ (.inl ⟨whole, rfl, rfl, rfl⟩) early,
      fun bad early => waits _ _ _ (.inr ⟨bad, rfl, rfl, rfl⟩) early, fun v held clamped kind => ?_⟩
    intro h settled r left e ready
    have computed : (s.media.sheetTaken n f v held clamped).runHead s.env s.orientation =
        Media.advanceHead s.env s.orientation 15 ((s.media.sheetTaken n f v held clamped).computeHead s.env s.orientation f h) :=
      Media.runHead_of_ready (rest := rest) s.env s.orientation (by exact frames) rfl rfl ready
    refine ⟨fun last => ?_, fun g others next track running => ?_⟩
    · rw [taken v held clamped kind, computed, Media.advanceHead_of_last]
      · subst last
        rfl
      · exact frames.trans (congrArg _ last)
    · rw [taken v held clamped kind, computed, Media.advanceHead_of_next (g := g) (others := others) s.env s.orientation 14
        (by exact frames.trans (congrArg _ next)) (by exact track) (by exact running)]
      subst next
      rfl
  · intro bs v exposure readout bands
    obtain ⟨allowed, least, atMost, met⟩ : IsStepped [1, 2, 4, 8, 16] 1 bands v.bands := isStepped_stepDown (by decide) bands
    refine ⟨?_, ?_, allowed, fun zero => least (by omega), fun positive => ⟨atMost positive, met⟩, ?_⟩
    · show max 1 (min 40000 exposure) = _
      split <;> [skip; split] <;> omega
    · show min 40000 readout = _
      split <;> omega
    · rw [sheetChanged, Bool.or_eq_true, Bool.or_eq_true, bne_iff_ne, bne_iff_ne, bne_iff_ne, or_assoc]
  · intro start v held clamped o now h moved
    refine ⟨rfl, fun j => bandTime_eq start v j, rfl, fun bands => ?_⟩
    have last := HeadFigures.last_of start v held clamped bands
    intro final
    exact ⟨congrArg (Wait.mk · _) last, by rw [HeadFigures.ready_iff, last]⟩
  · intro s f h stage frames head r
    refine ⟨fun due track => ?_, fun early => ?_⟩
    · rw [exec_headFrameTimeout, Media.headTimeout_of_due s.env s.orientation stage frames head due, Media.runHead,
        Media.advanceHead_of_last _ _ _ frames, Media.keepRecord_of_no_track _ (by exact track)]
      rfl
    · rw [exec_headFrameTimeout, Media.headTimeout_of_early s.env s.orientation stage frames head early]
  · intro s f h rest stage frames head r e left due
    have timed : due → exec .headFrameTimeout s = .next ({ s with
        media := (s.media.computeHead s.env s.orientation f h).runHead s.env s.orientation } : State).settle := fun passed => by
      rw [exec_headFrameTimeout, Media.headTimeout_of_due s.env s.orientation stage frames head passed]
    refine ⟨fun passed last => ?_, fun g others passed next track => ⟨fun running => ?_, fun stopped => ?_⟩⟩
    · subst last
      rw [timed passed, Media.runHead, Media.advanceHead_of_last _ _ _ frames]
      rfl
    · subst next
      rw [timed passed, Media.runHead, Media.advanceHead_of_next _ _ 15 frames track running]
      rfl
    · subst next
      intro v k settled
      have held : (s.media.computeHead s.env s.orientation f h).runHead s.env s.orientation =
          Media.advanceHead s.env s.orientation 15 { s.media with steady := settled, exch := e } :=
        Media.advanceHead_of_next_held _ _ 15 frames track stopped
      rw [held] at timed
      refine ⟨fun early => ?_, fun ready only => ?_⟩
      · rw [timed passed, Media.advanceHead_of_not_ready (h := k) s.env s.orientation 15 rfl rfl rfl early]
      · intro q
        subst only
        rw [timed passed, Media.advanceHead_of_ready (h := k) s.env s.orientation 14 rfl rfl rfl ready,
          Media.advanceHead_of_last _ _ _ rfl, Media.keepRecord_of_no_track _ (by exact track)]
        rfl
  · intro m r put makes
    refine ⟨fun off => m.keepRecord_of_not_tracks r off, fun id tracks filling => ⟨fun room => ?_, fun full => ?_⟩,
      ⟨fun id tracks filling free empty turn => ?_, fun tracks a b => ⟨fun none => ?_, fun t i mounted tables index => ?_⟩⟩,
      fun id => rfl⟩
    · rw [m.keepRecord_of_buffer r tracks (Steady.recordBuffer_of_filling filling), if_neg (Nat.not_le.mpr room)]
      rfl
    · rw [m.keepRecord_of_buffer r tracks (Steady.recordBuffer_of_filling filling), if_pos full, Media.handOver_filled tracks.2]
    · rw [m.keepRecord_of_buffer r tracks (Steady.recordBuffer_of_free filling free turn), empty, if_neg (by simp)]
      rfl
    · rw [m.keepRecord_of_no_buffer r tracks (Steady.recordBuffer_of_queued a b), Writer.addMotionDrops_of_none _ none]
      rfl
    · rw [m.keepRecord_of_no_buffer r tracks (Steady.recordBuffer_of_queued a b),
        Writer.addMotionDrops_of_open mounted tables index Nat.one_ne_zero]
      rfl
  · intro m env o stamp
    refine ⟨fun stage => Media.historyNotice_of_not_waiting _ _ _ stage, fun f h rest stage frames head => ?_⟩
    intro later r e left
    refine ⟨fun earlier => Media.historyNotice_of_earlier _ _ stage frames head earlier, fun late last => ?_,
      fun g others late next track running => ?_⟩
    · subst last
      rw [Media.historyNotice_of_later _ _ stage frames head late, Media.runHead, Media.advanceHead_of_last _ _ _ frames]
      rfl
    · subst next
      rw [Media.historyNotice_of_later _ _ stage frames head late, Media.runHead,
        Media.advanceHead_of_next _ _ 15 frames track running]
      rfl

end Sys2Proof.Proofs
end

section
/-! PROOFS. Markers, protection requests and their answers (R75, R76, R80, R81, R87). -/

namespace Sys2Proof.Machine

/-! ### Lists that change in one place -/

theorem findIdx?_modify {α : Type} {p : α → Bool} {f : α → α} {l : List α} {i : Nat}
    (same : ∀ x, l[i]? = some x → p (f x) = p x) : (l.modify i f).findIdx? p = l.findIdx? p := by
  induction l generalizing i with
  | nil => rw [List.modify_nil]
  | cons x l ih =>
    cases i with
    | zero => rw [List.modify_zero_cons, List.findIdx?_cons, List.findIdx?_cons, same x rfl]
    | succ i => rw [List.modify_succ_cons, List.findIdx?_cons, List.findIdx?_cons, ih same]

theorem modify_congr {α : Type} {f g : α → α} {l : List α} {i : Nat} (same : ∀ x, l[i]? = some x → f x = g x) :
    l.modify i f = l.modify i g := by
  rw [List.modify_eq_set_getElem?, List.modify_eq_set_getElem?]
  cases entry : l[i]? with
  | none => rfl
  | some x =>
    show l.set i (f x) = l.set i (g x)
    rw [same x entry]

theorem addOnce_addOnce (l : List Nat) (x : Nat) : addOnce (addOnce l x) x = addOnce l x :=
  if_pos (List.contains_iff_mem.mpr (mem_addOnce.mpr (.inr rfl)))

/-! ### Entries that change (R87, R92, R93) -/

section
variable (w : Writer) (i : Nat) {f g : Clip → Clip}

/-- Two changes of one entry are one: its sector waits once. -/
theorem Writer.changeEntry_changeEntry : (w.changeEntry i f).changeEntry i g = w.changeEntry i (g ∘ f) := by
  rw [Writer.changeEntry_eq, Writer.changeEntry_eq, Writer.changeEntry_eq]
  dsimp only
  rw [addOnce_addOnce, addOnce_addOnce, Option.map_map]
  have merged : ∀ t : Tables, (t.dir.modify i (Option.map f)).modify i (Option.map g) = t.dir.modify i (Option.map (g ∘ f)) := by
    intro t
    rw [List.modify_modify_eq, ← Option.map_comp_map]
  simp only [Function.comp_def, merged]

/-- The same change of the entry that is there is the same change. -/
theorem Writer.changeEntry_congr {w : Writer} {d : Tables} {i : Nat} {c : Clip} (tables : w.tables = some d)
    (entry : d.clipAt i = some c) (same : f c = g c) : w.changeEntry i f = w.changeEntry i g := by
  have dir : d.dir.modify i (Option.map f) = d.dir.modify i (Option.map g) := by
    refine modify_congr fun x at_ => ?_
    obtain rfl : x = some c := by rwa [Tables.clipAt, entryAt, List.getD_eq_getElem?_getD, at_] at entry
    exact congrArg some same
  rw [Writer.changeEntry_eq, Writer.changeEntry_eq, tables]
  simp only [Option.map_some, dir]
end

/-- A mounted writer's tables with the open clip at its index. -/
structure Writer.HasOpen (w : Writer) (d : Tables) (i : Nat) (c : Clip) : Prop where
  mounted : w.mounted = true
  tables : w.tables = some d
  index : d.openIndex = some i
  entry : d.clipAt i = some c

section
variable {w : Writer} {d : Tables} {i : Nat} {c : Clip}

theorem Writer.HasOpen.openIndex_eq (h : w.HasOpen d i c) : w.openIndex = some i :=
  (Writer.openIndex_of_tables h.mounted h.tables).trans h.index

theorem Writer.HasOpen.clipAt_eq (h : w.HasOpen d i c) (j : Nat) : w.clipAt j = d.clipAt j := by
  rw [Writer.clipAt, h.tables]
  rfl

theorem Writer.HasOpen.openClip_eq (h : w.HasOpen d i c) : w.openClip = some c := by
  rw [Writer.openClip, h.openIndex_eq]
  exact (h.clipAt_eq i).trans h.entry

theorem Writer.HasOpen.indexOf_eq (h : w.HasOpen d i c) (number : Nat) : w.indexOf number = d.indexOf number := by
  rw [Writer.indexOf, if_pos h.mounted, h.tables]
  rfl

theorem Tables.openIndex_modClip {f : Clip → Clip} (entry : d.clipAt i = some c) (same : (f c).state = c.state) :
    (d.modClip i f).openIndex = d.openIndex := by
  refine findIdx?_modify fun x at_ => ?_
  obtain rfl : x = some c := by rwa [Tables.clipAt, entryAt, List.getD_eq_getElem?_getD, at_] at entry
  exact congrArg (fun st => decide (st = ClipState.openClip)) same

theorem Tables.indexOf_modClip {f : Clip → Clip} (entry : d.clipAt i = some c) (same : (f c).number = c.number) (number : Nat) :
    (d.modClip i f).indexOf number = d.indexOf number := by
  refine findIdx?_modify fun x at_ => ?_
  obtain rfl : x = some c := by rwa [Tables.clipAt, entryAt, List.getD_eq_getElem?_getD, at_] at entry
  exact congrArg (· == number) same

/-- A change of the open clip's entry that leaves its state leaves it the open clip. -/
theorem Writer.HasOpen.changeEntry {f : Clip → Clip} (h : w.HasOpen d i c) (same : (f c).state = c.state) :
    (w.changeEntry i f).HasOpen (d.modClip i f) i (f c) where
  mounted := h.mounted
  tables := by rw [Writer.changeEntry_eq, h.tables]; rfl
  index := (Tables.openIndex_modClip h.entry same).trans h.index
  entry := by rw [Tables.clipAt_modClip_same, h.entry]; rfl
end

/-! ### Markers (R81) and protection causes (R75, R80) -/

section
variable {w : Writer} {d : Tables} {i : Nat} {c : Clip}

theorem Writer.takeMarker_of_none (k : Marker) (none : w.openIndex = none) : w.takeMarker k = w := by
  rw [Writer.takeMarker, none]

theorem Writer.takeMarker_of_open (k : Marker) (h : w.HasOpen d i c) :
    w.takeMarker k = if c.addMarker k = c then w else w.changeEntry i fun c => c.addMarker k := by
  rw [Writer.takeMarker, h.openIndex_eq, h.openClip_eq]

theorem Clip.addMarker_of_room (k : Marker) (room : c.markers.length < 16) :
    c.addMarker k = { c with markers := c.markers ++ [k] } :=
  if_pos room

theorem Clip.addMarker_of_full (k : Marker) (full : 16 ≤ c.markers.length) : c.addMarker k = { c with overflow := true } :=
  if_neg (Nat.not_lt.mpr full)

theorem Clip.addMarker_ne_of_room (k : Marker) (room : c.markers.length < 16) : c.addMarker k ≠ c := by
  rw [Clip.addMarker_of_room k room]
  exact fun same => List.cons_ne_nil k [] (List.append_right_eq_self.mp (congrArg Clip.markers same))

theorem Clip.addMarker_eq_self_iff (k : Marker) (full : 16 ≤ c.markers.length) : c.addMarker k = c ↔ c.overflow = true := by
  rw [Clip.addMarker_of_full k full]
  exact ⟨fun same => (congrArg Clip.overflow same).symm, fun set => by rw [← set]⟩

theorem Writer.protect_of_clip {e : Clip} {j : Nat} {add : Causes → Causes} (entry : w.clipAt j = some e) :
    w.protect j add = if add e.causes = e.causes then w else w.changeEntry j fun c => { c with causes := add c.causes } := by
  rw [Writer.protect, entry]

theorem Writer.markOpen_of_none (none : w.openIndex = none) : w.markOpen = w := by
  rw [Writer.markOpen, none]

theorem Writer.markOpen_of_open (h : w.HasOpen d i c) : w.markOpen = if c.causes.mark = true then w
    else w.changeEntry i fun c => { c with causes := { c.causes with mark := true } } := by
  have marked : ({ c.causes with mark := true } : Causes) = c.causes ↔ c.causes.mark = true :=
    ⟨fun same => (congrArg Causes.mark same).symm, fun set => by rw [← set]⟩
  rw [Writer.markOpen, h.openIndex_eq]
  show w.protect i (fun k => { k with mark := true }) = _
  rw [Writer.protect_of_clip ((h.clipAt_eq i).trans h.entry)]
  simp only [marked]
end

theorem exec_marker {s : State} {k : Marker} {rest : List Marker} (h : s.incident.markers = k :: rest) :
    exec .marker s = .next ({ s with
      media := { s.media with writer := s.media.writer.takeMarker k }
      incident := { s.incident with markers := rest } } : State).settle := by
  show Host.Outcome.next s.marker.settle = _
  rw [State.marker, h]
  rfl

theorem exec_markProtection {s : State} (h : 0 < s.incident.markProtections) :
    exec .markProtection s = .next ({ s with
      media := { s.media with writer := s.media.writer.markOpen }
      incident := { s.incident with markProtections := s.incident.markProtections - 1 } } : State).settle := by
  show Host.Outcome.next s.markProtection.settle = _
  rw [State.markProtection, if_neg (Nat.ne_of_gt h)]
  rfl

/-! ### Protection requests (R75, R76) -/

/-- The INCIDENT cause joins an entry's causes. -/
def Clip.withIncident (c : Clip) : Clip :=
  { c with causes := { c.causes with incident := true } }

section
variable {w : Writer} {d : Tables} {i : Nat} {c : Clip}

theorem Writer.protect_incident {e : Clip} {j : Nat} (entry : w.clipAt j = some e) :
    (w.protect j fun k => { k with incident := true }) =
      if e.causes.incident = true then w else w.changeEntry j Clip.withIncident := by
  have marked : ({ e.causes with incident := true } : Causes) = e.causes ↔ e.causes.incident = true :=
    ⟨fun same => (congrArg Causes.incident same).symm, fun set => by rw [← set]⟩
  rw [Writer.protect_of_clip entry]
  simp only [marked]
  rfl

/-- The open clip takes the INCIDENT cause and marker: one change of its entry. -/
theorem Writer.incident_of_open (k : Marker) (h : w.HasOpen d i c) (room : c.markers.length < 16) :
    (w.protect i fun k => { k with incident := true }).takeMarker k =
      w.changeEntry i fun c => { c.withIncident with markers := c.markers ++ [k] } := by
  have entry := (h.clipAt_eq i).trans h.entry
  rw [Writer.protect_incident entry]
  by_cases set : c.causes.incident = true
  · rw [if_pos set, Writer.takeMarker_of_open k h, if_neg (Clip.addMarker_ne_of_room k room)]
    refine Writer.changeEntry_congr h.tables h.entry ?_
    rw [Clip.addMarker_of_room k room, Clip.withIncident, ← set]
  · have marked := h.changeEntry (f := Clip.withIncident) rfl
    rw [if_neg set, Writer.takeMarker_of_open k marked, if_neg (Clip.addMarker_ne_of_room k (c := c.withIncident) room),
      Writer.changeEntry_changeEntry]
    exact Writer.changeEntry_congr h.tables h.entry (Clip.addMarker_of_room k room)

theorem Writer.takeProtection_of_none (r : ProtectionRequest) (none : w.openIndex = none) :
    w.takeProtection r = (w, ⟨r.number, .noClip, .none, .none⟩) := by
  rw [Writer.takeProtection, none]

/-- The open clip with the INCIDENT cause and marker. -/
def Writer.incidentMarked (w : Writer) (i : Nat) (stamp : Stamp) : Writer :=
  w.changeEntry i fun c => { c.withIncident with markers := c.markers ++ [⟨stamp, .incident⟩] }

section
variable {r : ProtectionRequest} (h : w.HasOpen d i c) (room : c.markers.length < 16)
include h

theorem Writer.indexOf_incidentMarked (stamp : Stamp) :
    (w.incidentMarked i stamp).indexOf (c.number - 1) = d.indexOf (c.number - 1) :=
  ((h.changeEntry (f := fun c => { c.withIncident with markers := c.markers ++ [⟨stamp, .incident⟩] }) rfl).indexOf_eq _).trans
    (Tables.indexOf_modClip h.entry rfl _)

include room

theorem Writer.takeProtection_of_covered (covered : c.number = 1 ∨ (r.lookbackSeconds : Int) * 1000000 ≤ (r.stamp - c.start).toInt) :
    w.takeProtection r = (w.incidentMarked i r.stamp, ⟨r.number, .notNeeded, some c.number, none⟩) := by
  rw [Writer.takeProtection, h.openIndex_eq, h.openClip_eq]
  dsimp only
  rw [Writer.incident_of_open _ h room]
  exact if_pos covered

theorem Writer.takeProtection_of_lost
    (reaches : ¬(c.number = 1 ∨ (r.lookbackSeconds : Int) * 1000000 ≤ (r.stamp - c.start).toInt))
    (gone : d.indexOf (c.number - 1) = none) :
    w.takeProtection r = (w.incidentMarked i r.stamp, ⟨r.number, .lost, some c.number, some (c.number - 1)⟩) := by
  have index := (Writer.indexOf_incidentMarked h r.stamp).trans gone
  rw [Writer.takeProtection, h.openIndex_eq, h.openClip_eq]
  dsimp only
  rw [Writer.incident_of_open _ h room, ← Writer.incidentMarked, index]
  exact if_neg reaches

theorem Writer.takeProtection_of_kept {j : Nat}
    (reaches : ¬(c.number = 1 ∨ (r.lookbackSeconds : Int) * 1000000 ≤ (r.stamp - c.start).toInt))
    (there : d.indexOf (c.number - 1) = some j) :
    w.takeProtection r = ((w.incidentMarked i r.stamp).protect j fun k => { k with incident := true },
      ⟨r.number, .kept, some c.number, some (c.number - 1)⟩) := by
  have index := (Writer.indexOf_incidentMarked h r.stamp).trans there
  rw [Writer.takeProtection, h.openIndex_eq, h.openClip_eq]
  dsimp only
  rw [Writer.incident_of_open _ h room, ← Writer.incidentMarked, index]
  exact if_neg reaches
end
end

/-- An answer names its request and the open clip. -/
theorem Writer.takeProtection_answer (w : Writer) (r : ProtectionRequest) :
    (w.takeProtection r).2.number = r.number ∧ (w.takeProtection r).2.openClip = w.openClip.map Clip.number := by
  rw [Writer.takeProtection]
  split
  · next i c index open_ =>
    rw [open_]
    dsimp only
    split
    · exact ⟨rfl, rfl⟩
    · split <;> exact ⟨rfl, rfl⟩
  · next notOpen =>
    cases index : w.openIndex with
    | none =>
      rw [Writer.openClip, index]
      exact ⟨rfl, rfl⟩
    | some i =>
      cases open_ : w.openClip with
      | none => exact ⟨rfl, rfl⟩
      | some c => exact absurd open_ (notOpen i c index)

theorem exec_protectionRequest {s : State} {r : ProtectionRequest} {rest : List ProtectionRequest}
    (h : s.incident.requests = r :: rest) : exec .protectionRequest s = .next ({ s with
      media := { s.media with writer := (s.media.writer.takeProtection r).1 }
      incident := { s.incident with
        requests := rest, answers := s.incident.answers ++ [(s.media.writer.takeProtection r).2] } } : State).settle := by
  show Host.Outcome.next s.protectionRequest.settle = _
  rw [State.protectionRequest, h]
  rfl

theorem exec_protectionAnswer {s : State} {a : ProtectionAnswer} {rest : List ProtectionAnswer}
    (h : s.incident.answers = a :: rest) : exec .protectionAnswer s =
      .next ((s.modIncident fun i => { i.takeAnswer a with answers := rest }).raise .incident) := by
  show Host.Outcome.next s.protectionAnswer = _
  rw [State.protectionAnswer, h]

end Sys2Proof.Machine

namespace Sys2Proof.Proofs
open Sys2Proof.Machine

/-- Settles O26, by the open clip, its room for a marker and its causes. -/
theorem markers : Obligations.Markers := by
  refine ⟨?_, ?_⟩
  · intro s k rest first t
    refine ⟨fun none => ?_, fun tables i c mounted known index entry => ?_⟩
    · rw [exec_marker first, Writer.takeMarker_of_none k none]
    · intro changed
      have opens : s.media.writer.HasOpen tables i c := ⟨mounted, known, index, entry⟩
      have joins : c.addMarker k ≠ c → exec .marker s = .next (changed fun c => c.addMarker k) := fun differs => by
        rw [exec_marker first, Writer.takeMarker_of_open k opens, if_neg differs, Writer.changeEntry_eq, known]
        rfl
      refine ⟨fun room => joins (Clip.addMarker_ne_of_room k room), fun full clear => joins ?_, fun full set => ?_⟩
      · rw [ne_eq, Clip.addMarker_eq_self_iff k full, clear]
        exact Bool.false_ne_true
      · rw [exec_marker first, Writer.takeMarker_of_open k opens, if_pos ((Clip.addMarker_eq_self_iff k full).mpr set)]
  · intro s waiting t
    refine ⟨fun none => ?_, fun tables i c mounted known index entry clear => ?_,
      fun tables i c mounted known index entry set => ?_⟩
    · rw [exec_markProtection waiting, Writer.markOpen_of_none none]
    · rw [exec_markProtection waiting, Writer.markOpen_of_open ⟨mounted, known, index, entry⟩, clear,
        if_neg Bool.false_ne_true, Writer.changeEntry_eq, known]
      rfl
    · rw [exec_markProtection waiting, Writer.markOpen_of_open ⟨mounted, known, index, entry⟩, if_pos set]

/-- Settles O24, by the open clip, the lookback time and the clip before it. -/
theorem protection : Obligations.Protection := by
  refine ⟨?_, ?_⟩
  · intro s r rest first
    refine ⟨?_, fun none => ?_, fun d i c mounted known index entry room => ?_⟩
    · obtain ⟨number, open_⟩ := s.media.writer.takeProtection_answer r
      exact ⟨_, exec_protectionRequest first, rfl, rfl, rfl, rfl, rfl, _, rfl, number, open_⟩
    · rw [exec_protectionRequest first, Writer.takeProtection_of_none r none]
    · intro w kept answered marked early
      have opens : w.HasOpen d i c := ⟨mounted, known, index, entry⟩
      have isMarked : w.incidentMarked i r.stamp = marked := by
        rw [Writer.incidentMarked, Writer.changeEntry_eq, known]
        rfl
      refine ⟨fun covered => ?_, fun later early none => ?_, fun j e later early previous other clip => ?_⟩
      · rw [exec_protectionRequest first, Writer.takeProtection_of_covered opens room covered, isMarked]
      · rw [exec_protectionRequest first, Writer.takeProtection_of_lost opens room (not_or.mpr ⟨later, early⟩) none, isMarked]
      · have atPrevious : marked.clipAt j = some e := by
          show (d.modClip i _).clipAt j = some e
          rw [Tables.clipAt_modClip_other _ _ other, clip]
        have taken := exec_protectionRequest first
        rw [Writer.takeProtection_of_kept opens room (not_or.mpr ⟨later, early⟩) previous, isMarked,
          Writer.protect_incident atPrevious] at taken
        refine ⟨fun set => ?_, fun clear => ?_⟩
        · rw [taken, if_pos set]
        · rw [taken, clear, if_neg Bool.false_ne_true]
          rfl
  · intro s a rest first
    rw [exec_protectionAnswer first]
    rfl

end Sys2Proof.Proofs
end

section
/-! PROOFS. The debounced keys: the MARK key (R77 to R80). -/

namespace Sys2Proof.Machine

/-! ### The table that the two keys share (R77, R79, R181) -/

section
variable {k : Key} (now : Stamp)

theorem Key.onEdge_down_of_up (h : k.state = .up) :
    k.onEdge now true = { k with state := .pressing, edge := now, debouncing := true } := by
  show k.downEdge now = _
  rw [Key.downEdge, h]

theorem Key.onEdge_down_of_releasing (h : k.state = .releasing) :
    k.onEdge now true = { k with state := .down, debouncing := false } := by
  show k.downEdge now = _
  rw [Key.downEdge, h]

theorem Key.onEdge_down_of_long (h : k.state = .long) : k.onEdge now true = { k with debouncing := false } := by
  show k.downEdge now = _
  rw [Key.downEdge, h]

theorem Key.onEdge_up_of_up (h : k.state = .up) : k.onEdge now false = k := by
  show k.upEdge now = _
  rw [Key.upEdge, h]

theorem Key.onEdge_up_of_pressing (h : k.state = .pressing) :
    k.onEdge now false = { k with state := .up, debouncing := false } := by
  show k.upEdge now = _
  rw [Key.upEdge, h]

theorem Key.onEdge_up_of_down (h : k.state = .down) :
    k.onEdge now false = { k with state := .releasing, edge := now, debouncing := true } := by
  show k.upEdge now = _
  rw [Key.upEdge, h]

theorem Key.onEdge_up_of_long (h : k.state = .long) : k.onEdge now false = { k with edge := now, debouncing := true } := by
  show k.upEdge now = _
  rw [Key.upEdge, h]

theorem Key.debounced_of_pressing (h : k.state = .pressing) :
    k.debounced = { k with state := .down, press := k.edge, debouncing := false } := by
  rw [Key.debounced, h]

theorem Key.debounced_of_releasing (h : k.state = .releasing) :
    k.debounced = { k with state := .up, debouncing := false, hold := none } := by
  rw [Key.debounced, h]

theorem Key.debounced_of_long (h : k.state = .long) : k.debounced = { k with state := .up, debouncing := false } := by
  rw [Key.debounced, h]

theorem Key.debounceDue_iff (k : Key) :
    k.debounceDue now = true ↔ k.debouncing = true ∧ 20000 ≤ (now - k.edge).toInt := by
  rw [Key.debounceDue, Bool.and_eq_true, reached_iff]
  rfl

theorem Key.not_debounceDue (h : k.debouncing = false ∨ ¬20000 ≤ (now - k.edge).toInt) : ¬k.debounceDue now = true := by
  rw [Key.debounceDue_iff]
  rintro ⟨runs, due⟩
  exact h.elim (fun off => Bool.false_ne_true (off.symm.trans runs)) fun early => early due

theorem Key.holdDue_of_none (h : k.hold = none) : ¬k.holdDue now = true := by
  rw [Key.holdDue, h]
  exact Bool.false_ne_true

theorem Key.holdDue_iff {h : Hold} (some : k.hold = some h) :
    k.holdDue now = true ↔ h.expired = false ∧ (h.kind.micros : Int) ≤ (now - k.press).toInt := by
  rw [Key.holdDue, some]
  dsimp only
  rw [Bool.and_eq_true, Bool.not_eq_true', reached_iff]
end

section
variable {k : Key}

theorem Key.heldOut_iff (k : Key) : k.heldOut = true ↔ k.state = .down ∧ ∃ h, k.hold = some h ∧ h.expired = true := by
  rw [Key.heldOut, Bool.and_eq_true, decide_eq_true_iff, Option.any_eq_true]

theorem Key.not_heldOut_of_state (h : k.state ≠ .down) : ¬k.heldOut = true :=
  fun out => h (k.heldOut_iff.mp out).1

theorem Key.not_heldOut_of_hold (h : k.hold.all (fun h => !h.expired) = true) : ¬k.heldOut = true := by
  rw [Key.heldOut_iff]
  rintro ⟨-, w, hold, out⟩
  rw [hold, Option.all_some, out] at h
  exact Bool.false_ne_true h

/-- A key that is not being released becomes LONG with no debounce. -/
theorem Key.makeLong_of_down (h : k.state = .down) : k.makeLong = { k with state := .long, hold := none, debouncing := false } := by
  rw [Key.makeLong, h]
  simp
end

/-! ### The MARK key (R77 to R80) -/

section
variable {s : State}

/-- The MARK key set. -/
def State.withMarkKey (s : State) (k : Key) : State :=
  { s with incident := { s.incident with key := k } }

theorem exec_markKeyEdge_of_off (down : Bool) (off : ¬s.railOn = true) : exec (.markKeyEdge down) s = .next s := by
  show Host.Outcome.next (s.markEdge down) = _
  rw [State.markEdge, if_neg off]

theorem exec_markKeyEdge_of_on {down : Bool} {k : Key} (on : s.railOn = true) (edge : s.incident.key.onEdge s.now down = k)
    (early : ¬k.heldOut = true) : exec (.markKeyEdge down) s = .next (s.withMarkKey k) := by
  subst edge
  show Host.Outcome.next (s.markEdge down) = _
  rw [State.markEdge, if_pos on]
  exact congrArg _ (if_neg early)

theorem exec_markKeyEdge_of_held {down : Bool} {k : Key} (on : s.railOn = true) (edge : s.incident.key.onEdge s.now down = k)
    (out : k.heldOut = true) : exec (.markKeyEdge down) s = .next (s.withMarkKey k).markLong := by
  subst edge
  show Host.Outcome.next (s.markEdge down) = _
  rw [State.markEdge, if_pos on]
  exact congrArg _ (if_pos out)

theorem exec_markDebounceExpiry_of_not_due (h : ¬s.incident.key.debounceDue s.now = true) :
    exec .markDebounceExpiry s = .next s := by
  show Host.Outcome.next s.markDebounce = _
  rw [State.markDebounce, if_neg h]

/-- What an accepted debounce does by the key's state before it. -/
def State.markAccepted (s : State) (before : KeyState) : State :=
  match before with
  | .pressing => (s.modIncident Incident.press).raise .mark
  | .releasing => (s.modIncident Incident.shortPress).raise .mark
  | .up | .down | .long => s

theorem exec_markDebounceExpiry_of_due {k : Key} {before : KeyState} (h : s.incident.key.debounceDue s.now = true)
    (state : s.incident.key.state = before) (done : s.incident.key.debounced = k) :
    exec .markDebounceExpiry s = .next ((s.withMarkKey k).markAccepted before) := by
  subst done state
  show Host.Outcome.next s.markDebounce = _
  rw [State.markDebounce, if_pos h]
  rfl

theorem exec_markHoldExpiry_of_not_due (h : ¬s.incident.key.holdDue s.now = true) : exec .markHoldExpiry s = .next s := by
  show Host.Outcome.next s.markHold = _
  rw [State.markHold, if_neg h]

theorem exec_markHoldExpiry_of_down (h : s.incident.key.holdDue s.now = true) (state : s.incident.key.state = .down) :
    exec .markHoldExpiry s = .next s.markLong := by
  show Host.Outcome.next s.markHold = _
  rw [State.markHold, if_pos h, state]

theorem exec_markHoldExpiry_of_releasing (h : s.incident.key.holdDue s.now = true) (state : s.incident.key.state = .releasing) :
    exec .markHoldExpiry s = .next (s.withMarkKey s.incident.key.holdExpired) := by
  show Host.Outcome.next s.markHold = _
  rw [State.markHold, if_pos h, state]
  rfl

/-- A press that has become LONG. -/
theorem State.markLong_of_down (state : s.incident.key.state = .down) : s.markLong = ({ s with incident := { s.incident with
      key := { s.incident.key with state := .long, hold := none, debouncing := false }
      capture := { s.incident.capture with kind := .long }
      markers := s.incident.markers ++ [⟨s.incident.key.press, .long⟩]
      markProtections := s.incident.markProtections + 1 } } : State).raise .mark := by
  rw [State.markLong, State.modIncident, Incident.longPress, Key.makeLong_of_down state]
end

end Sys2Proof.Machine

namespace Sys2Proof.Proofs
open Sys2Proof.Machine

/-- Settles O25, by the rail, the key's state and its waits. -/
theorem markKey : Obligations.MarkKey := by
  intro s k i due held
  refine ⟨fun rail => ?_, fun off down => ?_, fun runs passed => ⟨fun pressing => ?_, fun releasing => ?_, fun long => ?_⟩,
    fun idle => ?_, fun hold passed down => ?_, fun hold passed releasing => ?_, fun none mark => ?_⟩
  · have on := s.railOn_iff.mpr rail
    refine ⟨fun up => ?_, fun pressing => ?_, fun down => ?_, fun releasing early => ?_, fun releasing out => ?_, fun up => ?_,
      fun long => ⟨?_, ?_⟩⟩
    · exact exec_markKeyEdge_of_on on (Key.onEdge_down_of_up _ up) (Key.not_heldOut_of_state KeyState.noConfusion)
    · exact exec_markKeyEdge_of_on on (Key.onEdge_up_of_pressing _ pressing) (Key.not_heldOut_of_state KeyState.noConfusion)
    · exact exec_markKeyEdge_of_on on (Key.onEdge_up_of_down _ down) (Key.not_heldOut_of_state KeyState.noConfusion)
    · exact exec_markKeyEdge_of_on on (Key.onEdge_down_of_releasing _ releasing) (Key.not_heldOut_of_hold early)
    · rw [exec_markKeyEdge_of_held on (Key.onEdge_down_of_releasing _ releasing)
        ((Key.heldOut_iff _).mpr ⟨rfl, _, out, rfl⟩), State.markLong_of_down rfl]
      rfl
    · exact exec_markKeyEdge_of_on on (Key.onEdge_up_of_up _ up) (Key.not_heldOut_of_state (by rw [up]; exact KeyState.noConfusion))
    · exact exec_markKeyEdge_of_on on (Key.onEdge_up_of_long _ long)
        (Key.not_heldOut_of_state (fun down => KeyState.noConfusion (long.symm.trans down)))
    · exact exec_markKeyEdge_of_on on (Key.onEdge_down_of_long _ long)
        (Key.not_heldOut_of_state (fun down => KeyState.noConfusion (long.symm.trans down)))
  · exact exec_markKeyEdge_of_off down (Bool.eq_false_iff.mp (s.not_railOn_iff.mpr off))
  · rw [exec_markDebounceExpiry_of_due ((Key.debounceDue_iff _ _).mpr ⟨runs, passed⟩) pressing
      (Key.debounced_of_pressing pressing)]
    rfl
  · rw [exec_markDebounceExpiry_of_due ((Key.debounceDue_iff _ _).mpr ⟨runs, passed⟩) releasing
      (Key.debounced_of_releasing releasing)]
    rfl
  · rw [exec_markDebounceExpiry_of_due ((Key.debounceDue_iff _ _).mpr ⟨runs, passed⟩) long (Key.debounced_of_long long)]
    rfl
  · exact exec_markDebounceExpiry_of_not_due (Key.not_debounceDue _ idle)
  · rw [exec_markHoldExpiry_of_down ((Key.holdDue_iff _ hold).mpr ⟨rfl, passed⟩) down, State.markLong_of_down down]
  · rw [exec_markHoldExpiry_of_releasing ((Key.holdDue_iff _ hold).mpr ⟨rfl, passed⟩) releasing, Key.holdExpired, hold]
    rfl
  · refine exec_markHoldExpiry_of_not_due fun dueNow => ?_
    cases hold : k.hold with
    | none => exact Key.holdDue_of_none _ hold dueNow
    | some h =>
      obtain ⟨-, passed⟩ := (Key.holdDue_iff _ hold).mp dueNow
      rw [hold, Option.all_some, decide_eq_true_iff] at mark
      rw [mark] at passed
      exact none.elim (fun no => Option.some_ne_none h (hold.symm.trans no)) fun early => early passed

end Sys2Proof.Proofs
end

section
/-! PROOFS. The POWER key, and what a change of power state does to it and to the Ride Clock (R4, R5, R7, R179 to R184). -/

namespace Sys2Proof.Machine

/-! ### The key and the clock at a change of power state (R4, R5, R7, R181) -/

theorem Key.interrupt_of_up {k : Key} (h : k.state = .up) : k.interrupt = { k with hold := none } :=
  if_pos h

theorem Key.interrupt_of_not_up {k : Key} (h : k.state ≠ .up) : k.interrupt = { k with
    state := .long, hold := none, debouncing := k.debouncing && decide (k.state = .releasing ∨ k.state = .long) } :=
  if_neg h

/-- A change that ends a press: to DORMANT, SHUTTING or RUN, or to STANDBY with the rail cut. -/
def EndsPress (before after : PowerState) : Prop :=
  after = .dormant ∨ after = .shutting ∨ after = .run ∨ (after = .standby ∧ (before = .run ∨ before = .shutting))

theorem powerKeyAt_of_ends {before after : PowerState} (k : Key) (h : EndsPress before after) :
    powerKeyAt before after k = k.interrupt := by
  rcases h with rfl | rfl | rfl | ⟨rfl, rfl | rfl⟩ <;> rfl

theorem powerKeyAt_of_not_ends {before after : PowerState} (k : Key) (h : ¬EndsPress before after) : powerKeyAt before after k = k := by
  cases after with
  | waking => rfl
  | standby =>
    cases before with
    | run => exact absurd (.inr (.inr (.inr ⟨rfl, .inl rfl⟩))) h
    | shutting => exact absurd (.inr (.inr (.inr ⟨rfl, .inr rfl⟩))) h
    | standby | dormant | waking => rfl
  | dormant => exact absurd (.inl rfl) h
  | shutting => exact absurd (.inr (.inl rfl)) h
  | run => exact absurd (.inr (.inr (.inl rfl))) h

theorem State.setPower_key (s : State) (after : PowerState) :
    (s.setPower after).power.key = powerKeyAt s.power.state after s.power.key := by
  rw [State.setPower_power]
  rfl

theorem State.setPower_count (s : State) (after : PowerState) : (s.setPower after).clock.count = s.clock.count := by
  rw [State.setPower_clock, Clock.powerChange_count]

/-- The handover that the new state requires, and the oscillator; the rest of the clock goes on. -/
theorem Clock.powerChange_eq (c : Clock) (after : PowerState) : c.powerChange after = { c with
    handover := if c.path = after.path then .none else match after.path with
      | .fast => .toFast
      | .slow => .toSlow
    mainOsc := match after with
      | .waking => true
      | .dormant => c.mainOsc && decide (c.path = .fast)
      | .run | .shutting | .standby => c.mainOsc } := by
  unfold Clock.powerChange Clock.require
  by_cases same : c.path = after.path
  · rw [if_pos same, if_pos same]
    cases after <;> rfl
  · rw [if_neg same, if_neg same]
    cases after <;> rfl

/-! ### The power-down condition after the key's change (R180) -/

section
variable {s : State} {before : KeyState}

theorem State.afterKey_of_same (h : s.power.key.state = before) : s.afterKey before = s :=
  if_pos h

theorem State.afterKey_of_other (h : s.power.key.state ≠ before) : s.afterKey before = s.powerDownTest :=
  if_neg h

/-- A key that is not UP keeps the part awake. -/
theorem State.powerDownTest_of_key (h : s.power.key.state ≠ .up) : s.powerDownTest = s := by
  have kept : ¬s.idleOutside = true := by
    rw [State.idleOutside_iff]
    rintro ⟨-, -, up⟩
    exact h up
  unfold State.powerDownTest
  split
  case h_1 | h_2 => exact if_neg kept
  all_goals rfl

theorem State.afterKey_of_key (h : s.power.key.state ≠ .up) : s.afterKey before = s := by
  rw [State.afterKey, State.powerDownTest_of_key h, ite_self]

theorem State.afterKey_of_awake (h : s.power.state = .run ∨ s.power.state = .shutting ∨ s.power.state = .dormant) :
    s.afterKey before = s := by
  rw [State.afterKey, State.powerDownTest_of_awake h, ite_self]
end

/-! ### Edges, debounces and holds (R181, R182) -/

section
variable {s : State}

/-- The POWER key set. -/
def State.withKey (s : State) (k : Key) : State :=
  { s with power := { s.power with key := k } }

theorem exec_powerKeyEdge (s : State) (down : Bool) : exec (.powerKeyEdge down) s = .next (s.powerEdge down).settle := rfl
theorem exec_powerDebounceExpiry (s : State) : exec .powerDebounceExpiry s = .next s.powerDebounce.settle := rfl
theorem exec_powerHoldExpiry (s : State) : exec .powerHoldExpiry s = .next s.powerHold.settle := rfl

theorem State.powerEdge_of_key {down : Bool} {k : Key} (edge : s.power.key.onEdge s.now down = k) :
    s.powerEdge down = (((s.withKey k).wakeOnPress down).heldIfOut).afterKey s.power.key.state := by
  subst edge
  exact s.powerEdge_eq down

theorem State.wakeOnPress_of_awake {down : Bool} (awake : down = false ∨ s.power.state ≠ .dormant) : s.wakeOnPress down = s := by
  refine if_neg ?_
  rintro ⟨rfl, dormant⟩
  exact awake.elim Bool.noConfusion fun other => other dormant

/-- An edge, but one that wakes the part or finds a press held out. -/
theorem State.powerEdge_of_plain {down : Bool} {k : Key} (edge : s.power.key.onEdge s.now down = k)
    (awake : down = false ∨ s.power.state ≠ .dormant) (early : ¬k.heldOut = true) :
    s.powerEdge down = (s.withKey k).afterKey s.power.key.state := by
  rw [State.powerEdge_of_key edge, State.wakeOnPress_of_awake (s := s.withKey k) awake, State.heldIfOut, if_neg (by exact early)]

/-- A down edge in DORMANT wakes the part. -/
theorem State.powerEdge_of_dormant {k : Key} (edge : s.power.key.onEdge s.now true = k) (dormant : s.power.state = .dormant)
    (early : k.state ≠ .down) : s.powerEdge true = ((s.withKey k).setPower .waking).afterKey s.power.key.state := by
  have kept : ((s.withKey k).setPower .waking).power.key = k := State.setPower_key _ _
  have wakes : (s.withKey k).wakeOnPress true = (s.withKey k).setPower .waking := if_pos ⟨rfl, dormant⟩
  rw [State.powerEdge_of_key edge, wakes, State.heldIfOut, kept, if_neg (Key.not_heldOut_of_state early)]

/-- A release abandoned after its hold has expired is a press held to it. -/
theorem State.powerEdge_of_held {down : Bool} {k : Key} (edge : s.power.key.onEdge s.now down = k)
    (awake : s.power.state ≠ .dormant) (out : k.heldOut = true) :
    s.powerEdge down = (s.withKey k).powerHeld.afterKey s.power.key.state := by
  rw [State.powerEdge_of_key edge, State.wakeOnPress_of_awake (s := s.withKey k) (.inr awake), State.heldIfOut, if_pos (by exact out)]

/-- What an accepted debounce does by the key's state before it. -/
def State.powerAccepted (s : State) (before : KeyState) : State :=
  match before with
  | .pressing => s.powerPress
  | .releasing => s.powerRelease
  | .up | .down | .long => s

theorem State.powerDebounce_of_due {k : Key} {before : KeyState} (due : s.power.key.debounceDue s.now = true)
    (state : s.power.key.state = before) (done : s.power.key.debounced = k) :
    s.powerDebounce = ((s.withKey k).powerAccepted before).afterKey before := by
  subst done state
  rw [State.powerDebounce, if_pos due]
  rfl

theorem State.powerDebounce_of_not_due (early : ¬s.power.key.debounceDue s.now = true) : s.powerDebounce = s :=
  if_neg early

theorem State.powerPress_of_hold {h : HoldKind} (waits : pressHold s.power.state = some h) :
    s.powerPress = s.withKey { s.power.key with hold := some ⟨h, false⟩ } := by
  rw [State.powerPress, waits]
  rfl

theorem State.powerPress_of_none (none : pressHold s.power.state = none) : s.powerPress = s := by
  rw [State.powerPress, none]

theorem State.powerRelease_of_run (run : s.power.state = .run) :
    s.powerRelease = ({ s with power := { s.power with pressCount := s.power.pressCount + 1 } } : State).raise .key :=
  if_pos run

theorem State.powerRelease_of_not_run (other : s.power.state ≠ .run) : s.powerRelease = s :=
  if_neg other

theorem State.powerHold_of_not_due (early : ¬s.power.key.holdDue s.now = true) : s.powerHold = s :=
  if_neg early

theorem State.powerHold_of_down (due : s.power.key.holdDue s.now = true) (state : s.power.key.state = .down) :
    s.powerHold = s.powerHeld := by
  rw [State.powerHold, if_pos due, state]

theorem State.powerHold_of_releasing (due : s.power.key.holdDue s.now = true) (state : s.power.key.state = .releasing) :
    s.powerHold = s.withKey s.power.key.holdExpired := by
  rw [State.powerHold, if_pos due, state]
  rfl

/-- The key's change leaves the part awake: the key is not UP, or the power state is no idle one, or its state is the same. -/
def State.StaysAwake (s : State) (before : KeyState) : Prop :=
  s.power.key.state ≠ .up ∨ (s.power.state = .run ∨ s.power.state = .shutting ∨ s.power.state = .dormant) ∨
    s.power.key.state = before

theorem State.StaysAwake.afterKey {before : KeyState} (h : s.StaysAwake before) : s.afterKey before = s := by
  rcases h with notUp | awake | same
  · exact State.afterKey_of_key notUp
  · exact State.afterKey_of_awake awake
  · exact State.afterKey_of_same same

/-- A plain edge with the part staying awake. -/
theorem exec_powerKeyEdge_of_plain {down : Bool} {k : Key} (edge : s.power.key.onEdge s.now down = k)
    (awake : down = false ∨ s.power.state ≠ .dormant) (early : ¬k.heldOut = true)
    (stays : (s.withKey k).StaysAwake s.power.key.state) : exec (.powerKeyEdge down) s = .next (s.withKey k).settle := by
  rw [exec_powerKeyEdge, State.powerEdge_of_plain edge awake early, stays.afterKey]

/-- A debounce that is due, with the part staying awake. -/
theorem exec_powerDebounceExpiry_of_due {x : State} {k : Key} {before : KeyState}
    (due : s.power.key.debouncing = true ∧ 20000 ≤ (s.now - s.power.key.edge).toInt) (state : s.power.key.state = before)
    (done : s.power.key.debounced = k) (accepted : (s.withKey k).powerAccepted before = x) (stays : x.StaysAwake before) :
    exec .powerDebounceExpiry s = .next x.settle := by
  rw [exec_powerDebounceExpiry, State.powerDebounce_of_due ((Key.debounceDue_iff _ _).mpr due) state done, accepted,
    stays.afterKey]

/-- A key that is UP again keeps the part awake by an input or in SHUTTING. -/
theorem State.staysAwake_of_input {before : KeyState}
    (h : s.power.state = .shutting ∨ s.charge.usb.state ≠ .absent ∨ s.charge.aux.state ≠ .absent) :
    s.afterKey before = s := by
  rcases h with shutting | usb | aux
  · exact State.afterKey_of_awake (.inr (.inl shutting))
  · rw [State.afterKey, State.powerDownTest_of_input (i := .usb) usb, ite_self]
  · rw [State.afterKey, State.powerDownTest_of_input (i := .aux) aux, ite_self]

/-- With no input there, a key that is UP again sends the part to DORMANT. -/
theorem State.afterKey_of_idle {before : KeyState} (idle : s.power.state = .waking ∨ s.power.state = .standby)
    (up : s.power.key.state = .up) (other : before ≠ .up) (usb : s.charge.usb.state = .absent)
    (aux : s.charge.aux.state = .absent) : s.afterKey before = s.setPower .dormant := by
  rw [State.afterKey_of_other (by rw [up]; exact other.symm), State.powerDownTest_of_idle idle,
    if_pos (s.idleOutside_iff.mpr ⟨usb, aux, up⟩)]

/-! ### A press held to its end (R182, R183) -/

/-- The key as a press held to its end leaves it. -/
def Key.heldLong (k : Key) : Key :=
  { k with state := .long, hold := none, debouncing := false }

theorem State.powerHeld_of_run {h : Hold} (run : s.power.state = .run) (down : s.power.key.state = .down)
    (hold : s.power.key.hold = some h) (kind : h.kind = .turnOff) :
    s.powerHeld = (s.withKey s.power.key.heldLong).enterShutting .key := by
  rw [State.powerHeld, hold, run, Option.map_some, kind]
  dsimp only
  rw [State.modPowerKey, State.modPower, Key.makeLong_of_down down]
  rfl

theorem State.powerHeld_of_standby {h : Hold} (standby : s.power.state = .standby) (down : s.power.key.state = .down)
    (hold : s.power.key.hold = some h) (kind : h.kind = .turnOn) :
    s.powerHeld = (s.withKey s.power.key.heldLong).keyTurnOn := by
  rw [State.powerHeld, hold, standby, Option.map_some, kind]
  dsimp only
  rw [State.modPowerKey, State.modPower, Key.makeLong_of_down down]
  rfl

theorem State.powerHeld_of_other (other : s.power.state = .waking ∨ s.power.state = .shutting) : s.powerHeld = s := by
  rw [State.powerHeld]
  cases s.power.key.hold.map Hold.kind with
  | none => rfl
  | some kind => rcases other with h | h <;> rw [h] <;> cases kind <;> rfl

theorem State.keyTurnOn_of_refused (h : s.power.cutoffLock = true ∨ s.gauge.warning = true) : s.keyTurnOn = s := by
  rw [State.keyTurnOn]
  by_cases lock : s.power.cutoffLock = true
  · rw [if_pos lock]
  · rw [if_neg lock, State.turnOn, if_pos (h.resolve_left lock)]

theorem State.keyTurnOn_of_free (lock : s.power.cutoffLock = false) (warning : s.gauge.warning = false) :
    s.keyTurnOn = s.setPower .run := by
  rw [State.keyTurnOn, lock, if_neg Bool.false_ne_true, State.turnOn, warning, if_neg Bool.false_ne_true]

/-- A turn-on leaves a LONG key as it is. -/
theorem State.turnedOn_key {k : Key} (long : k.state = .long) (hold : k.hold = none) (debouncing : k.debouncing = false) :
    ((s.withKey k).setPower .run).power.key = k := by
  rw [State.setPower_key, powerKeyAt_of_ends _ (.inr (.inr (.inl rfl)))]
  show k.interrupt = k
  rw [Key.interrupt_of_not_up (by rw [long]; exact KeyState.noConfusion), debouncing, Bool.false_and, ← long, ← hold, ← debouncing]

end

end Sys2Proof.Machine

namespace Sys2Proof.Proofs
open Sys2Proof.Machine

/-- Settles O44: an edge, a debounce and a hold by the power state and the key's state, and a change of power state. -/
theorem powerKey : Obligations.PowerKey := by
  intro s k now goes due
  refine ⟨fun run => ?_, fun run => ?_, fun idle => ?_, fun none => ?_, fun standby down hold passed => ?_,
    fun releasing h hold out => ?_, fun dormant runs passed => ?_, fun dormant up => ?_, fun dormant long => ?_, fun calm => ?_,
    fun long => ?_, fun long awake => ?_, fun run long runs passed => ?_, fun h releasing hold early passed => ?_,
    fun after => ?_, fun after => ?_⟩
  · have awake : s.power.state ≠ .dormant := by rw [run]; exact PowerState.noConfusion
    refine ⟨fun up => ?_, fun pressing => ?_, fun down => ?_, fun releasing early => ?_, fun pressing runs passed => ?_,
      fun releasing runs passed => ?_, fun down hold passed => ?_⟩
    · exact exec_powerKeyEdge_of_plain (Key.onEdge_down_of_up _ up) (.inr awake)
        (Key.not_heldOut_of_state KeyState.noConfusion) (.inl KeyState.noConfusion)
    · exact exec_powerKeyEdge_of_plain (Key.onEdge_up_of_pressing _ pressing) (.inr awake)
        (Key.not_heldOut_of_state KeyState.noConfusion) (.inr (.inl (.inl run)))
    · exact exec_powerKeyEdge_of_plain (Key.onEdge_up_of_down _ down) (.inr awake)
        (Key.not_heldOut_of_state KeyState.noConfusion) (.inl KeyState.noConfusion)
    · exact exec_powerKeyEdge_of_plain (Key.onEdge_down_of_releasing _ releasing) (.inr awake)
        (Key.not_heldOut_of_hold early) (.inl KeyState.noConfusion)
    · refine exec_powerDebounceExpiry_of_due ⟨runs, passed⟩ pressing (Key.debounced_of_pressing pressing)
        (State.powerPress_of_hold (h := .turnOff) ?_) (.inl KeyState.noConfusion)
      show pressHold s.power.state = _
      rw [run]
      rfl
    · exact exec_powerDebounceExpiry_of_due ⟨runs, passed⟩ releasing (Key.debounced_of_releasing releasing)
        (State.powerRelease_of_run (by exact run)) (.inr (.inl (.inl run)))
    · rw [exec_powerHoldExpiry, State.powerHold_of_down ((Key.holdDue_iff _ hold).mpr ⟨rfl, passed⟩) down,
        State.powerHeld_of_run run down hold rfl]
      rfl
  · intro x
    obtain ⟨power, clock, motion, integ, charge, options, media⟩ := State.enterShutting_of_run .key run
    refine ⟨congrArg Power.state power, congrArg Power.cause power, congrArg Power.record power, ?_, ?_, fun recording => ?_, ?_,
      motion, charge⟩
    · refine (congrArg Power.closeTarget power).trans ?_
      show some (stampAdd s.now (closeLimit s.power.reserveHeld .key)) = _
      rw [closeLimit]
      split <;> rfl
    · exact (congrArg (fun p => p.key.hold) power).trans (Key.interrupt_hold _)
    · show (s.enterShutting .key).media.writer.state = _ ∧ _
      rw [media]
      exact Media.shutdownClose_closing _ recording
    · exact (congrArg Clock.count clock).trans (Clock.powerChange_count _ _)
  · rw [exec_powerDebounceExpiry, State.powerDebounce_of_not_due (Key.not_debounceDue _ idle)]
  · rw [exec_powerHoldExpiry, State.powerHold_of_not_due (Key.holdDue_of_none _ none)]
  · have held : s.powerHold = (s.withKey k.heldLong).keyTurnOn := by
      rw [State.powerHold_of_down ((Key.holdDue_iff _ hold).mpr ⟨rfl, passed⟩) down,
        State.powerHeld_of_standby standby down hold rfl]
    refine ⟨fun lock warning => ?_, fun refused => ?_⟩
    · rw [State.keyTurnOn_of_free (by exact lock) (by exact warning)] at held
      have key := State.turnedOn_key (s := s) (k := k.heldLong) rfl rfl rfl
      refine ⟨_, (exec_powerHoldExpiry s).trans (congrArg (fun x => Host.Outcome.next x.settle) held), State.setPower_state _ _,
        congrArg Key.state key, congrArg Key.hold key, State.setPower_count _ _⟩
    · rw [exec_powerHoldExpiry, held, State.keyTurnOn_of_refused (by exact refused)]
      rfl
  · intro long
    have edge := Key.onEdge_down_of_releasing s.now releasing
    have heldOut : Key.heldOut { k with state := .down, debouncing := false } = true := (Key.heldOut_iff _).mpr ⟨rfl, h, hold, out⟩
    refine ⟨fun run off => ?_, fun standby on => ?_, fun other => ?_⟩
    · rw [exec_powerKeyEdge, State.powerEdge_of_held edge (by rw [run]; exact PowerState.noConfusion) heldOut,
        State.powerHeld_of_run (h := h) (by exact run) rfl (by exact hold) off, State.afterKey_of_awake]
      · rfl
      · exact .inr (.inl (congrArg Power.state (State.enterShutting_of_run .key (by exact run)).1))
    · have held : s.powerEdge true = (s.withKey long).keyTurnOn.afterKey k.state := by
        rw [State.powerEdge_of_held edge (by rw [standby]; exact PowerState.noConfusion) heldOut,
          State.powerHeld_of_standby (h := h) (by exact standby) rfl (by exact hold) on]
        rfl
      refine ⟨fun refused => ?_, fun lock warning => ?_⟩
      · rw [exec_powerKeyEdge, held, State.keyTurnOn_of_refused (by exact refused), State.afterKey_of_key KeyState.noConfusion]
        rfl
      · rw [State.keyTurnOn_of_free (by exact lock) (by exact warning), State.afterKey_of_awake (.inl (State.setPower_state _ _))]
          at held
        exact ⟨_, (exec_powerKeyEdge s true).trans (congrArg (fun x => Host.Outcome.next x.settle) held),
          State.setPower_state _ _, State.turnedOn_key rfl rfl rfl, State.setPower_count _ _⟩
    · rw [exec_powerKeyEdge, State.powerEdge_of_held edge (by rcases other with h | h <;> rw [h] <;> exact PowerState.noConfusion)
        heldOut, State.powerHeld_of_other (by exact other), State.afterKey_of_key KeyState.noConfusion]
      rfl
  · have sleeps : ∀ key, (s.withKey key).StaysAwake k.state := fun key => .inr (.inl (.inr (.inr dormant)))
    refine ⟨fun long => ?_, fun releasing => ?_, fun pressing => ?_⟩
    · exact exec_powerDebounceExpiry_of_due ⟨runs, passed⟩ long (Key.debounced_of_long long) rfl (long ▸ sleeps _)
    · refine exec_powerDebounceExpiry_of_due ⟨runs, passed⟩ releasing (Key.debounced_of_releasing releasing)
        (State.powerRelease_of_not_run ?_) (releasing ▸ sleeps _)
      exact fun run => PowerState.noConfusion (dormant.symm.trans run)
    · refine exec_powerDebounceExpiry_of_due ⟨runs, passed⟩ pressing (Key.debounced_of_pressing pressing)
        (State.powerPress_of_none ?_) (pressing ▸ sleeps _)
      show pressHold s.power.state = none
      rw [dormant]
      rfl
  · have wakes := State.powerEdge_of_dormant (Key.onEdge_down_of_up s.now up) dormant KeyState.noConfusion
    have key : ((s.withKey { k with state := .pressing, edge := now, debouncing := true }).setPower .waking).power.key =
        { k with state := .pressing, edge := now, debouncing := true } := State.setPower_key _ _
    have awake : ((s.withKey { k with state := .pressing, edge := now, debouncing := true }).setPower .waking).afterKey k.state =
        (s.withKey { k with state := .pressing, edge := now, debouncing := true }).setPower .waking :=
      State.afterKey_of_key fun up => KeyState.noConfusion ((congrArg Key.state key).symm.trans up)
    refine ⟨_, (exec_powerKeyEdge s true).trans (congrArg (fun x => Host.Outcome.next x.settle) (wakes.trans awake)), State.setPower_state _ _,
      key, ?_, ?_, ?_, State.setPower_count _ _⟩
    · rw [State.setPower_power]
      rfl
    · rw [State.setPower_power]
      rfl
    · rw [State.setPower_clock, Clock.powerChange_eq]
  · have wakes := State.powerEdge_of_dormant (Key.onEdge_down_of_long s.now long) dormant
      (fun down => KeyState.noConfusion (long.symm.trans down))
    have key : ((s.withKey { k with debouncing := false }).setPower .waking).power.key = { k with debouncing := false } :=
      State.setPower_key _ _
    rw [State.afterKey_of_same (congrArg Key.state key)] at wakes
    exact ⟨_, (exec_powerKeyEdge s true).trans (congrArg (fun x => Host.Outcome.next x.settle) wakes), State.setPower_state _ _,
      key, State.setPower_count _ _⟩
  · have awake : s.power.state ≠ .dormant := by rcases calm with h | h | h <;> rw [h] <;> exact PowerState.noConfusion
    have notRun : s.power.state ≠ .run := by rcases calm with h | h | h <;> rw [h] <;> exact PowerState.noConfusion
    intro freed
    have frees : ∀ (c : Instr) (key : Key), k.state ≠ .up → key.state = .up →
        exec c s = .next ((s.withKey key).afterKey k.state).settle → freed c key := by
      intro c key other up runs
      refine ⟨fun stays => ?_, fun notShutting usb aux => ?_⟩
      · rw [runs, State.staysAwake_of_input (by exact stays)]
        rfl
      · have idle : s.power.state = .waking ∨ s.power.state = .standby :=
          calm.imp_right fun h => h.resolve_right notShutting
        rw [State.afterKey_of_idle (s := s.withKey key) idle up other usb aux] at runs
        refine ⟨_, runs, State.setPower_state _ _, ?_, State.setPower_count _ _⟩
        rw [State.setPower_key, powerKeyAt_of_ends _ (.inl rfl)]
        exact Key.interrupt_of_up up
    refine ⟨fun up => ?_, fun pressing => ?_, fun down => ?_, fun releasing early => ?_, fun pressing runs passed => ?_,
      fun releasing runs passed => ?_, fun long runs passed => ?_⟩
    · exact exec_powerKeyEdge_of_plain (Key.onEdge_down_of_up _ up) (.inr awake)
        (Key.not_heldOut_of_state KeyState.noConfusion) (.inl KeyState.noConfusion)
    · refine frees _ _ (by rw [pressing]; exact KeyState.noConfusion) rfl ?_
      rw [exec_powerKeyEdge, State.powerEdge_of_plain (Key.onEdge_up_of_pressing _ pressing) (.inr awake)
        (Key.not_heldOut_of_state KeyState.noConfusion)]
    · exact exec_powerKeyEdge_of_plain (Key.onEdge_up_of_down _ down) (.inr awake)
        (Key.not_heldOut_of_state KeyState.noConfusion) (.inl KeyState.noConfusion)
    · exact exec_powerKeyEdge_of_plain (Key.onEdge_down_of_releasing _ releasing) (.inr awake)
        (Key.not_heldOut_of_hold early) (.inl KeyState.noConfusion)
    · refine exec_powerDebounceExpiry_of_due ⟨runs, passed⟩ pressing (Key.debounced_of_pressing pressing) ?_
        (.inl KeyState.noConfusion)
      show State.powerPress _ = _
      rcases calm with h | h | h
      · rw [State.powerPress_of_hold (h := .turnOn) (by show pressHold s.power.state = _; rw [h]; rfl), h]
        rfl
      · rw [State.powerPress_of_hold (h := .turnOn) (by show pressHold s.power.state = _; rw [h]; rfl), h]
        rfl
      · rw [State.powerPress_of_none (by show pressHold s.power.state = _; rw [h]; rfl), h]
        rfl
    · refine frees _ _ (by rw [releasing]; exact KeyState.noConfusion) rfl ?_
      rw [exec_powerDebounceExpiry, State.powerDebounce_of_due ((Key.debounceDue_iff _ _).mpr ⟨runs, passed⟩) rfl
        (Key.debounced_of_releasing releasing), releasing, State.powerAccepted, State.powerRelease_of_not_run (by exact notRun)]
    · refine frees _ _ (by rw [long]; exact KeyState.noConfusion) rfl ?_
      rw [exec_powerDebounceExpiry, State.powerDebounce_of_due ((Key.debounceDue_iff _ _).mpr ⟨runs, passed⟩) rfl
        (Key.debounced_of_long long), long, State.powerAccepted]
  · exact exec_powerKeyEdge_of_plain (Key.onEdge_up_of_long _ long) (.inl rfl)
      (Key.not_heldOut_of_state (fun down => KeyState.noConfusion (long.symm.trans down))) (.inr (.inr rfl))
  · exact exec_powerKeyEdge_of_plain (Key.onEdge_down_of_long _ long) (.inr awake)
      (Key.not_heldOut_of_state (fun down => KeyState.noConfusion (long.symm.trans down))) (.inr (.inr rfl))
  · exact exec_powerDebounceExpiry_of_due ⟨runs, passed⟩ long (Key.debounced_of_long long) rfl (.inr (.inl (.inl run)))
  · rw [exec_powerHoldExpiry, State.powerHold_of_releasing ((Key.holdDue_iff _ hold).mpr ⟨early, passed⟩) releasing,
      Key.holdExpired, hold]
    rfl
  · intro x ends
    have key : x.key = powerKeyAt s.power.state after k := State.setPower_key _ _
    refine ⟨fun end_ up => ?_, fun end_ notUp => ?_, fun not => ?_⟩
    · rw [key, powerKeyAt_of_ends _ end_, Key.interrupt_of_up up]
    · rw [key, powerKeyAt_of_ends _ end_, Key.interrupt_of_not_up notUp]
    · rw [key, powerKeyAt_of_not_ends _ not]
  · intro c d
    have clock : d = c.powerChange after := State.setPower_clock _ _
    rw [clock, Clock.powerChange_eq]
    refine ⟨rfl, fun fast => ?_, fun slow => ?_, ?_, ?_, ?_, ?_⟩
    · dsimp only
      rw [fast]
      cases after <;> rfl
    · dsimp only
      rw [slow]
      cases after <;> rfl
    · rintro rfl
      rfl
    · rintro rfl slow
      show (c.mainOsc && decide (c.path = .fast)) = false
      rw [slow]
      exact Bool.and_false _
    · rintro rfl fast
      show (c.mainOsc && decide (c.path = .fast)) = c.mainOsc
      rw [fast]
      exact Bool.and_true _
    · intro notWaking notDormant
      cases after
      case waking => exact absurd rfl notWaking
      case dormant => exact absurd rfl notDormant
      all_goals rfl

end Sys2Proof.Proofs
end

section
/-! PROOFS. Records issued on the link, the buffers returned and the receipts given as the writer's work is dropped
(R112, R116, R128, R129, R196, R197). -/

namespace Sys2Proof.Machine

/-! ### Records issued (R196, R197) -/

/-- The write of a record's head is in flight. -/
def Exchange.Holds (e : Exchange) (r : Record) : Prop :=
  ∃ t ∈ e.transfers, t.purpose = .record r .head

/-- The request of a slot that is worked has its answer issued. -/
def Exchange.Answered (e : Exchange) (slot : Nat) (a : Answer) : Prop :=
  ∀ k : Working, e.working.getD slot none = some k → e.Holds (answerRecord slot k.edition k.kind a)

/-- From `e` to `d` no record's head is lost; while the exchange runs, the requests that are worked stay so. -/
structure Exchange.Extends (e d : Exchange) : Prop where
  state : d.state = e.state
  working : e.state = .running → d.working = e.working
  records : ∀ r, e.Holds r → d.Holds r

theorem Exchange.Extends.refl (e : Exchange) : e.Extends e :=
  ⟨rfl, fun _ => rfl, fun _ h => h⟩

theorem Exchange.Extends.trans {e d f : Exchange} (first : e.Extends d) (second : d.Extends f) : e.Extends f where
  state := second.state.trans first.state
  working running := (second.working (first.state.trans running)).trans (first.working running)
  records r h := second.records r (first.records r h)

/-- An answer given stays given. -/
theorem Exchange.Extends.answered {e d : Exchange} (h : e.Extends d) (running : e.state = .running) {slot : Nat} {a : Answer}
    (given : e.Answered slot a) : d.Answered slot a := by
  intro k worked
  rw [h.working running] at worked
  exact h.records _ (given k worked)

theorem Exchange.writeRecord_of_running {e : Exchange} (now : Stamp) (r : Record) (running : e.state = .running) :
    e.writeRecord now r = e.issuePart now r .head :=
  if_pos (e.running_iff.mpr running)

theorem Exchange.writeRecord_of_not_running {e : Exchange} (now : Stamp) (r : Record) (stopped : e.state ≠ .running) :
    e.writeRecord now r = e.recordDone r.kind :=
  if_neg (mt e.running_iff.mp stopped)

theorem Exchange.issue_extends (e : Exchange) (now : Stamp) (p : Purpose) (address : Nat) (out : Option (List Byte)) (length : Nat) :
    e.Extends (e.issue now p address out length) :=
  ⟨rfl, fun _ => rfl, fun _ ⟨t, mem, purpose⟩ => ⟨t, List.mem_append_left _ mem, purpose⟩⟩

theorem Exchange.recordDone_transfers (e : Exchange) (k : RecordKind) : (e.recordDone k).transfers = e.transfers := by
  cases k <;> rfl

theorem Exchange.writeRecord_extends (e : Exchange) (now : Stamp) (r : Record) : e.Extends (e.writeRecord now r) := by
  by_cases running : e.state = .running
  · rw [Exchange.writeRecord_of_running now r running]
    exact e.issue_extends _ _ _ _ _
  · refine ⟨Exchange.writeRecord_state _ _ _, fun h => absurd h running, fun q h => ?_⟩
    rw [Exchange.writeRecord_of_not_running now r running, Exchange.Holds, Exchange.recordDone_transfers]
    exact h

theorem Exchange.writeRecord_holds {e : Exchange} (now : Stamp) (r : Record) (running : e.state = .running) :
    (e.writeRecord now r).Holds r := by
  rw [Exchange.writeRecord_of_running now r running]
  exact ⟨_, List.mem_append_right _ (List.mem_singleton_self _), rfl⟩

/-- A mark on the purposes of reads and copies leaves the records. -/
theorem Exchange.mapPurposes_extends (e : Exchange) {f : Purpose → Purpose} (records : ∀ r part, f (.record r part) = .record r part) :
    e.Extends (e.mapPurposes f) :=
  ⟨rfl, fun _ => rfl, fun r ⟨t, mem, purpose⟩ =>
    ⟨{ t with purpose := f t.purpose }, List.mem_map_of_mem mem, by rw [purpose, records]⟩⟩

theorem Exchange.answer_extends (e : Exchange) (now : Stamp) (slot : Nat) (a : Answer) : e.Extends (e.answer now slot a) := by
  unfold Exchange.answer
  split
  · exact .refl e
  · exact e.writeRecord_extends _ _

theorem Exchange.answer_answered {e : Exchange} (now : Stamp) (slot : Nat) (a : Answer) (running : e.state = .running) :
    (e.answer now slot a).Answered slot a := by
  intro k worked
  rw [(e.answer_extends now slot a).working running] at worked
  rw [Exchange.answer, Exchange.workingAt, worked]
  exact Exchange.writeRecord_holds _ _ running

/-! ### The media blocks' operations on the link -/

section
variable (m : Media) (env : Env)

theorem Media.answerAll_extends (slots : List Nat) (a : Answer) : m.exch.Extends (m.answerAll env slots a).exch := by
  induction slots generalizing m with
  | nil => exact .refl _
  | cons slot slots ih => exact (m.exch.answer_extends env.now slot a).trans (ih (m.answer env slot a))

theorem Media.answerAll_answered {m : Media} {slots : List Nat} (a : Answer) (running : m.exch.state = .running) :
    ∀ slot ∈ slots, (m.answerAll env slots a).exch.Answered slot a := by
  induction slots generalizing m with
  | nil => exact fun slot mem => absurd mem List.not_mem_nil
  | cons first slots ih =>
    have extends_ := m.exch.answer_extends env.now first a
    have still : (m.answer env first a).exch.state = .running := extends_.state.trans running
    intro slot mem
    rcases List.mem_cons.mp mem with rfl | later
    · exact ((m.answer env slot a).answerAll_extends env slots a).answered still (Exchange.answer_answered _ _ _ running)
    · exact ih still slot later

theorem Media.receipt_extends (st : ReceiptStatus) (h : HeldSlot) : m.exch.Extends (m.receipt env st h).exch := by
  unfold Media.receipt
  split
  · exact m.exch.writeRecord_extends _ _
  · exact .refl _

theorem Media.finish_extends (st : ReceiptStatus) (c : Chunk) : m.exch.Extends (m.finish env st c).exch := by
  unfold Media.finish
  split
  · exact m.receipt_extends env _ _
  · exact .refl _

/-- A fold of steps that extend the exchange extends it. -/
theorem Media.foldl_extends {α : Type} {f : Media → α → Media} (step : ∀ (n : Media) (a : α), n.exch.Extends (f n a).exch) (l : List α) :
    m.exch.Extends (l.foldl f m).exch := by
  induction l generalizing m with
  | nil => exact .refl _
  | cons a l ih => exact (step m a).trans (ih _)

theorem Media.finishAll_extends (st : ReceiptStatus) (cs : List Chunk) : m.exch.Extends (m.finishAll env st cs).exch :=
  m.foldl_extends (fun m c => m.finish_extends env st c) cs

theorem Media.dropParked_extends (st : ReceiptStatus) : m.exch.Extends (m.dropParked env st).exch :=
  Media.finishAll_extends (m.modWriter fun w => { w with parked := [] }) env st _

theorem Media.dropAdmitted_extends (st : ReceiptStatus) : m.exch.Extends (m.dropAdmitted env st).exch :=
  (Media.finishAll_extends (m.modWriter fun w => { w with queue := [], wip := none }) env st _).trans
    (Exchange.mapPurposes_extends _ fun _ _ => rfl)

theorem Media.handOver_exch (id : BufferId) : (m.handOver id).exch = m.exch := by
  unfold Media.handOver
  split <;> rfl

theorem Media.flush_exch : m.flush.exch = m.exch := by
  unfold Media.flush
  split
  · split
    · rfl
    · exact m.handOver_exch _
  · rfl

theorem Media.closeBegin_extends (cause : CloseCause) : m.exch.Extends (m.closeBegin env cause).exch := by
  by_cases recording : m.writer.state = .recording
  · rw [Media.closeBegin_of_recording env cause recording, Media.flush_exch]
    exact Media.dropParked_extends ((m.enter .closing).modWriter fun w =>
      { w with closeCause := some cause, stopPending := none, starvation := none }) env .refused
  · rw [Media.closeBegin_of_not_recording env cause recording]
    exact .refl _

theorem Media.abandonHeld_extends : m.exch.Extends (m.abandonHeld env).exch := by
  have parked := m.dropParked_extends env .abandoned
  have admitted := (m.dropParked env .abandoned).dropAdmitted_extends env .abandoned
  unfold Media.abandonHeld
  rw [Media.flush_exch]
  exact (parked.trans admitted).trans (Media.foldl_extends _ (fun m h => m.receipt_extends env .abandoned h) _)

theorem Media.endReadBack_extends (a : Answer) : m.exch.Extends (m.endReadBack env a).exch := by
  unfold Media.endReadBack
  split
  · exact .refl _
  · exact (m.exch.mapPurposes_extends fun _ _ => rfl).trans (Exchange.answer_extends _ _ _ _)

theorem Media.endReadBack_answered {m : Media} {r : ReadBack} (a : Answer) (running : m.exch.state = .running)
    (reads : m.writer.readBack = some r) : (m.endReadBack env a).exch.Answered r.slot (a.withData (toLe 4 r.copied)) := by
  rw [Media.endReadBack, reads]
  exact Exchange.answer_answered _ _ _ running

theorem Media.endJob_extends (a : Answer) : m.exch.Extends (m.endJob env a).exch := by
  unfold Media.endJob
  split
  · exact .refl _
  · exact m.exch.answer_extends _ _ _

theorem Media.endJob_answered {m : Media} {j : VolumeJob} (a : Answer) (running : m.exch.state = .running)
    (job : m.writer.job = some j) : (m.endJob env a).exch.Answered j.slot a := by
  rw [Media.endJob, job]
  exact Exchange.answer_answered _ _ _ running
end

/-! ### Every request at the writer answered (R128, R129) -/

section
variable (m : Media) (env : Env) (r : FailReason)

/-- The media blocks with the waiting requests and the unmounts answered. -/
def Media.waitingFailed (m : Media) (env : Env) (r : FailReason) : Media :=
  ((m.failWaiting env r).modWriter fun w => { w.clearClose with unmounting := none, hostReset := false }).answerAll env
    (m.writer.unmounting.getD []) (.failed r)

theorem Media.failAll_eq : m.failAll env r =
    ((m.waitingFailed env r).endReadBack env (.failed r)).endJob env (.failed r) := rfl

theorem Media.waitingFailed_writer : (m.waitingFailed env r).writer = { m.writer.clearClose with
    waiting := [], stopSlots := [], unmounting := none, hostReset := false } := by
  rw [Media.waitingFailed, Media.answerAll_writer, Media.modWriter_writer, Media.failWaiting_writer]
  rfl

theorem Media.failWaiting_extends : m.exch.Extends (m.failWaiting env r).exch :=
  Media.answerAll_extends (m.modWriter fun w => { w with waiting := [], stopSlots := [] }) env _ _

theorem Media.waitingFailed_extends : m.exch.Extends (m.waitingFailed env r).exch :=
  (m.failWaiting_extends env r).trans (Media.answerAll_extends ((m.failWaiting env r).modWriter fun w =>
    { w.clearClose with unmounting := none, hostReset := false }) env _ _)

theorem Media.failAll_extends : m.exch.Extends (m.failAll env r).exch := by
  rw [Media.failAll_eq]
  exact ((m.waitingFailed_extends env r).trans (Media.endReadBack_extends _ _ _)).trans (Media.endJob_extends _ _ _)

theorem Media.failAll_answered {m : Media} (running : m.exch.state = .running) :
    (∀ slot ∈ m.writer.waitingSlots ++ m.writer.stopSlots ++ m.writer.unmounting.getD [],
      (m.failAll env r).exch.Answered slot (.failed r)) ∧
    (∀ b : ReadBack, m.writer.readBack = some b →
      (m.failAll env r).exch.Answered b.slot ((Answer.failed r).withData (toLe 4 b.copied))) ∧
    (∀ j : VolumeJob, m.writer.job = some j → (m.failAll env r).exch.Answered j.slot (.failed r)) := by
  have waiting := m.waitingFailed_extends env r
  have running₁ := waiting.state.trans running
  have read := (m.waitingFailed env r).endReadBack_extends env (.failed r)
  have running₂ := read.state.trans running₁
  have job := ((m.waitingFailed env r).endReadBack env (.failed r)).endJob_extends env (.failed r)
  rw [Media.failAll_eq]
  refine ⟨fun slot mem => ?_, fun b reads => ?_, fun j works => ?_⟩
  · refine (read.trans job).answered running₁ ?_
    have failed := m.failWaiting_extends env r
    rcases List.mem_append.mp mem with first | unmounts
    · exact (Media.answerAll_extends ((m.failWaiting env r).modWriter fun w =>
        { w.clearClose with unmounting := none, hostReset := false }) env _ _).answered (failed.state.trans running)
        (Media.answerAll_answered (m := m.modWriter fun w => { w with waiting := [], stopSlots := [] }) env _ running slot first)
    · exact Media.answerAll_answered (m := (m.failWaiting env r).modWriter fun w =>
        { w.clearClose with unmounting := none, hostReset := false }) env _ (failed.state.trans running) slot unmounts
  · refine job.answered running₂ (Media.endReadBack_answered env _ running₁ ?_)
    rw [Media.waitingFailed_writer]
    exact reads
  · refine Media.endJob_answered env _ running₂ ?_
    rw [Media.endReadBack_writer, Media.waitingFailed_writer]
    exact works
end

/-! ### What stays of the engine as requests are answered -/

section
variable (m : Media) (env : Env)

theorem Media.answerAll_steady (slots : List Nat) (a : Answer) : (m.answerAll env slots a).steady = m.steady :=
  foldl_writer Media.steady (fun m slot => m.answer env slot a) (fun _ _ => rfl) slots m

theorem Media.endReadBack_steady (a : Answer) : (m.endReadBack env a).steady = m.steady := by
  unfold Media.endReadBack
  split <;> rfl

theorem Media.endJob_steady (a : Answer) : (m.endJob env a).steady = m.steady := by
  unfold Media.endJob
  split <;> rfl

theorem Media.dropVolume_steady : m.dropVolume.steady = m.steady := by
  simp only [Media.dropVolume, Media.modCard, Media.modWriter]

theorem Media.dropVolume_exch : m.dropVolume.exch = m.exch := by
  simp only [Media.dropVolume, Media.modCard, Media.modWriter]

theorem Media.failAll_steady (r : FailReason) : (m.failAll env r).steady = m.steady := by
  rw [Media.failAll_eq, Media.endJob_steady, Media.endReadBack_steady]
  exact (Media.answerAll_steady _ _ _ _).trans (Media.answerAll_steady _ _ _ _)
end

/-! ### Receipts for what is held (R112, R128, R129) -/

/-- Each of the slots is held still, or its receipt is issued. -/
def Media.Receipted (m : Media) (held : List HeldSlot) (st : ReceiptStatus) : Prop :=
  ∀ h ∈ held, h ∈ m.writer.held ∨ m.exch.Holds (receiptRecord h st)

section
variable {m : Media} (env : Env) {held : List HeldSlot} {st : ReceiptStatus}

theorem Media.Receipted.receipt (given : m.Receipted held st) (running : m.exch.state = .running) (h : HeldSlot) :
    (m.receipt env st h).Receipted held st := by
  intro g mem
  have kept := (m.receipt_extends env st h).records (receiptRecord g st)
  rcases given g mem with stays | issued
  · by_cases same : g = h
    · subst same
      rw [Media.receipt, if_pos (List.contains_iff_mem.mpr stays)]
      exact .inr (Exchange.writeRecord_holds _ _ running)
    · rw [Media.receipt_writer]
      exact .inl (List.mem_filter.mpr ⟨stays, by simpa using same⟩)
  · exact .inr (kept issued)

theorem Media.Receipted.finish (given : m.Receipted held st) (running : m.exch.state = .running) (c : Chunk) :
    (m.finish env st c).Receipted held st := by
  unfold Media.finish
  split
  · exact given.receipt env running _
  · exact given

theorem Media.Receipted.finishAll (given : m.Receipted held st) (running : m.exch.state = .running) (cs : List Chunk) :
    (m.finishAll env st cs).Receipted held st := by
  induction cs generalizing m with
  | nil => exact given
  | cons c cs ih => exact ih (given.finish env running c) ((m.finish_extends env st c).state.trans running)

theorem Media.Receipted.receipts (given : m.Receipted held st) (running : m.exch.state = .running) (l : List HeldSlot) :
    (l.foldl (fun m h => m.receipt env st h) m).Receipted held st := by
  induction l generalizing m with
  | nil => exact given
  | cons h l ih => exact ih (given.receipt env running h) ((m.receipt_extends env st h).state.trans running)

theorem Media.Receipted.dropParked (given : m.Receipted held st) (running : m.exch.state = .running) :
    (m.dropParked env st).Receipted held st :=
  Media.Receipted.finishAll (m := m.modWriter fun w => { w with parked := [] }) env given running _

theorem Media.Receipted.dropAdmitted (given : m.Receipted held st) (running : m.exch.state = .running) :
    (m.dropAdmitted env st).Receipted held st := by
  have finished := Media.Receipted.finishAll (m := m.modWriter fun w => { w with queue := [], wip := none }) env given running
    m.writer.admitted
  exact fun h mem => (finished h mem).imp id ((Exchange.mapPurposes_extends _ fun _ _ => rfl).records _)

/-- Receipts for a list of slots leave the others held. -/
theorem Media.receipts_held (l : List HeldSlot) (m : Media) :
    (l.foldl (fun m h => m.receipt env st h) m).writer = { m.writer with
      held := m.writer.held.filter fun h => !l.contains h } := by
  induction l generalizing m with
  | nil =>
    have all : (m.writer.held.filter fun h => !([] : List HeldSlot).contains h) = m.writer.held :=
      List.filter_eq_self.mpr fun h _ => rfl
    rw [List.foldl_nil, all]
  | cons g l ih =>
    rw [List.foldl_cons, ih, Media.receipt_writer]
    dsimp only
    rw [List.filter_filter]
    congr 2
    funext h
    by_cases same : h = g <;> simp [same]
end

/-! ### Motion buffers returned (R66) -/

/-- From `s` to `t` each motion buffer is the same or has been returned. -/
def Steady.Released (s t : Steady) : Prop :=
  ∀ id, t.buffer id = s.buffer id ∨ t.buffer id = .empty

theorem Steady.Released.refl (s : Steady) : s.Released s := fun _ => .inl rfl

theorem Steady.Released.trans {s t u : Steady} (first : s.Released t) (second : t.Released u) : s.Released u := by
  intro id
  rcases second id with same | empty
  · rw [same]
    exact first id
  · exact .inr empty

/-- A buffer returned stays so. -/
theorem Steady.Released.empty {s t : Steady} (h : s.Released t) {id : BufferId} (empty : s.buffer id = .empty) :
    t.buffer id = .empty :=
  (h id).elim (fun same => same.trans empty) fun returned => returned

/-- The buffer that was FILLING is FILLING still, or has been returned. -/
theorem Steady.Released.filling {s t : Steady} (h : s.Released t) {id : BufferId} (fills : s.filling = some id) :
    t.buffer id = .empty ∨ (t.filling = some id ∧ t.buffer id = s.buffer id) := by
  rcases h id with same | empty
  · right
    refine ⟨?_, same⟩
    unfold Steady.filling at fills ⊢
    cases id with
    | a =>
      have sameA : t.bufA = s.bufA := same
      by_cases fillsA : s.bufA.state = .filling
      · rw [sameA, if_pos fillsA]
      · rw [if_neg fillsA] at fills
        split at fills <;> cases fills
    | b =>
      have sameB : t.bufB = s.bufB := same
      have notA : s.bufA.state ≠ .filling := by
        intro fillsA
        rw [if_pos fillsA] at fills
        cases fills
      have notA' : t.bufA.state ≠ .filling := by
        rcases h .a with kept | returned
        · have sameA : t.bufA = s.bufA := kept
          rwa [sameA]
        · have emptyA : t.bufA = .empty := returned
          rw [emptyA]
          exact BufferState.noConfusion
      rw [if_neg notA] at fills
      rw [if_neg notA', sameB]
      exact fills
  · exact .inl empty

section
variable (m : Media) (env : Env) (st : ReceiptStatus)

theorem Media.returnBuffer_empty (id : BufferId) : (m.returnBuffer id).steady.buffer id = .empty := by
  cases id <;> rfl

theorem Media.returnBuffer_released (id : BufferId) : m.steady.Released (m.returnBuffer id).steady := by
  intro other
  cases id <;> cases other
  · exact .inr rfl
  · exact .inl rfl
  · exact .inl rfl
  · exact .inr rfl

theorem Media.receipt_steady (h : HeldSlot) : (m.receipt env st h).steady = m.steady := by
  unfold Media.receipt
  split <;> rfl

theorem Media.finish_released (c : Chunk) : m.steady.Released (m.finish env st c).steady := by
  unfold Media.finish
  split
  · rw [Media.receipt_steady]
    exact .refl _
  · exact m.returnBuffer_released _

theorem Media.finishAll_released (cs : List Chunk) : m.steady.Released (m.finishAll env st cs).steady := by
  induction cs generalizing m with
  | nil => exact .refl _
  | cons c cs ih => exact (m.finish_released env st c).trans (ih _)

theorem Media.finishAll_empty {cs : List Chunk} {c : Chunk} {id : BufferId} (mem : c ∈ cs) (source : c.source = .buffer id) :
    (m.finishAll env st cs).steady.buffer id = .empty := by
  induction cs generalizing m with
  | nil => exact absurd mem List.not_mem_nil
  | cons d cs ih =>
    rcases List.mem_cons.mp mem with rfl | later
    · refine (Media.finishAll_released (m.finish env st c) env st cs).empty ?_
      rw [Media.finish, source]
      exact m.returnBuffer_empty id
    · exact ih (m.finish env st d) later

theorem Media.receipts_steady (l : List HeldSlot) : (l.foldl (fun m h => m.receipt env st h) m).steady = m.steady := by
  induction l generalizing m with
  | nil => rfl
  | cons h l ih => rw [List.foldl_cons, ih, Media.receipt_steady]

theorem Media.handOver_of_returns {m : Media} (id : BufferId) (returns : m.writer.returnsBuffers = true) :
    m.handOver id = m.returnBuffer id :=
  if_pos returns

/-- A flush of a writer that returns buffers returns the one that is FILLING with records. -/
theorem Media.flush_released {m : Media} (returns : m.writer.returnsBuffers = true) : m.steady.Released m.flush.steady := by
  unfold Media.flush
  split
  · split
    · exact .refl _
    · rw [Media.handOver_of_returns _ returns]
      exact m.returnBuffer_released _
  · exact .refl _

theorem Media.flush_empty {m : Media} {id : BufferId} (returns : m.writer.returnsBuffers = true)
    (fills : m.steady.filling = some id) (records : (m.steady.buffer id).records ≠ []) : m.flush.steady.buffer id = .empty := by
  have some : ¬(m.steady.buffer id).records.isEmpty = true := mt List.isEmpty_iff.mp records
  rw [Media.flush, fills]
  dsimp only
  rw [if_neg some, Media.handOver_of_returns _ returns]
  exact m.returnBuffer_empty id
end

/-! ### What is held, abandoned (R128, R129) -/

section
variable {m : Media} (env : Env)

/-- The media blocks with the parked and the admitted chunks abandoned, before the slots held for no chunk. -/
def Media.chunksAbandoned (m : Media) (env : Env) : Media :=
  (m.dropParked env .abandoned).dropAdmitted env .abandoned

/-- The media blocks with every receipt given, before the flush. -/
def Media.heldAbandoned (m : Media) (env : Env) : Media :=
  (m.chunksAbandoned env).writer.held.foldl (fun m h => m.receipt env .abandoned h) (m.chunksAbandoned env)

theorem Media.abandonHeld_eq : m.abandonHeld env = (m.heldAbandoned env).flush := rfl

theorem Media.heldAbandoned_writer : (m.heldAbandoned env).writer = { m.writer with
    parked := [], queue := [], wip := none, held := [] } := by
  have none : ∀ l : List HeldSlot, (l.filter fun h => !l.contains h) = [] := fun l =>
    List.filter_eq_nil_iff.mpr fun h mem => by simpa using mem
  rw [Media.heldAbandoned, Media.receipts_held, none, Media.chunksAbandoned, Media.dropAdmitted_writer, Media.dropParked_writer]

theorem Media.abandonHeld_writer_of_returns (returns : m.writer.returnsBuffers = true) : (m.abandonHeld env).writer = { m.writer with
    parked := [], queue := [], wip := none, held := [] } := by
  have still : (m.heldAbandoned env).writer.returnsBuffers = true := by
    rw [Media.heldAbandoned_writer]
    exact returns
  have queue : (m.heldAbandoned env).flushedQueue = [] := by
    have empty : (m.heldAbandoned env).writer.queue = [] := by rw [Media.heldAbandoned_writer]
    unfold Media.flushedQueue
    split
    · rw [if_pos (.inr still), empty]
    · exact empty
  rw [Media.abandonHeld_eq, Media.flush_writer, queue, Media.heldAbandoned_writer]

theorem Media.abandonHeld_receipted (running : m.exch.state = .running) (returns : m.writer.returnsBuffers = true) :
    ∀ h ∈ m.writer.held, (m.abandonHeld env).exch.Holds (receiptRecord h .abandoned) := by
  have start : m.Receipted m.writer.held .abandoned := fun h mem => .inl mem
  have parked := start.dropParked env running
  have running₁ := (m.dropParked_extends env .abandoned).state.trans running
  have admitted := parked.dropAdmitted env running₁
  have running₂ := ((m.dropParked env .abandoned).dropAdmitted_extends env .abandoned).state.trans running₁
  have all : (m.heldAbandoned env).Receipted m.writer.held .abandoned := admitted.receipts env running₂ _
  intro h mem
  rw [Media.abandonHeld_eq, Media.flush_exch]
  rcases all h mem with stays | issued
  · rw [Media.heldAbandoned_writer] at stays
    exact absurd stays List.not_mem_nil
  · exact issued

/-- The buffers of the chunks dropped and the one that is FILLING with records are returned. -/
theorem Media.abandonHeld_buffers (returns : m.writer.returnsBuffers = true) {id : BufferId}
    (h : (∃ k ∈ m.writer.admitted ++ m.writer.parked, k.source = .buffer id) ∨
      (m.steady.filling = some id ∧ (m.steady.buffer id).records ≠ [])) : (m.abandonHeld env).steady.buffer id = .empty := by
  have still : (m.heldAbandoned env).writer.returnsBuffers = true := by
    rw [Media.heldAbandoned_writer]
    exact returns
  have parked : m.steady.Released (m.dropParked env .abandoned).steady := Media.finishAll_released _ _ _ _
  have admitted : (m.dropParked env .abandoned).steady.Released (m.chunksAbandoned env).steady := Media.finishAll_released _ _ _ _
  have held : (m.heldAbandoned env).steady = (m.chunksAbandoned env).steady := Media.receipts_steady _ _ _ _
  have flushed := Media.flush_released still
  rw [held] at flushed
  rw [Media.abandonHeld_eq]
  rcases h with ⟨c, mem, source⟩ | ⟨fills, records⟩
  · rcases List.mem_append.mp mem with inQueue | inParked
    · have queued : c ∈ (m.dropParked env .abandoned).writer.admitted := by
        rw [Media.dropParked_writer]
        exact inQueue
      exact flushed.empty (Media.finishAll_empty _ _ _ queued source)
    · exact (admitted.trans flushed).empty (Media.finishAll_empty _ _ _ inParked source)
  · rcases (parked.trans admitted).filling fills with empty | ⟨goesOn, same⟩
    · exact flushed.empty empty
    · refine Media.flush_empty still ?_ ?_
      · rw [held]
        exact goesOn
      · rw [held, same]
        exact records
end

end Sys2Proof.Machine
end

section
/-! PROOFS. The detect line, insertions and removals, and the lines of the port (R128, R136, R137, R139, R146). -/

namespace Sys2Proof.Machine

/-! ### A removal at the writer (R100, R128) -/

section
variable {m : Media} (env : Env)

/-- The writer has a card to lose: it is in no state that a removal leaves alone. -/
theorem Media.cardGone_of_present (unmounted : m.writer.state ≠ .unmounted) (lost : m.writer.state ≠ .cardLost)
    (halted : m.writer.state ≠ .halted) :
    m.cardGone env = (((m.enter .cardLost).abandonHeld env).failAll env .noCard).dropVolume := by
  unfold Media.cardGone
  split
  case h_7 h => exact absurd h halted
  case h_8 h => exact absurd h unmounted
  case h_9 h => exact absurd h lost
  all_goals rfl

theorem Media.cardGone_of_halted (halted : m.writer.state = .halted) : m.cardGone env = m.dropVolume := by
  rw [Media.cardGone, halted]

theorem Media.cardGone_of_absent (h : m.writer.state = .unmounted ∨ m.writer.state = .cardLost) : m.cardGone env = m := by
  rcases h with h | h <;> rw [Media.cardGone, h]

theorem Media.lost_returns (m : Media) : (m.enter .cardLost).writer.returnsBuffers = true := rfl

/-- The writer once the card has gone. -/
theorem Media.cardGone_writer (unmounted : m.writer.state ≠ .unmounted) (lost : m.writer.state ≠ .cardLost)
    (halted : m.writer.state ≠ .halted) :
    (m.cardGone env).writer = { (m.writer.enter .cardLost).clearClose.dropTables with
      parked := [], queue := [], wip := none, held := [], waiting := [], stopSlots := [], unmounting := none
      hostReset := false, readBack := none, job := none } := by
  rw [Media.cardGone_of_present env unmounted lost halted, Media.dropVolume_writer, Media.failAll_writer,
    Media.abandonHeld_writer_of_returns env m.lost_returns]
  rfl

section
variable (unmounted : m.writer.state ≠ .unmounted) (lost : m.writer.state ≠ .cardLost) (halted : m.writer.state ≠ .halted)
include unmounted lost halted

theorem Media.cardGone_parts : (m.cardGone env).writer.state = .cardLost ∧ (m.cardGone env).writer.mounted = false ∧
    (m.cardGone env).writer.tables = none ∧ (m.cardGone env).writer.updates = [] ∧ (m.cardGone env).writer.held = [] ∧
    (m.cardGone env).writer.parked = [] ∧ (m.cardGone env).writer.queue = [] ∧ (m.cardGone env).writer.wip = none ∧
    (m.cardGone env).writer.waiting = [] ∧ (m.cardGone env).writer.stopSlots = [] ∧
    (m.cardGone env).writer.unmounting = none ∧ (m.cardGone env).writer.readBack = none ∧
    (m.cardGone env).writer.job = none := by
  rw [Media.cardGone_writer env unmounted lost halted]
  exact ⟨rfl, rfl, rfl, rfl, rfl, rfl, rfl, rfl, rfl, rfl, rfl, rfl, rfl⟩

/-- The buffers of the chunks dropped, and one that is FILLING with records, are returned. -/
theorem Media.cardGone_buffers {id : BufferId} (dropped : (∃ k ∈ m.writer.admitted ++ m.writer.parked, k.source = .buffer id) ∨
    (m.steady.filling = some id ∧ (m.steady.buffer id).records ≠ [])) : (m.cardGone env).steady.buffer id = .empty := by
  rw [Media.cardGone_of_present env unmounted lost halted]
  rw [Media.dropVolume_steady, Media.failAll_steady]
  exact Media.abandonHeld_buffers (m := m.enter .cardLost) env m.lost_returns dropped

/-- While the exchange runs, every held edition receives ABANDONED, and every request that waits is answered. -/
theorem Media.cardGone_answered (running : m.exch.state = .running) :
    (m.cardGone env).exch.working = m.exch.working ∧
    (∀ h ∈ m.writer.held, (m.cardGone env).exch.Holds (receiptRecord h .abandoned)) ∧
    (∀ slot ∈ m.writer.waitingSlots ++ m.writer.stopSlots ++ m.writer.unmounting.getD [],
      (m.cardGone env).exch.Answered slot (.failed .noCard)) ∧
    (∀ r : ReadBack, m.writer.readBack = some r →
      (m.cardGone env).exch.Answered r.slot ((Answer.failed .noCard).withData (toLe 4 r.copied))) ∧
    (∀ j : VolumeJob, m.writer.job = some j → (m.cardGone env).exch.Answered j.slot (.failed .noCard)) := by
  have abandoned := (m.enter .cardLost).abandonHeld_extends env
  have still : ((m.enter .cardLost).abandonHeld env).exch.state = .running := abandoned.state.trans running
  have failed := ((m.enter .cardLost).abandonHeld env).failAll_extends env .noCard
  obtain ⟨slots, read, job⟩ := Media.failAll_answered env .noCard still
  rw [Media.abandonHeld_writer_of_returns env m.lost_returns] at slots read job
  rw [Media.cardGone_of_present env unmounted lost halted, Media.dropVolume_exch]
  exact ⟨(abandoned.trans failed).working running, fun h mem =>
    failed.records _ (Media.abandonHeld_receipted (m := m.enter .cardLost) env running m.lost_returns h mem), slots, read, job⟩
end
end

/-! ### The card after a removal (R140, R146) -/

/-- A slot without a card: no run and no claim waits. -/
structure Card.Bare (c : Card) : Prop where
  state : c.state = .absent
  run : c.run = none
  volume : c.volume = none
  chunk : c.chunk = none
  readBack : c.readBack = none

theorem Card.remove_bare (c : Card) : c.remove.Bare := ⟨rfl, rfl, rfl, rfl, rfl⟩

theorem Card.Bare.withdraw {c : Card} (h : c.Bare) (cls : ClaimClass) : (c.withdraw cls).Bare := by
  obtain ⟨state, run, volume, chunk, readBack⟩ := h
  cases cls
  · exact ⟨state, Option.map_eq_none_iff.mpr run, rfl, chunk, readBack⟩
  · exact ⟨state, Option.map_eq_none_iff.mpr run, volume, rfl, readBack⟩
  · exact ⟨state, Option.map_eq_none_iff.mpr run, volume, chunk, rfl⟩

theorem Card.Bare.withdrawAll {c : Card} (h : c.Bare) : c.withdrawAll.Bare :=
  ((h.withdraw .volume).withdraw .chunk).withdraw .readBack

section
variable (m : Media) (env : Env)

theorem Media.answerAll_card (slots : List Nat) (a : Answer) : (m.answerAll env slots a).card = m.card :=
  foldl_writer Media.card (fun m slot => m.answer env slot a) (fun _ _ => rfl) slots m

theorem Media.receipt_card (st : ReceiptStatus) (h : HeldSlot) : (m.receipt env st h).card = m.card := by
  unfold Media.receipt
  split <;> rfl

theorem Media.abandonHeld_card : (m.abandonHeld env).card = m.card := by
  rw [Media.abandonHeld_eq, Media.flush_card, Media.heldAbandoned,
    foldl_writer Media.card _ (fun m h => m.receipt_card env .abandoned h)]
  exact (Media.finishAll_card _ _ _ _).trans (Media.finishAll_card _ _ _ _)

theorem Media.endReadBack_card (a : Answer) :
    (m.endReadBack env a).card = m.card ∨ (m.endReadBack env a).card = m.card.withdraw .readBack := by
  unfold Media.endReadBack
  split
  · exact .inl rfl
  · exact .inr rfl

theorem Media.endJob_card (a : Answer) : (m.endJob env a).card = m.card := by
  unfold Media.endJob
  split <;> rfl

theorem Media.failAll_card (r : FailReason) :
    (m.failAll env r).card = m.card ∨ (m.failAll env r).card = m.card.withdraw .readBack := by
  have waiting : (m.waitingFailed env r).card = m.card :=
    (Media.answerAll_card _ _ _ _).trans (Media.answerAll_card _ _ _ _)
  rw [Media.failAll_eq, Media.endJob_card, ← waiting]
  exact Media.endReadBack_card _ _ _

theorem Media.cardGone_bare {m : Media} (bare : m.card.Bare) : (m.cardGone env).card.Bare := by
  by_cases absent : m.writer.state = .unmounted ∨ m.writer.state = .cardLost
  · rwa [Media.cardGone_of_absent env absent]
  obtain ⟨unmounted, lost⟩ := not_or.mp absent
  by_cases halted : m.writer.state = .halted
  · rw [Media.cardGone_of_halted env halted]
    exact bare.withdrawAll
  · rw [Media.cardGone_of_present env unmounted lost halted, Media.dropVolume_card]
    have kept : ((m.enter .cardLost).abandonHeld env).card = m.card := Media.abandonHeld_card _ _
    rcases ((m.enter .cardLost).abandonHeld env).failAll_card env .noCard with same | withdrawn
    · rw [same, kept]
      exact bare.withdrawAll
    · rw [withdrawn, kept]
      exact (bare.withdraw .readBack).withdrawAll

/-- The capacity, the detect level and the totals stay at a removal. -/
theorem Media.cardGone_kept : (m.cardGone env).card.capacity = m.card.capacity ∧ (m.cardGone env).card.detect = m.card.detect ∧
    (m.cardGone env).card.debounce = m.card.debounce ∧ (m.cardGone env).card.removals = m.card.removals := by
  have same : (m.cardGone env).card.rest = m.card.rest := congrArg (fun x => x.2.2) (m.cardGone_rest env)
  have kept : ∀ {α : Type} (f : Card → α), f (m.cardGone env).card.rest = f m.card.rest := fun f => by rw [same]
  exact ⟨kept Card.capacity, kept Card.detect, kept Card.debounce, kept Card.removals⟩

theorem Media.cardGone_flagSet (f : AttnFlag) : (m.cardGone env).exch.flagSet f = m.exch.flagSet f := by
  have same : (m.cardGone env).exch.rest = m.exch.rest := congrArg Prod.fst (m.cardGone_rest env)
  have attn : (m.cardGone env).exch.attn = m.exch.attn := by
    show (m.cardGone env).exch.rest.attn = m.exch.rest.attn
    rw [same]
  rw [Exchange.flagSet, attn]
  rfl
end

/-! ### Edges and debounces of the detect line (R137, R146) -/

theorem exec_detectEdge (s : State) (present : Bool) : exec (.detectEdge present) s =
    .next { s with media := { s.media with card := s.media.card.lineEdge s.railOn s.clock.count present } } := rfl

section
variable {s : State}

theorem Card.accepted_of_due {c : Card} {present : Bool} {start now : Stamp} (debounce : c.debounce = some (present, start))
    (due : 50000 ≤ (now - start).toInt) : c.accepted now = some present := by
  rw [Card.accepted, debounce]
  exact if_pos ((reached_iff _ _ _).mpr due)

theorem Card.accepted_of_early {c : Card} {present : Bool} {start now : Stamp} (debounce : c.debounce = some (present, start))
    (early : ¬50000 ≤ (now - start).toInt) : c.accepted now = none := by
  rw [Card.accepted, debounce]
  exact if_neg (mt (reached_iff _ _ _).mp early)

theorem exec_detectDebounceExpiry_of_none (h : s.media.card.accepted s.clock.count = none) :
    exec .detectDebounceExpiry s = .next s.settle := by
  show Host.Outcome.next s.detectDebounce.settle = _
  rw [State.detectDebounce, State.now, h]

theorem exec_detectDebounceExpiry_of_in (h : s.media.card.accepted s.clock.count = some true) :
    exec .detectDebounceExpiry s = .next ({ s with media := s.media.cardNews (s.media.card.insert s.clock.count) } : State).settle := by
  show Host.Outcome.next s.detectDebounce.settle = _
  rw [State.detectDebounce, State.now, h]
  rfl

theorem exec_detectDebounceExpiry_of_out (h : s.media.card.accepted s.clock.count = some false) :
    exec .detectDebounceExpiry s = .next ({ s with media := s.media.takeOut s.env } : State).settle := by
  show Host.Outcome.next s.detectDebounce.settle = _
  rw [State.detectDebounce, State.now, h]
  rfl
end

theorem Media.cardNews_of_quiet {m : Media} {c : Card} (h : ¬(c.state ≠ m.card.state ∧ (c.state = .absent ∨ c.state = .fault ∨
    (c.state = .ready ∧ m.card.state ≠ .busy)))) : m.cardNews c = { m with card := c } :=
  if_neg h

theorem Media.cardNews_of_news {m : Media} {c : Card} (h : c.state ≠ m.card.state ∧ (c.state = .absent ∨ c.state = .fault ∨
    (c.state = .ready ∧ m.card.state ≠ .busy))) : m.cardNews c = ({ m with card := c } : Media).raise .card :=
  if_pos h

theorem Card.insert_of_absent {c : Card} (now : Stamp) (absent : c.state = .absent) : c.insert now =
    ({ c with detect := true, debounce := none } : Card).identify now false :=
  if_pos absent

/-- The media blocks as a card has been taken out, before the writer hears of it. -/
def Media.cardRemoved (m : Media) : Media :=
  ({ m with card := ({ m.card with detect := false, debounce := none } : Card).remove } : Media).raise .card

theorem Media.takeOut_of_present {m : Media} (env : Env) (h : m.card.state ≠ .absent) :
    m.takeOut env = m.cardRemoved.cardGone env := by
  have news : (m.modCard fun c => { c with detect := false, debounce := none }).cardNews
      (m.modCard fun c => { c with detect := false, debounce := none }).card.remove = m.cardRemoved :=
    Media.cardNews_of_news ⟨Ne.symm h, .inl rfl⟩
  rw [Media.takeOut, if_neg (by exact h), news]

/-! ### The lines (R136) -/

section
variable (c : Card)

theorem Card.lines_of_absent {c : Card} (h : c.state = .absent) : c.lines = ⟨true, false, false⟩ :=
  if_pos h

theorem Card.lines_of_present {c : Card} (h : c.state ≠ .absent) : c.lines = ⟨c.exchange.isNone, false, true⟩ :=
  if_neg h

theorem Card.lines_clockHigh : c.lines.clockHigh = false := by
  by_cases h : c.state = .absent
  · rw [Card.lines_of_absent h]
  · rw [Card.lines_of_present h]

theorem Card.byteLines_length (b : Byte) : (c.byteLines b).length = 17 := rfl

theorem Card.sendLines_cons (b : Byte) (bs : List Byte) : c.sendLines (b :: bs) = c.byteLines b ++ c.sendLines bs := rfl

theorem Card.sendLines_length (bs : List Byte) : (c.sendLines bs).length = 17 * bs.length := by
  induction bs with
  | nil => rfl
  | cons b bs ih =>
    rw [Card.sendLines_cons, List.length_append, ih, Card.byteLines_length, List.length_cons]
    omega

theorem Card.byteLines_getLast? (b : Byte) : (c.byteLines b).getLast? = some c.lines := by
  rw [Card.byteLines, List.getLast?_append]
  rfl

/-- The select line stands at one level while bytes are sent. -/
theorem Card.sendLines_select {bs : List Byte} {l : PortLines} (h : l ∈ c.sendLines bs) : l.selectHigh = c.lines.selectHigh := by
  obtain ⟨b, -, inByte⟩ := List.mem_flatMap.mp h
  rcases List.mem_append.mp inByte with inBits | rest
  · obtain ⟨bit, -, inBit⟩ := List.mem_flatMap.mp inBits
    rcases List.mem_cons.mp inBit with rfl | second
    · rfl
    · rw [List.mem_singleton.mp second]
  · rw [List.mem_singleton.mp rest]

/-- The level of the outgoing line where the clock is high. -/
def PortLines.sampled (l : PortLines) : Option Bool :=
  if l.clockHigh then some l.dataHigh else none

theorem Card.bitsLines_sampled (bits : List Bool) : (bits.flatMap c.bitLines).filterMap PortLines.sampled = bits := by
  induction bits with
  | nil => rfl
  | cons b bits ih =>
    rw [List.flatMap_cons, List.filterMap_append, ih]
    rfl

/-- Sampled at the high clock, the bytes sent are the bits in their order. -/
theorem Card.sendLines_sampled (bs : List Byte) : (c.sendLines bs).filterMap PortLines.sampled = serialBits bs := by
  have rest : [c.lines].filterMap PortLines.sampled = [] := by
    rw [List.filterMap_cons, PortLines.sampled, c.lines_clockHigh]
    rfl
  induction bs with
  | nil => rfl
  | cons b bs ih =>
    rw [Card.sendLines_cons, List.filterMap_append, ih, Card.byteLines, List.filterMap_append, rest, List.append_nil,
      Card.bitsLines_sampled, serialBits_cons]
end

section
variable {c : Card}

theorem Card.exchange_of_ident {step : IdentStep} (free : c.stopOwed = false) (ident : c.ident = some step) :
    c.exchange = step.exchange := by
  rw [Card.exchange, if_neg (by rw [free]; exact Bool.false_ne_true), ident]

theorem Card.exchange_of_run {r : Run} (free : c.stopOwed = false) (ident : c.ident = none) (run : c.run = some r) :
    c.exchange = some r.exchange := by
  rw [Card.exchange, if_neg (by rw [free]; exact Bool.false_ne_true), ident, run]
  rfl

theorem Card.exchange_of_idle (free : c.stopOwed = false) (ident : c.ident = none) (run : c.run = none) : c.exchange = none := by
  rw [Card.exchange, if_neg (by rw [free]; exact Bool.false_ne_true), ident, run]
  rfl
end

theorem CardExchange.command_length (e : CardExchange) : e.command.length = 6 := by
  cases e <;> rfl

/-- An exchange that begins: its select line falls from high, and its command's bytes follow. -/
theorem Card.turnLines_of_begun {before c : Card} {e : CardExchange} (began : before.exchanges < c.exchanges)
    (present : c.state ≠ .absent) (exchange : c.exchange = some e) :
    ∃ rest : List PortLines, before.turnLines c = ⟨true, false, true⟩ :: rest ∧ (∀ l ∈ rest, l.selectHigh = false) ∧
      rest.length = 1 + 17 * 6 ∧ rest.filterMap PortLines.sampled = serialBits e.command := by
  have lines : c.lines = ⟨false, false, true⟩ := by
    rw [Card.lines_of_present present, exchange]
    rfl
  refine ⟨c.lines :: c.sendLines e.command, ?_, fun l mem => ?_, ?_, ?_⟩
  · rw [Card.turnLines, if_pos began, Card.beginLines, exchange]
    rfl
  · rcases List.mem_cons.mp mem with rfl | sent
    · rw [lines]
    · rw [c.sendLines_select sent, lines]
  · rw [List.length_cons, c.sendLines_length, CardExchange.command_length]
  · rw [List.filterMap_cons, PortLines.sampled, c.lines_clockHigh]
    exact c.sendLines_sampled _

/-- The bytes of a command: its index with 40h, the argument high byte first, and 01h. -/
theorem cardCommand_bytes {index argument : Nat} (small : index < 192) (fits : argument < 4294967296) :
    (cardCommand index argument).length = 6 ∧ (byteAt (cardCommand index argument) 0).toNat = 0x40 + index ∧
      beNat (cardCommand index argument) 1 4 = argument ∧ byteAt (cardCommand index argument) 5 = 0x01 := by
  refine ⟨rfl, ?_, ?_, rfl⟩
  · show (BitVec.ofNat 8 (0x40 + index)).toNat = _
    rw [BitVec.toNat_ofNat]
    omega
  · show (((0 * 256 + (BitVec.ofNat 8 (argument / 16777216)).toNat) * 256 + (BitVec.ofNat 8 (argument / 65536)).toNat) * 256 +
      (BitVec.ofNat 8 (argument / 256)).toNat) * 256 + (BitVec.ofNat 8 argument).toNat = argument
    simp only [BitVec.toNat_ofNat]
    omega

end Sys2Proof.Machine

namespace Sys2Proof.Proofs
open Sys2Proof.Machine

/-- Settles O33: an edge by the rail, a debounce by its level and the card state, a removal by the writer's state, and the lines by
the exchange in progress. -/
theorem detect : Obligations.Detect := by
  refine ⟨?_, ?_, ?_, ?_⟩
  · intro s present c
    refine ⟨fun on => ?_, fun off => ?_⟩
    · rw [exec_detectEdge, s.railOn_iff.mpr on]
      rfl
    · rw [exec_detectEdge, s.not_railOn_iff.mpr off]
      rfl
  · intro s start c due w
    refine ⟨fun debounce passed absent => ?_, fun debounce passed present => ?_, fun none => ?_, fun present debounce early => ?_⟩
    · rw [exec_detectDebounceExpiry_of_in (Card.accepted_of_due debounce passed), Card.insert_of_absent _ absent,
        Media.cardNews_of_quiet]
      · rfl
      · rintro ⟨-, h | h | ⟨h, -⟩⟩ <;> exact CardState.noConfusion h
    · refine ⟨_, exec_detectDebounceExpiry_of_out (Card.accepted_of_due debounce passed), ?_⟩
      rw [Media.takeOut_of_present s.env present]
      obtain ⟨state, run, volume, chunk, readBack⟩ := Media.cardGone_bare (m := s.media.cardRemoved) s.env (Card.remove_bare _)
      obtain ⟨capacity, level, debounce, removals⟩ := s.media.cardRemoved.cardGone_kept s.env
      refine ⟨rfl, state, capacity, level, debounce, run, volume, chunk, readBack, removals,
        (Media.cardGone_flagSet _ _ _).trans (Exchange.raise_flagSet _ _), fun present => ?_, fun halted => ?_, fun absent => ?_⟩
      · have kept : s.media.cardRemoved.writer.state = w := rfl
        have other : w ≠ .unmounted ∧ w ≠ .cardLost ∧ w ≠ .halted := by
          rcases present with h | h | h | h | h | h <;> rw [h] <;> exact ⟨WriterState.noConfusion, WriterState.noConfusion,
            WriterState.noConfusion⟩
        rw [Media.cardGone_writer s.env (by rw [kept]; exact other.1) (by rw [kept]; exact other.2.1)
          (by rw [kept]; exact other.2.2)]
        exact ⟨rfl, rfl, rfl⟩
      · rw [Media.cardGone_of_halted s.env (by exact halted)]
        exact ⟨halted, rfl, rfl⟩
      · rw [Media.cardGone_of_absent s.env (by exact absent)]
        rfl
    · exact exec_detectDebounceExpiry_of_none (by rw [Card.accepted, none]; rfl)
    · exact exec_detectDebounceExpiry_of_none (Card.accepted_of_early debounce early)
  · intro m env w x answered
    refine ⟨Media.cardGone_of_absent env, fun halted => ?_, fun unmounted lost halted => ?_⟩
    · dsimp only [x]
      rw [Media.cardGone_of_halted env halted]
      exact ⟨m.dropVolume_exch, m.dropVolume_steady, m.dropVolume_writer⟩
    · obtain ⟨state, mounted, tables, updates, held, parked, queue, wip, waiting, stops, unmounts, reads, job⟩ :=
        Media.cardGone_parts env unmounted lost halted
      refine ⟨state, mounted, tables, updates, held, parked, queue, wip, waiting, stops, unmounts, reads, job,
        fun id => Media.cardGone_buffers env unmounted lost halted, fun running => ?_⟩
      obtain ⟨working, receipts, slots, read, job⟩ := Media.cardGone_answered env unmounted lost halted running
      dsimp only [answered, x]
      rw [← working]
      exact ⟨receipts, slots, read, job⟩
  · intro c now recovery
    refine ⟨?_, Card.lines_of_absent, Card.lines_of_present, fun owed => ?_, fun step free ident => ?_, fun r free ident run => ?_,
      fun free ident run => ?_, fun before e began present exchange => ?_, fun step asks => ?_, fun e index argument table fits => ?_,
      c.byteLines_getLast?, fun bs other => ⟨c.sendLines_length bs, ?_⟩⟩
    · exact ⟨rfl, rfl, fun l mem => Card.sendLines_select _ mem, rfl⟩
    · exact if_pos owed
    · rw [Card.exchange_of_ident free ident]
      cases step <;> rfl
    · rw [Card.exchange_of_run free ident run, Run.exchange]
      cases r.phase <;> rfl
    · rw [Card.exchange_of_idle free ident run]
    · exact Card.turnLines_of_begun began present exchange
    · cases step
      case wake => exact absurd rfl asks
      all_goals rfl
    · rcases table with ⟨rfl, rfl, rfl⟩ | ⟨rfl, rfl, rfl⟩ | ⟨rfl, rfl, rfl⟩ | ⟨rfl, rfl, rfl⟩ | ⟨rfl, rfl⟩ | ⟨rfl, rfl⟩ |
        ⟨rfl, rfl, rfl⟩ <;> exact cardCommand_bytes (by omega) fits
    · exact takenBytes_serialBits (fun _ => rfl) bs

end Sys2Proof.Proofs
end

section
/-! PROOFS. The rail cut, SHUTTING and the stored block (R31, R77, R127, R137, R146, R181, R184, R187, R191). -/

namespace Sys2Proof.Machine

/-! ### The rail cut (R184, R185) -/

/-- The power state that a cut of the rail leads to (R180, R184). -/
def State.offState (s : State) : PowerState :=
  if s.idleOutside then .dormant else .standby

theorem State.offState_eq (s : State) : s.offState =
    if s.charge.usb.state = .absent ∧ s.charge.aux.state = .absent ∧ s.power.key.state = .up then .dormant else .standby :=
  if_congr s.idleOutside_iff rfl rfl

theorem State.offState_cases (s : State) : s.offState = .dormant ∨ s.offState = .standby := by
  unfold State.offState
  split
  · exact .inl rfl
  · exact .inr rfl

theorem State.offState_not_run (s : State) : s.offState ≠ .run := by
  rcases s.offState_cases with h | h <;> rw [h] <;> exact PowerState.noConfusion

theorem State.offState_not_shutting (s : State) : s.offState ≠ .shutting := by
  rcases s.offState_cases with h | h <;> rw [h] <;> exact PowerState.noConfusion

theorem State.offState_rail (s : State) : s.offState.rail = false := by
  rcases s.offState_cases with h | h <;> rw [h] <;> rfl

section
variable {s : State} (on : s.power.state = .run ∨ s.power.state = .shutting)
include on

theorem State.rail_of_on : s.power.state.rail = true := by
  rcases on with h | h <;> rw [h] <;> rfl

/-- From RUN and SHUTTING the rail goes off with the power state. -/
theorem State.cutRail_of_on : s.cutRail = (s.powerChanged s.offState).railOff := by
  show s.setPower s.offState = _
  rw [State.setPower_of_not_run _ _ s.offState_not_run]
  rcases (s.powerChanged s.offState).railChanged_cases s.power.state s.offState with ⟨_, _, h⟩ | ⟨off, _⟩ | ⟨same, _⟩
  · exact h
  · exact absurd (State.rail_of_on on) (by rw [off]; exact Bool.false_ne_true)
  · rw [State.rail_of_on on, s.offState_rail] at same
    cases same

theorem State.cutRail_power : s.cutRail.power = s.power.change s.offState s.options.fastSettle := by
  rw [State.cutRail_of_on on, State.railOff_power]
  rfl

theorem State.cutRail_key : s.cutRail.power.key = s.power.key.interrupt := by
  rw [State.cutRail_power on]
  show powerKeyAt s.power.state s.offState s.power.key = _
  rcases s.offState_cases with h | h <;> rw [h]
  · rfl
  · exact if_pos (State.rail_of_on on)

/-- The change of power state ends a SHUTTING: no cause and no close limit is left. -/
theorem State.cutRail_ends : s.cutRail.power.cause = .none ∧ s.cutRail.power.closeTarget = none := by
  rw [State.cutRail_power on]
  exact ⟨if_neg s.offState_not_shutting, if_neg s.offState_not_shutting⟩
end

theorem State.cutRail_count (s : State) : s.cutRail.clock.count = s.clock.count :=
  s.setPower_count _

theorem Key.interrupt_state (k : Key) : k.interrupt.state = .up ∨ k.interrupt.state = .long := by
  unfold Key.interrupt
  split
  case isTrue up => exact .inl up
  case isFalse => exact .inr rfl

/-! ### The media blocks as the rail goes off (R137, R146, R191) -/

section
variable (m : Media) (env : Env)

/-- The card news of an emptied slot raise CARD only. -/
theorem Media.cardNews_flagSet_other (c : Card) {f : AttnFlag} (other : f ≠ .card) :
    (m.cardNews c).exch.flagSet f = m.exch.flagSet f := by
  unfold Media.cardNews
  split
  · exact Exchange.raise_flagSet_other _ other
  · rfl

theorem Media.cardNews_steady (c : Card) : (m.cardNews c).steady = m.steady := by
  unfold Media.cardNews
  split <;> rfl

theorem Media.cardGone_steady_rest : (m.cardGone env).steady.rest = m.steady.rest :=
  congrArg (fun x => x.2.1) (m.cardGone_rest env)

theorem Media.railOffCard_of_absent {m : Media} (h : m.card.state = .absent) :
    m.railOffCard env = m.modCard fun c => { c with detect := false, debounce := none } := by
  rw [Media.railOffCard, if_pos h]

theorem Media.railOffCard_of_present {m : Media} (h : m.card.state ≠ .absent) : m.railOffCard env =
    ((m.cardNews m.card.remove).cardGone env).modCard fun c => { c with detect := false, debounce := none } := by
  rw [Media.railOffCard, if_neg h]

/-- The slot is empty once its supply has gone, and no run begins. -/
theorem Media.railOffCard_card : (m.railOffCard env).card.state = .absent ∧
    ∀ r, (m.railOffCard env).card.run = some r → m.card.run = some r := by
  by_cases absent : m.card.state = .absent
  · rw [Media.railOffCard_of_absent env absent]
    exact ⟨absent, fun _ => id⟩
  · rw [Media.railOffCard_of_present env absent]
    have bare : ((m.cardNews m.card.remove).cardGone env).card.Bare :=
      Media.cardGone_bare env (by rw [Media.cardNews_card]; exact m.card.remove_bare)
    refine ⟨bare.state, fun r run => ?_⟩
    have none : ((m.cardNews m.card.remove).cardGone env).card.run = some r := run
    rw [bare.run] at none
    cases none

theorem Media.railOffCard_flagSet {f : AttnFlag} (other : f ≠ .card) :
    (m.railOffCard env).exch.flagSet f = m.exch.flagSet f := by
  by_cases absent : m.card.state = .absent
  · rw [Media.railOffCard_of_absent env absent]
    rfl
  · rw [Media.railOffCard_of_present env absent]
    exact (Media.cardGone_flagSet _ _ _).trans (m.cardNews_flagSet_other _ other)

theorem Media.railOffCard_steady_rest : (m.railOffCard env).steady.rest = m.steady.rest := by
  by_cases absent : m.card.state = .absent
  · rw [Media.railOffCard_of_absent env absent]
    rfl
  · rw [Media.railOffCard_of_present env absent]
    exact (Media.cardGone_steady_rest _ _).trans (congrArg Steady.rest (m.cardNews_steady _))

/-- A writer that is HALTED stays so as the card's supply goes. -/
theorem Media.railOffCard_halted {m : Media} (halted : m.writer.state = .halted) : (m.railOffCard env).writer.state = .halted := by
  by_cases absent : m.card.state = .absent
  · rw [Media.railOffCard_of_absent env absent]
    exact halted
  · rw [Media.railOffCard_of_present env absent]
    have still : (m.cardNews m.card.remove).writer.state = .halted := by
      rw [Media.cardNews_writer]
      exact halted
    show ((m.cardNews m.card.remove).cardGone env).writer.state = .halted
    rw [Media.cardGone_of_halted env still, Media.dropVolume_writer]
    exact still
end

/-! ### Intake as the rail goes off (R31, log 69) -/

/-- Intake ends as the rail goes off: at once, at the end of a burst that is in flight, or not at all. -/
def State.IntakeCut (s x : State) : Prop :=
  (s.motion.state ≠ .running → x.motion = s.motion ∧ x.integ = s.integ) ∧
  (s.motion.state = .running → s.motion.activity = .burst →
    x.motion = { s.motion with stopWaiting := true } ∧ x.integ = s.integ) ∧
  (s.motion.state = .running → s.motion.activity ≠ .burst → x.motion = { s.motion with
      state := .ready, stopWaiting := false, missed := 0, prevStamp := none, seedWaiting := false, stillRun := 0
      stopSlots := [] } ∧
    x.integ = { s.integ with state := .idle } ∧ x.media.steady.state = .idle ∧ x.media.steady.frames = [] ∧
    x.incident.shockRun = 0 ∧ x.incident.runPeak = 0)

section
variable {s : State}

theorem State.railOffMotion_of_not_running (h : s.motion.state ≠ .running) : s.railOffMotion = s :=
  if_neg h

theorem State.railOffMotion_of_burst (running : s.motion.state = .running) (burst : s.motion.activity = .burst) :
    s.railOffMotion = s.modMotion fun p => { p with stopWaiting := true } := by
  rw [State.railOffMotion, if_pos running, if_pos burst]

theorem State.railOffMotion_of_no_burst (running : s.motion.state = .running) (burst : s.motion.activity ≠ .burst) :
    s.railOffMotion = s.stopIntake := by
  rw [State.railOffMotion, if_pos running, if_neg burst]

theorem State.railOff_steady_rest (s : State) : s.railOff.media.steady.rest = s.railOffMotion.media.steady.rest :=
  Media.railOffCard_steady_rest _ _

theorem State.railOffMotion_card (s : State) : s.railOffMotion.media.card = s.media.card := by
  by_cases running : s.motion.state = .running
  · by_cases burst : s.motion.activity = .burst
    · rw [State.railOffMotion_of_burst running burst]
      rfl
    · rw [State.railOffMotion_of_no_burst running burst, State.stopIntake_eq]
      exact Media.answerAll_card _ _ _ _
  · rw [State.railOffMotion_of_not_running running]

theorem State.railOff_intakeCut (s : State) : s.IntakeCut s.railOff := by
  have motion : s.railOff.motion = s.railOffMotion.motion := rfl
  have integ : s.railOff.integ = s.railOffMotion.integ := rfl
  have incident : s.railOff.incident = s.railOffMotion.incident := rfl
  refine ⟨fun stopped => ?_, fun running burst => ?_, fun running burst => ?_⟩
  · rw [motion, integ, State.railOffMotion_of_not_running stopped]
    exact ⟨rfl, rfl⟩
  · rw [motion, integ, State.railOffMotion_of_burst running burst]
    exact ⟨rfl, rfl⟩
  · have over_ := State.railOffMotion_of_no_burst running burst
    have steady : s.railOff.media.steady.rest = s.media.steady.stop.rest := by
      rw [State.railOff_steady_rest, over_, State.stopIntake_eq]
      exact congrArg Steady.rest (Media.answerAll_steady _ _ _ _)
    have kept : ∀ {α : Type} (f : Steady → α), f s.railOff.media.steady.rest = f s.media.steady.stop.rest := fun f => by
      rw [steady]
    rw [motion, integ, incident, over_]
    exact ⟨rfl, rfl, kept Steady.state, kept Steady.frames, rfl, rfl⟩

theorem State.railOffMotion_key (s : State) : s.railOffMotion.incident.key = s.incident.key := by
  by_cases running : s.motion.state = .running
  · by_cases burst : s.motion.activity = .burst
    · rw [State.railOffMotion_of_burst running burst]
      rfl
    · rw [State.railOffMotion_of_no_burst running burst]
      rfl
  · rw [State.railOffMotion_of_not_running running]
end

/-! ### A rail cut as a whole -/

/-- What a cut of the rail leaves, from RUN and from SHUTTING. -/
structure State.RailCut (s x : State) : Prop where
  power : x.power = s.power.change s.offState s.options.fastSettle
  key : x.power.key = s.power.key.interrupt
  ends : x.power.cause = .none ∧ x.power.closeTarget = none
  count : x.clock.count = s.clock.count
  gauge : x.gauge.warning = s.gauge.warning
  link : x.media.LinkDown
  card : x.media.card.state = .absent
  run : ∀ r, x.media.card.run = some r → s.media.card.run = some r
  flag : x.media.exch.flagSet .gauge = false
  mark : x.incident.key.state = .up
  halted : s.media.writer.state = .halted → x.media.writer.state = .halted
  intake : s.IntakeCut x

theorem State.cutRail_railCut {s : State} (on : s.power.state = .run ∨ s.power.state = .shutting) : s.RailCut s.cutRail where
  power := State.cutRail_power on
  key := State.cutRail_key on
  ends := State.cutRail_ends on
  count := s.cutRail_count
  gauge := by
    rw [State.cutRail_of_on on, State.railOff_gauge]
    rfl
  link := by
    rw [State.cutRail_of_on on]
    exact State.railOff_linkDown _
  card := by
    rw [State.cutRail_of_on on]
    exact (Media.railOffCard_card _ _).1
  run := by
    intro r run
    rw [State.cutRail_of_on on] at run
    have before := (Media.railOffCard_card _ _).2 r run
    have card : ((s.powerChanged s.offState).railOffMotion.modExch Exchange.shut).media.card = s.media.card :=
      State.railOffMotion_card _
    rwa [card] at before
  flag := by
    rw [State.cutRail_of_on on]
    exact (Media.railOffCard_flagSet _ _ AttnFlag.noConfusion).trans (by simp [Exchange.flagSet, Exchange.shut])
  mark := by
    rw [State.cutRail_of_on on]
    show (s.powerChanged s.offState).railOffMotion.incident.key.state = .up
    rw [State.railOffMotion_key]
    show (markKeyAt s.power.state s.offState s.incident.key).state = .up
    rw [markKeyAt, if_neg (by rw [s.offState_rail]; simp)]
    rfl
  halted := by
    intro halted
    rw [State.cutRail_of_on on]
    have writer : ((s.powerChanged s.offState).railOffMotion.modExch Exchange.shut).media.writer = s.media.writer :=
      State.railOffMotion_writer _
    exact Media.railOffCard_halted _ (by rw [writer]; exact halted)
  intake := by
    rw [State.cutRail_of_on on]
    exact State.railOff_intakeCut (s.powerChanged s.offState)

/-! ### The writer's report and the close limit (R107, R184) -/

section
variable {s : State}

theorem State.settleMedia_inputs (s : State) : s.settleMedia.charge.usb = s.charge.usb ∧ s.settleMedia.charge.aux = s.charge.aux := by
  obtain ⟨cap, ic, heard, -⟩ := s.charge.hear_frame s.options (s.media.settle s.env).writer.recordingReport
    (s.media.settle s.env).writer.recordingOrClosing
  have charge : s.settleMedia.charge = _ := heard
  rw [charge]
  exact ⟨rfl, rfl⟩

theorem State.settleMedia_power (s : State) : s.settleMedia.power = s.power := rfl

theorem State.settleMedia_offState (s : State) : s.settleMedia.offState = s.offState := by
  rw [State.offState_eq, State.offState_eq, s.settleMedia_inputs.1, s.settleMedia_inputs.2, State.settleMedia_power]

/-- No report stands: nothing more follows. -/
theorem State.settle_of_no_report (h : s.settleMedia.media.writer.idleReport = false) : s.settle = s.settleMedia.clearReport := by
  rw [State.settle, State.takeReport, if_neg (by rw [h]; exact fun both => Bool.false_ne_true both.1)]

/-- A report that stands in SHUTTING once the media blocks have settled ends it. -/
theorem State.settle_of_report (shutting : s.power.state = .shutting) (h : s.settleMedia.media.writer.idleReport = true) :
    s.settle = s.settleMedia.cutRail.settleMedia.clearReport := by
  rw [State.settle, State.takeReport, if_pos ⟨h, shutting⟩]

theorem State.closeLimitDue_iff {target : Stamp} (limit : s.power.closeTarget = some target) :
    s.closeLimitDue = true ↔ s.power.state = .shutting ∧ 0 ≤ (s.clock.count - target).toInt := by
  rw [State.closeLimitDue, limit, Bool.and_eq_true, decide_eq_true_iff]
  exact and_congr_right fun _ => reached_iff _ _ _

theorem exec_closeLimitExpiry (s : State) :
    exec .closeLimitExpiry s = .next (if s.closeLimitDue then s.cutRail.settle else s) := rfl

theorem exec_shutdown {h : Handed} (next : s.media.exch.nextRequest .power = some h) (kind : h.request = .shutdown) :
    exec .shutdown s = .next ((s.requestTaken .power).takeShutdown h ()).settle := by
  show Host.Outcome.next (s.onRequest .power Request.asShutdown State.takeShutdown).settle = _
  rw [State.onRequest_of_next (a := ()) _ next (by rw [kind]; rfl)]
  rfl

theorem State.takeShutdown_of_run (h : Handed) (run : s.power.state = .run) :
    s.takeShutdown h () = (s.answer h.slot .done).enterShutting .request :=
  if_pos run

theorem State.takeShutdown_of_not_run (h : Handed) (off : s.power.state ≠ .run) : s.takeShutdown h () = s.answer h.slot .done :=
  if_neg off

theorem closeLimit_request (reserveHeld : Bool) : closeLimit reserveHeld .request = if reserveHeld then 1000000 else 5000000 := by
  cases reserveHeld <;> rfl

theorem Media.shutdownClose_extends (m : Media) (env : Env) : m.exch.Extends (m.shutdownClose env).exch :=
  m.closeBegin_extends env .shutdown

/-- A writer that has nothing to close reports at once. -/
theorem Media.shutdownClose_report {m : Media} (env : Env) (h : m.writer.state = .idle ∨ m.writer.state = .unmounted) :
    (m.shutdownClose env).writer.idleReport = true := by
  have quiet : m.closeBegin env .shutdown = m :=
    Media.closeBegin_of_not_recording env .shutdown (by rcases h with h | h <;> rw [h] <;> exact WriterState.noConfusion)
  show ((m.closeBegin env .shutdown).writer.idleReport ||
    decide ((m.closeBegin env .shutdown).writer.state = .idle ∨ (m.closeBegin env .shutdown).writer.state = .unmounted)) = true
  rw [quiet, decide_eq_true h, Bool.or_true]

/-- SHUTTING as a request enters it. -/
theorem State.enterShutting_outcome (run : s.power.state = .run) :
    let x := s.enterShutting .request
    x.power.state = .shutting ∧ x.power.cause = .request ∧ x.power.record = { s.power.record with lastShutdown := .request } ∧
      x.power.closeTarget = some (stampAdd s.clock.count (if s.power.reserveHeld then 1000000 else 5000000 : Nat)) ∧
      x.power.key.hold = none ∧ (s.media.writer.state = .recording →
        x.media.writer.state = .closing ∧ x.media.writer.closeCause = some .shutdown) ∧
      (s.media.writer.state = .idle ∨ s.media.writer.state = .unmounted → x.media.writer.idleReport = true) := by
  obtain ⟨power, -, -, -, -, -, media⟩ := State.enterShutting_of_run .request run
  intro x
  rw [power, media, closeLimit_request]
  exact ⟨rfl, rfl, rfl, rfl, Key.interrupt_hold _, Media.shutdownClose_closing _, Media.shutdownClose_report _⟩

/-! ### The stored block (R187) -/

theorem exec_storeChargeOptions {h : Handed} (next : s.media.exch.nextRequest .power = some h)
    (kind : h.request = .storeChargeOptions) :
    exec .storeChargeOptions s = .next ((s.requestTaken .power).takeStore h ()) := by
  show Host.Outcome.next (s.onRequest .power Request.asStore State.takeStore) = _
  rw [State.onRequest_of_next (a := ()) _ next (by rw [kind]; rfl)]
  rfl

theorem State.takeStore_of_refused (h : Handed) (refused : s.power.storing.isSome = true ∨ s.gauge.warning = true) :
    s.takeStore h () = s.answer h.slot .refusedState :=
  if_pos refused

theorem State.takeStore_of_free (h : Handed) (free : ¬(s.power.storing.isSome = true ∨ s.gauge.warning = true)) :
    s.takeStore h () = s.modPower fun p => { p with storing := some ⟨storedBlock s.options, some h.slot⟩ } :=
  if_neg free

theorem exec_storeWriteComplete (s : State) (matched : Bool) : exec (.storeWriteComplete matched) s = .next (s.storeEnd matched) :=
  rfl

theorem State.storeEnd_of_storing {st : Storing} (h : s.power.storing = some st) (matched : Bool) : s.storeEnd matched =
    (s.modPower fun p => p.stored st matched).answerAll st.slot.toList (if matched then .done else .failed .store) := by
  rw [State.storeEnd, h]
end

end Sys2Proof.Machine

namespace Sys2Proof.Proofs
open Sys2Proof.Machine

/-- Settles O45: SHUTTING entered in RUN, the rail cut at the close limit, and the report that ends it. -/
theorem shutdown : Obligations.Shutdown := by
  refine ⟨?_, ?_, ?_, fun _ _ => rfl, fun _ => rfl⟩
  · intro s slot stamp next t
    refine ⟨fun run => ?_, fun off => ?_⟩
    · obtain ⟨power, clock, motion, -, charge, -, media⟩ :=
        State.enterShutting_of_run (s := (s.requestTaken .power).answer slot .done) .request run
      intro x
      refine ⟨?_, fun k worked running => ?_, ?_⟩
      · rw [exec_shutdown next rfl, State.takeShutdown_of_run _ (by exact run)]
        rfl
      · have answer := (s.requestTaken .power).media.exch.answer_extends s.env.now slot .done
        have given := (s.requestTaken .power).media.exch.answer_answered s.env.now slot .done running
        have close := Media.shutdownClose_extends ((s.requestTaken .power).answer slot .done).media s.env
        have media' : x.media = _ := media
        rw [media']
        have still := (answer.trans close).working running
        exact close.answered (answer.state.trans running) given k (still ▸ worked)
      · obtain ⟨state, cause, record, limit, hold, closing, report⟩ :=
          State.enterShutting_outcome (s := (s.requestTaken .power).answer slot .done) run
        exact ⟨state, cause, record, limit, hold, closing, report,
          (congrArg Clock.count clock).trans (Clock.powerChange_count _ _), motion, charge⟩
    · rw [exec_shutdown next rfl, State.takeShutdown_of_not_run _ (by exact off)]
      rfl
  · intro s target limit
    refine ⟨fun shutting due => ?_, fun early => ?_⟩
    · have cut := State.cutRail_railCut (.inr shutting)
      obtain ⟨state, run, period, enables, lo, hi, pickup, detect, debounce⟩ := cut.link
      refine ⟨s.cutRail, ?_, ?_, cut.ends.1, cut.ends.2, state, ?_, ?_, pickup, cut.card, detect, cut.mark, ?_, ?_, cut.count, ?_,
        cut.intake⟩
      · rw [exec_closeLimitExpiry, if_pos ((State.closeLimitDue_iff limit).mpr ⟨shutting, due⟩)]
      · rw [cut.power, ← State.offState_eq]
        rfl
      · rw [Exchange.control, run, period, enables]
        rfl
      · rw [Exchange.base, lo, hi]
        rfl
      · rw [cut.key, Key.interrupt_hold]
      · rw [cut.key]
        exact Key.interrupt_state _
      · rw [cut.power]
        rfl
    · rw [exec_closeLimitExpiry, if_neg]
      rw [State.closeLimitDue_iff limit]
      rintro ⟨shutting, due⟩
      rcases early with off | before
      · exact off shutting
      · omega
  · intro s shutting t
    refine ⟨State.settle_of_no_report, fun report => ?_⟩
    have whole := State.settle_of_report shutting report
    have cut := State.cutRail_railCut (s := s.settleMedia) (.inr shutting)
    have power : s.settle.power = s.settleMedia.cutRail.power := by
      rw [whole]
      rfl
    refine ⟨whole, ?_, ?_, ?_⟩
    · rw [power, cut.power, ← State.offState_eq]
      exact s.settleMedia_offState
    · rw [power, cut.ends.1]
    · rw [power, cut.ends.2]

/-- Settles O46: the block captured or refused, and the end of its write. -/
theorem storeOptions : Obligations.StoreOptions := by
  refine ⟨?_, fun s bytes slot storing => ⟨?_, ?_⟩⟩
  · intro s slot stamp next t
    refine ⟨fun free calm => ?_, fun refused => ?_⟩
    · rw [exec_storeChargeOptions next rfl, State.takeStore_of_free]
      · rfl
      · rintro (busy | warned)
        · exact absurd busy (by show ¬s.power.storing.isSome = true; rw [free]; exact Bool.false_ne_true)
        · exact absurd (calm.symm.trans warned) Bool.false_ne_true
    · rw [exec_storeChargeOptions next rfl, State.takeStore_of_refused]
      · rfl
      · exact refused.imp (fun busy => Option.isSome_iff_ne_none.mpr busy) id
  · rw [exec_storeWriteComplete, State.storeEnd_of_storing storing]
    rfl
  · rw [exec_storeWriteComplete, State.storeEnd_of_storing storing]
    rfl

end Sys2Proof.Proofs
end

section
/-! PROOFS. The supply warning: a writer that halts, and the rail cut (R129, R147, R176, R185). -/

namespace Sys2Proof.Machine

/-! ### What a writer that halts gives up (R100, R129) -/

section
variable (m : Media) (env : Env)

/-- The media as the halt begins: the drops counted, the claims withdrawn, the update in flight listed again. -/
def Media.haltStart (m : Media) : Media :=
  (((m.modWriter fun w => w.addDrops (hostCount w.admitted)).enter .halted).modCard Card.withdrawAll).modWriter
    Writer.restoreFlight

theorem Media.halted_eq : m.halted env = (m.haltStart.abandonHeld env).failAll env .supply := rfl

theorem Writer.restoreFlight_frame (w : Writer) : w.restoreFlight = { w with
    flight := w.restoreFlight.flight, updates := w.restoreFlight.updates } := by
  unfold Writer.restoreFlight
  split <;> rfl

/-- The writer as the halt begins: its entry counts the drops, its chunks and requests are still there. -/
theorem Media.haltStart_writer : ∃ (u : List Nat) (f : Option VolumeFlight) (dirty : List Nat) (idle recording : Bool),
    m.haltStart.writer = { m.writer with
      state := .halted, tables := (m.writer.addDrops (hostCount m.writer.admitted)).tables
      updates := u, flight := f, mirrorDirty := dirty, idleReport := idle, recordingReport := recording } := by
  have writer : m.haltStart.writer = ((m.writer.addDrops (hostCount m.writer.admitted)).enter .halted).restoreFlight := rfl
  rw [writer, Writer.restoreFlight_frame, Writer.addDrops_frame]
  exact ⟨_, _, _, _, _, rfl⟩

theorem Media.haltStart_exch : m.haltStart.exch = m.exch := by
  simp only [Media.haltStart, Media.enter, Media.modCard, Media.modWriter]

theorem Media.haltStart_steady : m.haltStart.steady = m.steady := by
  simp only [Media.haltStart, Media.enter, Media.modCard, Media.modWriter]

theorem Media.haltStart_card : m.haltStart.card = m.card.withdrawAll := by
  simp only [Media.haltStart, Media.enter, Media.modCard, Media.modWriter]

theorem Media.haltStart_returns : m.haltStart.writer.returnsBuffers = true := by
  obtain ⟨u, f, dirty, idle, recording, writer⟩ := m.haltStart_writer
  rw [writer]
  rfl

/-- The drop count of the open clip rises by the host chunks admitted. -/
theorem Writer.addDrops_tables {w : Writer} {d : Tables} {i : Nat} (n : Nat) (tables : w.tables = some d)
    (index : w.openIndex = some i) : (w.addDrops n).tables =
      some { d with dir := d.dir.modify i (Option.map fun c => { c with drops := c.drops + n }) } := by
  by_cases none : n = 0
  · have same : (Option.map fun c : Clip => { c with drops := c.drops + 0 }) = id := by
      funext c
      cases c <;> rfl
    rw [Writer.addDrops, index, none, same, List.modify_id]
    exact tables
  · have open_ : w.openIndex = if w.mounted = true then d.openIndex else .none := by
      rw [Writer.openIndex, tables]
      rfl
    by_cases mounted : w.mounted = true
    · rw [open_, if_pos mounted] at index
      rw [Writer.addDrops_of_open n mounted tables index none]
    · rw [open_, if_neg mounted] at index
      cases index

theorem Writer.addDrops_of_closed {w : Writer} (n : Nat) (index : w.openIndex = none) : w.addDrops n = w := by
  rw [Writer.addDrops, index]

/-- The writer once it is HALTED, its chunks and its requests gone. -/
theorem Media.halted_writer_eq : ∃ (u : List Nat) (f : Option VolumeFlight) (dirty : List Nat) (idle recording : Bool),
    (m.halted env).writer = { m.writer.clearClose with
      state := .halted, tables := (m.writer.addDrops (hostCount m.writer.admitted)).tables
      updates := u, flight := f, mirrorDirty := dirty, idleReport := idle, recordingReport := recording
      parked := [], queue := [], wip := none, held := [], waiting := [], stopSlots := [], unmounting := none, hostReset := false
      readBack := none, job := none } := by
  obtain ⟨u, f, dirty, idle, recording, writer⟩ := m.haltStart_writer
  refine ⟨u, f, dirty, idle, recording, ?_⟩
  rw [Media.halted_eq, Media.failAll_writer, Media.abandonHeld_writer_of_returns env m.haltStart_returns, writer]
  rfl

theorem Card.withdraw_run (c : Card) (cls : ClaimClass) :
    (c.withdraw cls).run = c.run.map fun r => if r.cls = cls then { r with wanted := false } else r := by
  cases cls <;> rfl

theorem Card.withdrawAll_run (c : Card) : c.withdrawAll.run = c.run.map fun r => { r with wanted := false } := by
  rw [Card.withdrawAll, Card.withdraw_run, Card.withdraw_run, Card.withdraw_run]
  cases c.run with
  | none => rfl
  | some r => rcases cls : r.cls <;> simp [cls]

/-- No claim and no wanted run is left. -/
theorem Media.halted_card : (m.halted env).card.volume = none ∧ (m.halted env).card.chunk = none ∧
    (m.halted env).card.readBack = none ∧ (m.halted env).card.run = m.card.run.map fun r => { r with wanted := false } := by
  have start : (m.haltStart.abandonHeld env).card = m.card.withdrawAll :=
    (Media.abandonHeld_card _ _).trans m.haltStart_card
  rcases (m.haltStart.abandonHeld env).failAll_card env .supply with same | withdrawn
  · rw [Media.halted_eq, same, start]
    exact ⟨rfl, rfl, rfl, m.card.withdrawAll_run⟩
  · rw [Media.halted_eq, withdrawn, start]
    refine ⟨rfl, rfl, rfl, ?_⟩
    rw [Card.withdraw_run, Card.withdrawAll_run]
    cases m.card.run with
    | none => rfl
    | some r => exact congrArg some (ite_self _)

/-- The buffers of the chunks dropped, and one that is FILLING with records, are returned. -/
theorem Media.halted_buffers {m : Media} {id : BufferId} (dropped : (∃ k ∈ m.writer.admitted ++ m.writer.parked, k.source = .buffer id) ∨
    (m.steady.filling = some id ∧ (m.steady.buffer id).records ≠ [])) : (m.halted env).steady.buffer id = .empty := by
  obtain ⟨u, f, dirty, idle, recording, writer⟩ := m.haltStart_writer
  rw [Media.halted_eq, Media.failAll_steady]
  refine Media.abandonHeld_buffers env m.haltStart_returns ?_
  rw [writer, m.haltStart_steady]
  exact dropped

/-- While the exchange runs, every held edition receives ABANDONED, and every request that waits is answered. -/
theorem Media.halted_answered {m : Media} (running : m.exch.state = .running) :
    (m.halted env).exch.working = m.exch.working ∧
    (∀ h ∈ m.writer.held, (m.halted env).exch.Holds (receiptRecord h .abandoned)) ∧
    (∀ slot ∈ m.writer.waitingSlots ++ m.writer.stopSlots ++ m.writer.unmounting.getD [],
      (m.halted env).exch.Answered slot (.failed .supply)) ∧
    (∀ r : ReadBack, m.writer.readBack = some r →
      (m.halted env).exch.Answered r.slot ((Answer.failed .supply).withData (toLe 4 r.copied))) ∧
    (∀ j : VolumeJob, m.writer.job = some j → (m.halted env).exch.Answered j.slot (.failed .supply)) := by
  obtain ⟨u, f, dirty, idle, recording, writer⟩ := m.haltStart_writer
  have start : m.haltStart.exch.state = .running := by rw [m.haltStart_exch, running]
  have abandoned := m.haltStart.abandonHeld_extends env
  have failed := (m.haltStart.abandonHeld env).failAll_extends env .supply
  have receipts := Media.abandonHeld_receipted env start m.haltStart_returns
  obtain ⟨slots, read, job⟩ := Media.failAll_answered (m := m.haltStart.abandonHeld env) env .supply (abandoned.state.trans start)
  rw [Media.abandonHeld_writer_of_returns env m.haltStart_returns, writer] at slots read job
  rw [writer] at receipts
  rw [Media.halted_eq, ← m.haltStart_exch]
  exact ⟨(abandoned.trans failed).working start, fun h mem => failed.records _ (receipts h mem), slots, read, job⟩
end

section
variable {m : Media} (env : Env) (h : m.writer.state ≠ .halted)
include h

/-- A writer that halts with no mount or format in progress keeps its volume. -/
theorem Media.halt_of_no_job (job : m.writer.job = none) : m.halt env = m.halted env := by
  rw [Media.halt_of_not_halted env h, if_neg (by rw [job]; exact Bool.false_ne_true)]

theorem Media.halt_of_job (job : m.writer.job ≠ none) : m.halt env = (m.halted env).dropVolume := by
  rw [Media.halt_of_not_halted env h, if_pos (Option.isSome_iff_ne_none.mpr job)]

theorem Media.halt_exch : (m.halt env).exch = (m.halted env).exch := by
  by_cases job : m.writer.job = none
  · rw [Media.halt_of_no_job env h job]
  · rw [Media.halt_of_job env h job, Media.dropVolume_exch]

theorem Media.halt_steady : (m.halt env).steady = (m.halted env).steady := by
  by_cases job : m.writer.job = none
  · rw [Media.halt_of_no_job env h job]
  · rw [Media.halt_of_job env h job, Media.dropVolume_steady]

theorem Media.halt_card : (m.halt env).card.volume = none ∧ (m.halt env).card.chunk = none ∧
    (m.halt env).card.readBack = none ∧ (m.halt env).card.run = m.card.run.map fun r => { r with wanted := false } := by
  obtain ⟨volume, chunk, readBack, run⟩ := m.halted_card env
  by_cases job : m.writer.job = none
  · rw [Media.halt_of_no_job env h job]
    exact ⟨volume, chunk, readBack, run⟩
  · rw [Media.halt_of_job env h job, Media.dropVolume_card]
    refine ⟨rfl, rfl, rfl, ?_⟩
    rw [Card.withdrawAll_run, run]
    cases m.card.run <;> rfl

theorem Media.halt_parts : (m.halt env).writer.held = [] ∧ (m.halt env).writer.parked = [] ∧ (m.halt env).writer.queue = [] ∧
    (m.halt env).writer.wip = none ∧ (m.halt env).writer.waiting = [] ∧ (m.halt env).writer.stopSlots = [] ∧
    (m.halt env).writer.unmounting = none ∧ (m.halt env).writer.readBack = none ∧ (m.halt env).writer.job = none := by
  obtain ⟨u, f, dirty, idle, recording, writer⟩ := m.halted_writer_eq env
  by_cases job : m.writer.job = none
  · rw [Media.halt_of_no_job env h job, writer]
    exact ⟨rfl, rfl, rfl, rfl, rfl, rfl, rfl, rfl, rfl⟩
  · rw [Media.halt_of_job env h job, Media.dropVolume_writer, writer]
    exact ⟨rfl, rfl, rfl, rfl, rfl, rfl, rfl, rfl, rfl⟩

theorem Media.halt_volume_of_no_job (job : m.writer.job = none) : (m.halt env).writer.mounted = m.writer.mounted ∧
    (m.halt env).writer.tables = (m.writer.addDrops (hostCount m.writer.admitted)).tables := by
  obtain ⟨u, f, dirty, idle, recording, writer⟩ := m.halted_writer_eq env
  rw [Media.halt_of_no_job env h job, writer]
  exact ⟨rfl, rfl⟩
end

/-! ### The supply warning (R147, R176, R185) -/

section
variable {s : State}

theorem exec_supplyWarningAssert_of_off (off : s.gauge.warning = false) :
    exec .supplyWarningAssert s = .next s.warned.supplyCut.settle := by
  show Host.Outcome.next s.warningOn.settle = _
  rw [State.warningOn, if_neg (by rw [off]; exact Bool.false_ne_true), State.warn_eq]

theorem exec_supplyWarningAssert_of_on (on : s.gauge.warning = true) : exec .supplyWarningAssert s = .next s.settle := by
  show Host.Outcome.next s.warningOn.settle = _
  rw [State.warningOn, if_pos on]

theorem exec_supplyWarningRemove_of_on (on : s.gauge.warning = true) : exec .supplyWarningRemove s =
    .next (({ s with gauge := { s.gauge with warning := false } } : State).raise .gauge).settle := by
  show Host.Outcome.next s.warningOff.settle = _
  rw [State.warningOff, if_pos on]
  rfl

theorem exec_supplyWarningRemove_of_off (off : s.gauge.warning = false) : exec .supplyWarningRemove s = .next s.settle := by
  show Host.Outcome.next s.warningOff.settle = _
  rw [State.warningOff, if_neg (by rw [off]; exact Bool.false_ne_true)]

theorem State.supplyCut_of_shutting (shutting : s.power.state = .shutting) : s.supplyCut = s.cutRail := by
  rw [State.supplyCut, shutting]

/-- The state with SUPPLY as the last shutdown cause. -/
def State.supplyRecorded (s : State) : State :=
  { s with power := { s.power with record := { s.power.record with lastShutdown := .supply } } }

theorem State.supplyCut_of_run (run : s.power.state = .run) : s.supplyCut = s.supplyRecorded.cutRail := by
  rw [State.supplyCut, run]
  rfl

theorem Card.endRun_run (c : Card) (r : Run) (o : RunOutcome) (now : Stamp) : (c.endRun r o now).run = none := by
  unfold Card.endRun
  dsimp only
  split <;> rfl

/-- Only a read runs on. -/
theorem Card.supplyWarning_run (c : Card) (now : Stamp) {r : Run} (run : (c.supplyWarning now).run = some r) :
    r.claim.data = none := by
  unfold Card.supplyWarning at run
  split at run
  case h_1 before was =>
    split at run
    case isTrue =>
      rw [Card.endRun_run] at run
      cases run
    case isFalse reads =>
      rw [was] at run
      obtain rfl := Option.some.inj run
      exact Option.not_isSome_iff_eq_none.mp reads
  case h_2 was =>
    rw [was] at run
    cases run

theorem State.warned_run (s : State) {r : Run} (run : s.warned.media.card.run = some r) : r.claim.data = none :=
  Card.supplyWarning_run _ _ run

/-- The cut of the rail after the warning, from the state of the warning but for its reset record. -/
theorem State.warned_cut {t x : State} (media : t.media = s.warned.media) (gauge : t.gauge = s.warned.gauge)
    (count : t.clock.count = s.clock.count) (motion : t.motion = s.motion) (integ : t.integ = s.integ) (cut : t.RailCut x) :
    x.gauge.warning = true ∧ x.clock.count = s.clock.count ∧ x.media.writer.state = .halted ∧
      (∀ r : Run, x.media.card.run = some r → r.claim.data = none) ∧
      ((x.power.state = .standby ∨ x.power.state = .dormant) ∧ x.media.exch.state = .stopped ∧ x.media.card.state = .absent ∧
        x.media.exch.flagSet .gauge = false ∧ s.IntakeCut x) := by
  have intake := cut.intake
  have power : x.power.state = t.offState := congrArg Power.state cut.power
  rw [State.IntakeCut, motion, integ] at intake
  refine ⟨?_, cut.count.trans count, cut.halted (by rw [media]; exact s.warned_writer), fun r run => ?_, ?_, cut.link.1, cut.card,
    cut.flag, intake⟩
  · rw [cut.gauge, gauge]
    rfl
  · exact s.warned_run (by rw [← media]; exact cut.run r run)
  · rw [power]
    exact t.offState_cases.symm
end

end Sys2Proof.Machine

namespace Sys2Proof.Proofs
open Sys2Proof.Machine

/-- Settles O43: the warning by the power state, with the rail cut as in `State.RailCut`, and a writer that halts. -/
theorem supplyWarning : Obligations.SupplyWarning := by
  refine ⟨fun s => ⟨fun off => ?_, fun off => ?_, fun on => ?_, exec_supplyWarningRemove_of_off⟩, ?_⟩
  · intro t m u
    refine ⟨fun down => ?_, fun shutting => ?_, fun run => ?_⟩
    · rw [exec_supplyWarningAssert_of_off off, State.supplyCut_of_off (s := s.warned) (by exact down)]
      rfl
    · rw [exec_supplyWarningAssert_of_off off, State.supplyCut_of_shutting (s := s.warned) (by exact shutting)]
      rfl
    · rw [exec_supplyWarningAssert_of_off off, State.supplyCut_of_run (s := s.warned) (by exact run)]
      rfl
  · refine ⟨s.warned.supplyCut, exec_supplyWarningAssert_of_off off, ?_⟩
    have record : ∀ {t : State}, s.warned.supplyCut = t.cutRail → t.RailCut t.cutRail →
        s.warned.supplyCut.power.record = t.power.record := fun same cut => by rw [same, cut.power]; rfl
    have off_ : ∀ {p : PowerState}, s.power.state = p → p.rail = true →
        ¬(s.power.state = .standby ∨ s.power.state = .dormant ∨ s.power.state = .waking) := by
      rintro p rfl rail (h | h | h) <;> rw [h] at rail <;> cases rail
    by_cases run : s.power.state = .run
    · have same := State.supplyCut_of_run (s := s.warned) run
      have cut := State.cutRail_railCut (s := s.warned.supplyRecorded) (.inl run)
      obtain ⟨warning, count, halted, run_, ends⟩ := State.warned_cut (s := s) (t := s.warned.supplyRecorded) rfl rfl rfl rfl rfl cut
      have records := record same cut
      rw [same] at records ⊢
      exact ⟨warning, count, halted, run_, fun _ => ends, fun _ => records, fun down => absurd down (off_ run rfl)⟩
    · by_cases shutting : s.power.state = .shutting
      · have same := State.supplyCut_of_shutting (s := s.warned) shutting
        have cut := State.cutRail_railCut (s := s.warned) (.inr shutting)
        obtain ⟨warning, count, halted, run_, ends⟩ := State.warned_cut (s := s) rfl rfl rfl rfl rfl cut
        rw [same]
        exact ⟨warning, count, halted, run_, fun _ => ends, fun on => absurd on run, fun down => absurd down (off_ shutting rfl)⟩
      · have down : s.power.state = .standby ∨ s.power.state = .dormant ∨ s.power.state = .waking := by
          cases h : s.power.state
          case run => exact absurd h run
          case shutting => exact absurd h shutting
          all_goals simp
        rw [State.supplyCut_of_off (s := s.warned) down]
        exact ⟨rfl, rfl, s.warned_writer, fun _ => s.warned_run, fun on => absurd on (not_or.mpr ⟨run, shutting⟩), fun on => absurd on run,
          fun _ => ⟨rfl, s.warned_flag⟩⟩
  · exact ⟨exec_supplyWarningAssert_of_on on, exec_supplyWarningRemove_of_on on⟩
  · intro m env w x answered
    refine ⟨Media.halt_of_halted env, fun working => ?_⟩
    obtain ⟨held, parked, queue, wip, waiting, stops, unmounts, reads, jobs⟩ := Media.halt_parts env working
    obtain ⟨volume, chunk, readBack, run⟩ := Media.halt_card env working
    refine ⟨m.halt_state env, held, parked, queue, wip, waiting, stops, unmounts, reads, jobs, volume, chunk, readBack, run,
      fun job => ?_, fun job => (Media.halt_volume_of_no_job env working job).1, fun job closed => ?_,
      fun d i job tables index => ?_, fun id dropped => ?_, fun running => ?_⟩
    · dsimp only [x]
      rw [Media.halt_of_job env working job, Media.dropVolume_writer]
      exact ⟨rfl, rfl⟩
    · rw [(Media.halt_volume_of_no_job env working job).2, Writer.addDrops_of_closed _ closed]
    · rw [(Media.halt_volume_of_no_job env working job).2, Writer.addDrops_tables _ tables index]
    · dsimp only [x]
      rw [Media.halt_steady env working]
      exact Media.halted_buffers env dropped
    · obtain ⟨kept, receipts, slots, read, job⟩ := Media.halted_answered env running
      dsimp only [answered, x]
      rw [Media.halt_exch env working, ← kept]
      exact ⟨receipts, slots, read, job⟩

end Sys2Proof.Proofs
end

section
/-! PROOFS. The read-back of a clip (R133, R134). -/

namespace Sys2Proof.Machine

/-! ### Chains (R89) -/

theorem chainFrom_first (map : List MapEntry) (n : Nat) (first : Option Nat) :
    (chainFrom map n first)[0]? = if n = 0 then none else first := by
  cases n <;> cases first <;> rfl

/-- Each segment of a chain but the first is the link of the one before it. -/
theorem chainFrom_next (map : List MapEntry) (n : Nat) (first : Option Nat) (k : Nat) :
    (chainFrom map n first)[k + 1]? =
      if k + 1 < n then ((chainFrom map n first)[k]?).bind fun s => (mapAt map s).link else none := by
  induction n generalizing first k with
  | zero => rw [if_neg (Nat.not_lt_zero _)]; rfl
  | succ n ih =>
    cases first with
    | none => rw [show chainFrom map (n + 1) none = [] from rfl, List.getElem?_nil, List.getElem?_nil, Option.bind_none, ite_self]
    | some s =>
      have cons : chainFrom map (n + 1) (some s) = s :: chainFrom map n (mapAt map s).link := rfl
      rw [cons, List.getElem?_cons_succ]
      cases k with
      | zero =>
        rw [chainFrom_first, List.getElem?_cons_zero, Option.bind_some]
        by_cases empty : n = 0
        · rw [if_pos empty, if_neg (by omega)]
        · rw [if_neg empty, if_pos (by omega)]
      | succ k =>
        rw [ih, List.getElem?_cons_succ]
        exact if_congr (Nat.succ_lt_succ_iff).symm rfl rfl

/-! ### READ_BACK (R133) -/

theorem exec_readBack {s : State} {h : Handed} {clip offset length address : Nat}
    (next : s.media.exch.nextRequest .writer = some h) (kind : h.request = .readBack clip offset length address) :
    exec .readBack s = .next ((s.requestTaken .writer).setMedia
      ((s.requestTaken .writer).media.startReadBack s.env h.slot clip offset length address)).settle := by
  show Host.Outcome.next (s.onRequest .writer Request.asReadBack State.takeReadBack).settle = _
  rw [State.onRequest_of_next (a := (clip, offset, length, address)) _ next (by rw [kind]; rfl)]
  rfl

/-- The bounds that a read-back of a clip of so many bytes is refused for. -/
def badBounds (stored offset length address : Nat) : Prop :=
  offset % 512 ≠ 0 ∨ length % 512 ≠ 0 ∨ length = 0 ∨ 1048576 < length ∨ address % 4 ≠ 0 ∨ stored ≤ offset

section
variable {m : Media} (env : Env) (slot clip offset length address : Nat)

theorem Media.readBackFree_iff (m : Media) : (m.writer.takesClipRequests && m.writer.readBack.isNone) = true ↔
    (m.writer.state = .idle ∨ m.writer.state = .recording ∨ m.writer.state = .closing) ∧ m.writer.readBack = none := by
  rw [Bool.and_eq_true, Writer.takesClipRequests_iff, Option.isNone_iff_eq_none]

theorem Media.startReadBack_of_busy (busy : ¬(m.writer.takesClipRequests && m.writer.readBack.isNone) = true) :
    m.startReadBack env slot clip offset length address = m.answer env slot .refusedState :=
  if_neg busy

section
variable (free : (m.writer.takesClipRequests && m.writer.readBack.isNone) = true)
include free

theorem Media.startReadBack_of_unknown (index : m.writer.indexOf clip = none) :
    m.startReadBack env slot clip offset length address = m.answer env slot .refusedParam := by
  rw [Media.startReadBack, if_pos free, index]
  cases m.writer.tables <;> rfl

variable {i : Nat} {c : Clip} {d : Tables} (index : m.writer.indexOf clip = some i) (tables : m.writer.tables = some d)
  (entry : d.clipAt i = some c)
include index tables entry

theorem Media.startReadBack_of_bad (bad : badBounds (d.storedBytes c) offset length address) :
    m.startReadBack env slot clip offset length address = m.answer env slot .refusedParam := by
  have clip : m.writer.clipAt i = some c := by rw [Writer.clipAt, tables]; exact entry
  rw [Media.startReadBack, if_pos free, index, Option.bind_some, clip, tables]
  exact if_pos bad

theorem Media.startReadBack_of_good (good : ¬badBounds (d.storedBytes c) offset length address) :
    m.startReadBack env slot clip offset length address = m.modWriter fun w => { w with
      readBack := some ⟨slot, clip, offset, min length (d.storedBytes c - offset), address, 0, 0, .idle⟩ } := by
  have clip : m.writer.clipAt i = some c := by rw [Writer.clipAt, tables]; exact entry
  rw [Media.startReadBack, if_pos free, index, Option.bind_some, clip, tables]
  exact if_neg good
end
end

/-! ### Its pieces (R134) -/

section
variable {m : Media} (env : Env) {r : ReadBack}

/-- The read-back gone, its claim withdrawn and its copy in flight for nobody. -/
def Media.readBackGone (m : Media) : Media :=
  { m with
    writer := { m.writer with readBack := none }
    card := m.card.withdraw .readBack
    exch := m.exch.mapPurposes Purpose.withoutCopy }

theorem Media.endReadBack_of_reading (a : Answer) (reads : m.writer.readBack = some r) :
    m.endReadBack env a = m.readBackGone.answer env r.slot (a.withData (toLe 4 r.copied)) := by
  rw [Media.endReadBack, reads]
  rfl

theorem Media.pieceOutcome_of_ok (got : List Byte) : m.pieceOutcome env r .ok got =
    (m.modWriter fun w => { w with readBack := some { r with stage := .writing } }).modExch fun e =>
      e.issue env.now (.readBackWrite true) (r.address + r.copied) (some got) got.length :=
  if_pos rfl

theorem Media.pieceOutcome_of_failed {o : RunOutcome} (got : List Byte) (failed : o ≠ .ok) :
    m.pieceOutcome env r o got = m.endReadBack env (.failed .card) :=
  if_neg failed

theorem Media.nextPiece_of_unknown (reads : m.writer.readBack = some r) (idle : r.stage = .idle)
    (index : m.writer.indexOf r.clip = none) : m.nextPiece env = some (m.endReadBack env (.failed .clipGone)) := by
  rw [Media.nextPiece, reads]
  dsimp only
  rw [if_pos idle, index]
  cases m.writer.tables <;> rfl

theorem Media.nextPiece_of_present {d : Tables} {i : Nat} {c : Clip} {segment : Nat} (reads : m.writer.readBack = some r)
    (idle : r.stage = .idle) (tables : m.writer.tables = some d) (index : m.writer.indexOf r.clip = some i)
    (entry : d.clipAt i = some c) (place : (d.chain c)[r.next / d.perSegment]? = some segment) : m.nextPiece env =
    some ((m.modWriter fun w => { w with readBack := some { r with piece := d.pieceSectors r, stage := .reading } }).modCard fun c =>
      c.hand env .readBack ⟨d.geometry.segmentStart segment + 1 + r.next % d.perSegment / 512, d.pieceSectors r, none⟩) := by
  have clip : m.writer.clipAt i = some c := by rw [Writer.clipAt, tables]; exact entry
  rw [Media.nextPiece, reads]
  dsimp only
  rw [if_pos idle, index, Option.bind_some, clip, tables]
  dsimp only
  rw [place]

theorem Media.nextPiece_of_busy (reads : m.writer.readBack = some r) (busy : r.stage ≠ .idle) : m.nextPiece env = none := by
  rw [Media.nextPiece, reads]
  exact if_neg busy

theorem Media.pieceGone_of_unknown {claim : Claim} (reads : m.writer.readBack = some r) (waits : m.card.readBack = some claim)
    (index : m.writer.indexOf r.clip = none) : m.pieceGone env = some (m.endReadBack env (.failed .clipGone)) := by
  rw [Media.pieceGone, reads, waits]
  exact if_pos (by rw [index]; rfl)

theorem Media.pieceGone_of_present {i : Nat} (reads : m.writer.readBack = some r) (index : m.writer.indexOf r.clip = some i) :
    m.pieceGone env = none := by
  rw [Media.pieceGone, reads]
  cases m.card.readBack with
  | none => rfl
  | some c => exact if_neg (by rw [index]; exact Bool.false_ne_true)

/-- A piece that has gone comes before all else that follows. -/
theorem Media.follow_of_pieceGone {n : Media} (gone : m.pieceGone env = some n) : m.follow env = some n := by
  simp only [Media.follow, gone, Option.some_or]

/-- The read-back after a piece written. -/
def ReadBack.copiedOn (r : ReadBack) : ReadBack :=
  { r with
    next := r.next + r.piece * 512, left := r.left - r.piece * 512, copied := r.copied + r.piece * 512, stage := .idle }

theorem Media.pieceCopied_of_more (reads : m.writer.readBack = some r) (writing : r.stage = .writing)
    (more : r.piece * 512 < r.left) : m.pieceCopied env = m.modWriter fun w => { w with readBack := some r.copiedOn } := by
  rw [Media.pieceCopied, reads]
  dsimp only
  rw [if_pos writing, if_neg (by omega)]
  rfl

theorem Media.pieceCopied_of_last (reads : m.writer.readBack = some r) (writing : r.stage = .writing)
    (last : r.left ≤ r.piece * 512) :
    m.pieceCopied env = (m.modWriter fun w => { w with readBack := some r.copiedOn }).endReadBack env .done := by
  rw [Media.pieceCopied, reads]
  dsimp only
  rw [if_pos writing, if_pos (by omega)]
  rfl

theorem exec_readBackWriteComplete {s : State} {n : Nat}
    (purpose : (s.media.exch.transferAt n).map Transfer.purpose = some (.readBackWrite true)) :
    exec (.readBackWriteComplete n) s =
      .next ((s.modExch fun e => e.dropTransfer n).modMedia fun m => m.pieceCopied s.env).settle := by
  show Host.Outcome.next (s.readBackWritten n).settle = _
  rw [State.readBackWritten, purpose]
  rfl
end

end Sys2Proof.Machine

namespace Sys2Proof.Proofs
open Sys2Proof.Machine

/-- Settles O29: the request by its refusals, a piece by its stage, and the chain by its links. -/
theorem readBackRuns : Obligations.ReadBackRuns := by
  refine ⟨?_, ?_, ?_, fun t c k => ⟨chainFrom_first _ _ _, chainFrom_next _ _ _ _⟩⟩
  · intro s slot clip offset length address stamp next t w open_
    have free : open_ ↔ ((s.requestTaken .writer).media.writer.takesClipRequests &&
      (s.requestTaken .writer).media.writer.readBack.isNone) = true := (Media.readBackFree_iff _).symm
    refine ⟨fun busy => ?_, fun opens unknown => ?_, fun i c d opens index tables entry => ?_⟩
    · rw [exec_readBack next rfl, Media.startReadBack_of_busy _ _ _ _ _ _ (mt free.mpr busy)]
      rfl
    · rw [exec_readBack next rfl, Media.startReadBack_of_unknown _ _ _ _ _ _ (free.mp opens) (by exact unknown)]
      rfl
    · intro stored bad
      refine ⟨fun wrong => ?_, fun right => ?_⟩
      · rw [exec_readBack next rfl, Media.startReadBack_of_bad _ _ _ _ _ _ (free.mp opens) (by exact index) tables entry wrong]
        rfl
      · rw [exec_readBack next rfl, Media.startReadBack_of_good _ _ _ _ _ _ (free.mp opens) (by exact index) tables entry right]
        rfl
  · intro s n r purpose reads writing t
    refine ⟨fun more => ?_, fun last => ?_⟩
    · rw [exec_readBackWriteComplete purpose]
      have copied := Media.pieceCopied_of_more (m := t.media) s.env reads writing more
      show Host.Outcome.next (State.settle { t with media := t.media.pieceCopied s.env }) = _
      rw [copied]
      rfl
    · rw [exec_readBackWriteComplete purpose]
      have copied := Media.pieceCopied_of_last (m := t.media) s.env reads writing last
      show Host.Outcome.next (State.settle { t with media := t.media.pieceCopied s.env }) = _
      rw [copied, Media.endReadBack_of_reading (r := r.copiedOn) s.env .done rfl]
      rfl
  · intro m env r reads ended
    have end_ : ∀ reason, m.endReadBack env (.failed reason) = ended reason := fun reason =>
      Media.endReadBack_of_reading env _ reads
    refine ⟨fun got => Media.pieceOutcome_of_ok env got, fun o got failed => ?_, fun idle _ unknown => ?_, ?_, fun busy =>
      Media.nextPiece_of_busy env reads busy, fun c waits unknown => ?_, fun c i waits index =>
      Media.pieceGone_of_present env reads index⟩
    · rw [Media.pieceOutcome_of_failed env got failed, end_]
    · rw [Media.nextPiece_of_unknown env reads idle unknown, end_]
    · intro d i c segment perSegment sectors idle _ tables index entry place
      exact Media.nextPiece_of_present env reads idle tables index entry place
    · rw [Media.follow_of_pieceGone env (Media.pieceGone_of_unknown env reads waits unknown), end_]

end Sys2Proof.Proofs
end

section
/-! PROOFS. A clip started and stopped (R112, R121 to R125). -/

namespace Sys2Proof.Machine

/-! ### START_CLIP (R87, R121) -/

theorem exec_startClip {s : State} {h : Handed} {first : Nat} (next : s.media.exch.nextRequest .writer = some h)
    (kind : h.request = .startClip first) : exec .startClip s = .next ((s.requestTaken .writer).setMedia
      ((s.requestTaken .writer).media.startClip s.env h.slot first h.stamp)).settle := by
  show Host.Outcome.next (s.onRequest .writer Request.asStartClip State.takeStartClip).settle = _
  rw [State.onRequest_of_next (a := first) _ next (by rw [kind]; rfl)]
  rfl

/-- Admission as a clip starts: the limits of the profile, the sequence expected, and what an earlier clip left is gone. -/
def Writer.admitFrom (w : Writer) (p : VolumeProfile) (first : Nat) (pickup : Stamp) : Writer :=
  { w with
    limits := ⟨p.clipSeconds, p.gapWait, p.starvationSeconds⟩
    expected := first
    keyWait := true
    parked := []
    gapCount := 0
    gapFresh := false
    admissionStart := pickup
    starvation := some ⟨pickup, p.starvationSeconds * 1000000⟩
    current := none
    motionOrdinal := 0
    stopPending := none
    closeCause := none }

theorem Writer.enter_recording (w : Writer) : w.enter .recording = { w with state := .recording, recordingReport := true } := by
  have idle : decide ((WriterState.recording) = .idle ∨ WriterState.recording = .unmounted) = false := rfl
  rw [Writer.enter, idle, Bool.or_false, decide_eq_true (.inl rfl), Bool.or_true]

theorem Writer.enter_closing (w : Writer) : w.enter .closing = { w with state := .closing, recordingReport := true } := by
  have idle : decide ((WriterState.closing) = .idle ∨ WriterState.closing = .unmounted) = false := rfl
  rw [Writer.enter, idle, Bool.or_false, decide_eq_true (.inr rfl), Bool.or_true]

section
variable {m : Media} (env : Env) (slot first : Nat) (pickup : Stamp)

theorem Media.startClip_of_busy (busy : ¬(m.writer.state = .idle ∧ m.writer.reserveHeld = false)) :
    m.startClip env slot first pickup = m.answer env slot .refusedState :=
  if_neg busy

/-- A clip opens at an entry, and the answer waits for the header and the entry's sector. -/
theorem Media.startClip_of_opened {v : Writer} {i : Nat} (free : m.writer.state = .idle ∧ m.writer.reserveHeld = false)
    (opened : m.writer.open_ pickup = (v, some i)) : m.startClip env slot first pickup = { m with
      writer := { (v.admitFrom m.writer.profile first pickup).enter .recording with
        waiting := v.waiting ++ [⟨.request slot, [0, dirSector i]⟩] } } := by
  rw [Media.startClip]
  dsimp only
  rw [if_pos free, opened]
  rfl

theorem Media.startClip_of_full {v : Writer} (free : m.writer.state = .idle ∧ m.writer.reserveHeld = false)
    (full : m.writer.open_ pickup = (v, none)) :
    m.startClip env slot first pickup = ({ m with writer := v } : Media).answer env slot (.failed .directoryFull) := by
  rw [Media.startClip]
  dsimp only
  rw [if_pos free, full]
  rfl
end

theorem Writer.open_of_empty {w : Writer} {d : Tables} {i : Nat} (stamp : Stamp) (tables : w.tables = some d)
    (empty : d.emptyIndex = some i) : w.open_ stamp = (w.openAt i stamp, some i) := by
  simp only [Writer.open_, tables, Option.bind_some, empty]

theorem Writer.open_of_full {w : Writer} {d : Tables} (stamp : Stamp) (tables : w.tables = some d) (full : d.emptyIndex = none)
    (kept : d.oldest = none) : w.open_ stamp = (w, none) := by
  simp only [Writer.open_, tables, Option.bind_some, full, Writer.reclaim_of_none tables kept]

/-- The opening of a clip in the tables. -/
theorem Writer.openAt_of_tables {w : Writer} {d : Tables} (i : Nat) (stamp : Stamp) (tables : w.tables = some d) :
    w.openAt i stamp = { w with
      tables := some { d with
        dir := d.dir.set i (some (newClip d.nextClip stamp)), nextClip := numberAfter d.generation d.nextClip }
      updates := addOnce (addOnce w.updates 0) (dirSector i), mirrorDirty := addOnce w.mirrorDirty i
      current := none, motionOrdinal := 0, lastHostStamp := none, lastMotionStamp := none } := by
  simp only [Writer.openAt, Writer.modTables, tables, Option.map_some]
  rfl

/-! ### STOP_CLIP and the starvation wait (R123, R125) -/

theorem exec_stopClip {s : State} {h : Handed} {last : Option Nat} (next : s.media.exch.nextRequest .writer = some h)
    (kind : h.request = .stopClip last) : exec .stopClip s = .next ((s.requestTaken .writer).setMedia
      ((s.requestTaken .writer).media.stopClip s.env h.slot last)).settle := by
  show Host.Outcome.next (s.onRequest .writer Request.asStopClip State.takeStopClip).settle = _
  rw [State.onRequest_of_next (a := last) _ next (by rw [kind]; rfl)]
  rfl

section
variable {m : Media} (env : Env) (slot : Nat)

/-- The media blocks with one more request that waits for the stop. -/
def Media.stopAwaited (m : Media) (slot : Nat) : Media :=
  m.modWriter fun w => { w with stopSlots := w.stopSlots ++ [slot] }

/-- The media blocks with a last sequence set. -/
def Media.withLast (m : Media) (l : Nat) : Media :=
  m.modWriter fun w => { w with stopPending := some l }

theorem Media.stopClip_of_recording (last : Option Nat) (recording : m.writer.state = .recording) : m.stopClip env slot last =
    last.elim ((m.stopAwaited slot).closeBegin env .request) fun l => ((m.stopAwaited slot).withLast l).checkStop env := by
  rw [Media.stopClip, recording]
  cases last <;> rfl

theorem Media.stopClip_of_closing (last : Option Nat) (closing : m.writer.state = .closing) :
    m.stopClip env slot last = m.answer env slot { Answer.done with alreadyClosing := true } := by
  rw [Media.stopClip, closing]

theorem Media.stopClip_of_idle (last : Option Nat) (idle : m.writer.state = .idle) :
    m.stopClip env slot last = m.answer env slot .done := by
  rw [Media.stopClip, idle]

theorem Media.stopClip_of_other (last : Option Nat) (recording : m.writer.state ≠ .recording) (closing : m.writer.state ≠ .closing)
    (idle : m.writer.state ≠ .idle) : m.stopClip env slot last = m.answer env slot .refusedState := by
  unfold Media.stopClip
  split
  case h_1 h => exact absurd h recording
  case h_2 h => exact absurd h closing
  case h_3 h => exact absurd h idle
  all_goals rfl

theorem Media.checkStop_of_reached {l : Nat} (pending : m.writer.stopPending = some l) (passed : l < m.writer.expected) :
    m.checkStop env = m.closeBegin env .request := by
  rw [Media.checkStop, Writer.stopReached, pending]
  exact if_pos (decide_eq_true passed)

theorem Media.checkStop_of_early {l : Nat} (pending : m.writer.stopPending = some l) (early : m.writer.expected ≤ l) :
    m.checkStop env = m := by
  rw [Media.checkStop, Writer.stopReached, pending]
  exact if_neg (by rw [decide_eq_true_iff]; omega)
end

section
variable {s : State}

theorem State.starvation_of_due (recording : s.media.writer.state = .recording)
    (due : waitDue s.media.writer.starvation s.clock.count = true) :
    s.starvation = { s with media := s.media.closeBegin s.env .starved } :=
  if_pos ⟨recording, due⟩

theorem State.starvation_of_quiet (quiet : ¬(s.media.writer.state = .recording ∧
    waitDue s.media.writer.starvation s.clock.count = true)) : s.starvation = s :=
  if_neg quiet

theorem exec_starvationExpiry (s : State) : exec .starvationExpiry s = .next s.starvation.settle := rfl
end

/-! ### The close (R112, R124) -/

section
variable {m : Media}

theorem Media.flush_of_none (none : m.steady.filling = none) : m.flush = m := by
  rw [Media.flush, none]

theorem Media.flush_of_empty {id : BufferId} (fills : m.steady.filling = some id) (empty : (m.steady.buffer id).records = []) :
    m.flush = m := by
  rw [Media.flush, fills]
  exact if_pos (List.isEmpty_iff.mpr empty)

theorem Media.flush_of_records {id : BufferId} (fills : m.steady.filling = some id) (records : (m.steady.buffer id).records ≠ []) :
    m.flush = m.handOver id := by
  rw [Media.flush, fills]
  exact if_neg (mt List.isEmpty_iff.mp records)

theorem Media.handOver_of_keeps {id : BufferId} (keeps : m.writer.returnsBuffers = false) : m.handOver id =
    (m.setBuffer id { m.steady.buffer id with state := .queued }).modWriter fun w =>
      { w with queue := w.queue ++ [motionChunk id (m.steady.buffer id).records] } :=
  if_neg (by rw [keeps]; exact Bool.false_ne_true)

/-- An entry closed in the directory. -/
def Tables.closed (d : Tables) (i : Nat) (cause : CloseCause) (stamp : Stamp) : Tables :=
  { d with dir := d.dir.modify i (Option.map fun c => { c with state := .closed, cause := some cause, endStamp := some stamp }) }

section
variable {w : Writer} {d : Tables} {i : Nat} {c : Clip} (tables : w.tables = some d) (entry : d.clipAt i = some c) (cause : CloseCause)
include tables entry

/-- An entry closes with no segment in use. -/
theorem Writer.closeEntry_of_no_segment (current : w.current = none) : w.closeEntry i cause = ({ w with
    tables := some (d.closed i cause (w.endStamp c)), updates := addOnce w.updates (dirSector i)
    mirrorDirty := addOnce w.mirrorDirty i }, [dirSector i]) := by
  have clip : w.clipAt i = some c := by rw [Writer.clipAt, tables]; exact entry
  rw [Writer.closeEntry, clip]
  dsimp only
  rw [Writer.changeEntry_eq, tables, Option.map_some]
  dsimp only
  rw [current]
  rfl

/-- An entry closes, its segment in use FILLED with it. -/
theorem Writer.closeEntry_of_filling {cur : CurrentSegment} (current : w.current = some cur)
    (filling : (mapAt d.map cur.segment).state = .filling) : w.closeEntry i cause = ({ w with
    tables := some { d.closed i cause (w.endStamp c) with
      map := d.map.set cur.segment ⟨.filled, (mapAt d.map cur.segment).link⟩ }
    updates := addOnce (addOnce w.updates (dirSector i)) (mapSector cur.segment)
    mirrorDirty := addOnce w.mirrorDirty i, current := none }, [dirSector i, mapSector cur.segment]) := by
  have clip : w.clipAt i = some c := by rw [Writer.clipAt, tables]; exact entry
  rw [Writer.closeEntry, clip]
  dsimp only
  rw [Writer.changeEntry_eq, tables, Option.map_some]
  dsimp only
  rw [current]
  dsimp only
  rw [if_pos filling]
  rfl
end

/-- The close of a drained writer. -/
theorem Media.closeDrained_of_open {i : Nat} (closing : m.writer.state = .closing) (queue : m.writer.queue = [])
    (wip : m.writer.wip = none) (index : m.writer.openIndex = some i) (plain : m.writer.resetEnds = false) :
    m.closeDrained = some (m.modWriter fun _ => { (m.writer.closeEntry i (m.writer.closeCause.getD .request)).1 with
      waiting := (m.writer.closeEntry i (m.writer.closeCause.getD .request)).1.waiting ++
        [⟨.close, (m.writer.closeEntry i (m.writer.closeCause.getD .request)).2⟩] }) := by
  rw [Media.closeDrained]
  dsimp only
  rw [closing, queue, wip, index]
  dsimp only
  rw [if_neg (by rw [plain]; exact Bool.false_ne_true)]
end
end Sys2Proof.Machine

namespace Sys2Proof.Proofs
open Sys2Proof.Machine

/-- Settles O30: the request by the writer's state, and the opening by the entry found. -/
theorem startClip : Obligations.StartClip := by
  intro s slot first stamp next t w p free
  refine ⟨fun busy => ?_, fun d i starts tables empty => ?_, fun v i starts opened => ?_, fun d starts tables full kept => ?_⟩
  · rw [exec_startClip next rfl, Media.startClip_of_busy _ _ _ _ (by exact busy)]
    rfl
  · rw [exec_startClip next rfl, Media.startClip_of_opened (m := (s.requestTaken .writer).media) _ _ _ _ (by exact starts) (Writer.open_of_empty stamp tables empty),
      Writer.enter_recording, Writer.openAt_of_tables (w := (s.requestTaken .writer).media.writer) i stamp tables]
    rfl
  · refine ⟨_, exec_startClip next rfl, rfl, ?_⟩
    have opens := Media.startClip_of_opened (m := (s.requestTaken .writer).media) s.env slot first stamp starts opened
    show (Media.startClip _ _ _ _ _).writer.state = _ ∧ (Media.startClip _ _ _ _ _).writer.expected = _ ∧
      (Media.startClip _ _ _ _ _).writer.keyWait = _ ∧ (Media.startClip _ _ _ _ _).writer.tables = _ ∧
      (Media.startClip _ _ _ _ _).writer.waiting = _
    rw [opens]
    exact ⟨rfl, rfl, rfl, rfl, rfl⟩
  · rw [exec_startClip next rfl, Media.startClip_of_full (m := (s.requestTaken .writer).media) _ _ _ _ (by exact starts) (Writer.open_of_full stamp tables full kept)]
    rfl

/-- Settles O31: a stop by the writer's state and the last sequence, the starvation wait, and the close as it begins and ends. -/
theorem stopClip : Obligations.StopClip := by
  refine ⟨?_, fun s => ⟨fun a recording waits due => ?_, fun stopped => ?_, fun a waits early => ?_⟩, ?_, ?_, fun m => ?_, ?_⟩
  · intro s slot last stamp next t w m
    refine ⟨fun recording none => ?_, fun l recording some => ?_, fun closing => ?_, fun idle => ?_, fun other => ?_⟩
    · rw [exec_stopClip next rfl, Media.stopClip_of_recording (m := (s.requestTaken .writer).media) _ _ _ recording, none]
      rfl
    · intro p
      refine ⟨fun passed => ?_, fun early => ?_⟩
      · rw [exec_stopClip next rfl, Media.stopClip_of_recording (m := (s.requestTaken .writer).media) _ _ _ recording, some,
          Option.elim_some, Media.checkStop_of_reached (l := l) _ rfl (by exact passed)]
        rfl
      · rw [exec_stopClip next rfl, Media.stopClip_of_recording (m := (s.requestTaken .writer).media) _ _ _ recording, some,
          Option.elim_some, Media.checkStop_of_early (l := l) _ rfl (by exact early)]
        rfl
    · rw [exec_stopClip next rfl, Media.stopClip_of_closing (m := (s.requestTaken .writer).media) _ _ _ closing]
      rfl
    · rw [exec_stopClip next rfl, Media.stopClip_of_idle (m := (s.requestTaken .writer).media) _ _ _ idle]
      rfl
    · have away : w.state ≠ .recording ∧ w.state ≠ .closing ∧ w.state ≠ .idle := by
        rcases other with h | h | h | h | h | h <;> rw [h] <;>
          exact ⟨WriterState.noConfusion, WriterState.noConfusion, WriterState.noConfusion⟩
      rw [exec_stopClip next rfl,
        Media.stopClip_of_other (m := (s.requestTaken .writer).media) _ _ _ away.1 away.2.1 away.2.2]
      rfl
  · rw [exec_starvationExpiry, State.starvation_of_due recording (by rw [waits]; exact (reached_iff _ _ _).mpr due)]
  · rw [exec_starvationExpiry, State.starvation_of_quiet fun both => stopped both.1]
  · rw [exec_starvationExpiry, State.starvation_of_quiet]
    rintro ⟨-, due⟩
    rw [waits] at due
    have reached := (reached_iff s.clock.count a.start a.length).mp due
    omega
  · intro m env cause begun
    refine ⟨fun recording => ?_, Media.closeBegin_of_not_recording env cause⟩
    have entered : m.enter .closing = { m with writer := { m.writer with state := .closing, recordingReport := true } } :=
      congrArg (fun w => ({ m with writer := w } : Media)) m.writer.enter_closing
    rw [Media.closeBegin_of_recording env cause recording, entered]
    rfl
  · intro m env st c slot edition address source held
    rw [Media.finish, source]
    exact Media.receipt_of_held _ _ held
  · refine ⟨Media.flush_of_none, fun id fills empty => Media.flush_of_empty fills empty, fun id fills records writes => ?_⟩
    have keeps : m.writer.returnsBuffers = false := by
      rcases writes with h | h <;> rw [Writer.returnsBuffers, h] <;> rfl
    rw [Media.flush_of_records fills records, Media.handOver_of_keeps keeps]
    rfl
  · intro m d i c closing queue wip mounted tables index entry plain w stamp dir
    have open_ : m.writer.openIndex = some i := by
      rw [Writer.openIndex, if_pos mounted, tables]
      exact index
    have goesOn : m.writer.resetEnds = false := by
      rw [Writer.resetEnds, plain, Bool.false_and]
    have end_ : stamp = w.endStamp c := rfl
    refine ⟨fun none => ?_, fun cur current filling => ?_⟩
    · rw [Media.closeDrained_of_open closing queue wip open_ goesOn, Writer.closeEntry_of_no_segment tables entry _ none]
      rfl
    · rw [Media.closeDrained_of_open closing queue wip open_ goesOn, Writer.closeEntry_of_filling tables entry _ current filling]
      rfl

end Sys2Proof.Proofs
end

section
/-! PROOFS. The registers, the attention line, and a mirror entry that is no entry of the directory (R93, R190 to R193). -/

namespace Sys2Proof.Machine

/-! ### Host writes (R190 to R192) -/

section
variable {s : State}

theorem State.hostWrite_of_on (f : State → State) (on : s.power.state = .run ∨ s.power.state = .shutting) : s.hostWrite f = f s :=
  if_pos (s.railOn_iff.mpr on)

theorem State.hostWrite_of_off (f : State → State) (off : ¬(s.power.state = .run ∨ s.power.state = .shutting)) :
    s.hostWrite f = s :=
  if_neg (mt s.railOn_iff.mp off)

theorem exec_pickupPeriodSet (code : BitVec 5) : exec (.pickupPeriodSet code) s =
    .next (s.hostWrite fun s => s.modExch fun e => { e with period := takenPeriod code }) := rfl

theorem exec_attentionEnableSet (bits : BitVec 11) : exec (.attentionEnableSet bits) s =
    .next (s.hostWrite fun s => s.modExch fun e => { e with enables := bits }) := rfl

theorem exec_attnClear (bits : Word32) : exec (.attnClear bits) s =
    .next (s.hostWrite fun s => s.modExch fun e => e.clearFlags bits) := rfl

theorem exec_baseWrite (r : BaseRegister) (v : Word32) : exec (.baseWrite r v) s =
    .next (s.hostWrite fun s => s.modExch fun e => e.writeBase r v) := rfl
end

theorem takenPeriod_eq (code : BitVec 5) :
    takenPeriod code = if code.toNat = 0 then 1 else if 20 < code.toNat then 20 else code := by
  have zero : code = 0 ↔ code.toNat = 0 := by rw [← BitVec.toNat_inj]; rfl
  exact if_congr zero rfl rfl

theorem Exchange.writeBase_of_running {e : Exchange} (r : BaseRegister) (v : Word32) (h : e.state = .running) : e.writeBase r v = e :=
  if_pos (e.running_iff.mpr h)

theorem Exchange.writeBase_lo {e : Exchange} (v : Word32) (h : e.state ≠ .running) :
    e.writeBase .lo v = { e with baseLo := v &&& 0xFFFFF000#32 } :=
  if_neg (mt e.running_iff.mp h)

theorem Exchange.writeBase_hi {e : Exchange} (v : Word32) (h : e.state ≠ .running) : e.writeBase .hi v = { e with baseHi := v } :=
  if_neg (mt e.running_iff.mp h)

/-! ### Reads (R190, R192) -/

section
variable (e : Exchange)

/-- CONTROL as three fields: RUN, the period from bit 1 and the enables from bit 8. -/
theorem Exchange.control_toNat : e.control.toNat =
    2 ^ 1 * (2 ^ 7 * e.enables.toNat + e.period.toNat) + if e.run then 1 else 0 := by
  have period := e.period.isLt
  have enables := e.enables.isLt
  rw [Exchange.control, BitVec.toNat_ofNat]
  split <;> omega

theorem Exchange.control_getLsbD_zero : e.control.getLsbD 0 = e.run := by
  rw [← BitVec.testBit_toNat, Exchange.control_toNat, Nat.testBit_two_pow_mul_add _ (by split <;> omega), if_pos (by omega)]
  cases e.run <;> rfl

theorem Exchange.control_getLsbD_succ (n : Nat) :
    e.control.getLsbD (1 + n) = if n < 7 then e.period.getLsbD n else e.enables.getLsbD (n - 7) := by
  have period := e.period.isLt
  rw [← BitVec.testBit_toNat, Exchange.control_toNat, Nat.testBit_two_pow_mul_add _ (by split <;> omega), if_neg (by omega),
    Nat.add_sub_cancel_left, Nat.testBit_two_pow_mul_add _ (by omega), BitVec.testBit_toNat, BitVec.testBit_toNat]

theorem Exchange.wantsAttention_iff : e.wantsAttention = true ↔ ∃ n < 11, e.attn.getLsbD n = true ∧ e.enables.getLsbD n = true := by
  have bits : ∀ n, (e.attn &&& e.enables).getLsbD n = true ↔ e.attn.getLsbD n = true ∧ e.enables.getLsbD n = true := fun n => by
    rw [BitVec.getLsbD_and, Bool.and_eq_true]
  rw [Exchange.wantsAttention, bne_iff_ne]
  refine ⟨fun some => ?_, fun ⟨n, _, both⟩ none => ?_⟩
  · by_contra none
    refine some (BitVec.eq_of_getLsbD_eq fun n low => ?_)
    refine Eq.trans ?_ BitVec.getLsbD_zero.symm
    by_contra set
    exact none ⟨n, low, (bits n).mp (Bool.eq_true_of_not_eq_false set)⟩
  · have set := (bits n).mpr both
    rw [none] at set
    exact absurd (BitVec.getLsbD_zero.symm.trans set) Bool.false_ne_true

theorem Exchange.readRegister_of_other {offset : Nat} (h : offset ∉ [0x00, 0x04, 0x08, 0x0C, 0x10]) : e.readRegister offset = 0 := by
  unfold Exchange.readRegister
  split
  case h_6 => rfl
  all_goals exact absurd (by decide) h

theorem Exchange.raise_flagSet_eq (f g : AttnFlag) : (e.raise f).flagSet g = (e.flagSet g || decide (g = f)) := by
  by_cases same : g = f
  · rw [same, Exchange.raise_flagSet, decide_eq_true rfl, Bool.or_true]
  · rw [Exchange.raise_flagSet_other _ same, decide_eq_false same, Bool.or_false]
end

/-! ### An index that is no entry's, in the mirror's list (R93) -/

/-- The mirror of some entries raises the edition, and clears what the writer holds of those entries alone. -/
theorem Media.mirror_frame (env : Env) (follows : Bool) (entries : List Nat) (m : Media) :
    ∃ (exch : Exchange) (edition : Edition), Media.mirror env follows entries m = { m with
      exch := exch
      writer := { m.writer with
        mirrorEdition := edition, mirrorDirty := m.writer.mirrorDirty.filter fun x => !entries.contains x } } := by
  rw [Media.mirror_eq_foldl]
  induction entries generalizing m with
  | nil =>
    have all : (m.writer.mirrorDirty.filter fun x => !([] : List Nat).contains x) = m.writer.mirrorDirty :=
      List.filter_eq_self.mpr fun x _ => rfl
    rw [all]
    exact ⟨m.exch, m.writer.mirrorEdition, rfl⟩
  | cons i entries ih =>
    obtain ⟨exch, edition, rest⟩ := ih (Media.mirrorOne env follows m i)
    refine ⟨exch, edition, ?_⟩
    have dirty : (m.writer.mirrorDirty.filter fun x => decide (x ≠ i)).filter (fun x => !entries.contains x) =
        m.writer.mirrorDirty.filter fun x => !(i :: entries).contains x := by
      rw [List.filter_filter]
      refine List.filter_congr fun x _ => ?_
      rw [List.contains_cons, Bool.not_or, Bool.and_comm]
      congr 1
      by_cases same : x = i <;> simp [same]
    rw [List.foldl_cons, rest, ← dirty]
    rfl

/-- A mounted writer in IDLE that notes an index beyond the 256 entries as changed, while the exchange is STOPPED. -/
def strayDirty : State :=
  { State.reset with
    power := { State.reset.power with state := .run }
    media := { State.reset.media with
      exch := { State.reset.media.exch with baseLo := 4096 }
      writer := { State.reset.media.writer with
        state := .idle, mounted := true, tables := some ⟨⟨0, 2048, 16⟩, 0, 1, [], [], 0⟩, mirrorDirty := [256] } } }

/-- The state with an exchange, and what the mirror changes of the writer. -/
def strayWith (exch : Exchange) (edition : Edition) (dirty : List Nat) : State :=
  { strayDirty with media := { strayDirty.media with
    exch := exch
    writer := { strayDirty.media.writer with mirrorEdition := edition, mirrorDirty := dirty } } }

theorem strayWith_quiet (exch : Exchange) (edition : Edition) (dirty : List Nat) : (strayWith exch edition dirty).Quiet :=
  ⟨rfl, rfl, rfl, rfl⟩

/-- Steps that change the exchange and the edition only leave the list as it was. -/
theorem strayWith_foldl {f : Media → Nat → Media} {dirty : List Nat}
    (step : ∀ exch edition i, ∃ exch' edition', f (strayWith exch edition dirty).media i = (strayWith exch' edition' dirty).media)
    (entries : List Nat) (exch : Exchange) (edition : Edition) : ∃ exch' edition',
      entries.foldl f (strayWith exch edition dirty).media = (strayWith exch' edition' dirty).media := by
  induction entries generalizing exch edition with
  | nil => exact ⟨exch, edition, rfl⟩
  | cons i entries ih =>
    obtain ⟨exch', edition', first⟩ := step exch edition i
    rw [List.foldl_cons, first]
    exact ih exch' edition'

/-- RUN_START from STOPPED, with an area to be used and a volume mounted. -/
theorem exec_runStart_of_mounted {s : State} (on : s.power.state = .run ∨ s.power.state = .shutting)
    (stopped : s.media.exch.state = .stopped) (area : s.media.exch.base ≠ 0) (mounted : s.media.writer.mounted = true) :
    exec .runStart s = .next (s.setMedia (Media.mirror s.env false (List.range 256)
      (s.media.modExch fun e => e.start s.now))).settle := by
  show Host.Outcome.next (s.hostWrite State.runStart).settle = _
  rw [State.hostWrite_of_on _ on, State.runStart, stopped]
  dsimp only
  rw [if_neg area]
  have whole : (s.media.modExch fun e => e.start s.now).mirrorMounted s.env =
      Media.mirror s.env false (List.range 256) (s.media.modExch fun e => e.start s.now) := if_pos mounted
  rw [← whole]
  rfl

/-- RUN_START in that state, as the model runs it. -/
theorem exec_runStart_strayDirty : ∃ exch edition, exec .runStart strayDirty = .next (strayWith exch edition [256]).settle := by
  obtain ⟨exch, edition, frame⟩ := Media.mirror_frame strayDirty.env false (List.range 256)
    (strayDirty.media.modExch fun e => e.start strayDirty.now)
  refine ⟨exch, edition, ?_⟩
  have kept : ([256].filter fun x => !(List.range 256).contains x) = [256] := by decide
  rw [exec_runStart_of_mounted (.inl rfl) rfl (by decide) rfl, frame]
  show Host.Outcome.next (strayWith exch edition ([256].filter fun x => !(List.range 256).contains x)).settle = _
  rw [kept]

end Sys2Proof.Machine

namespace Sys2Proof.Proofs
open Sys2Proof.Machine

/-- Settles O50: each write by the rail and the exchange state, each read bit by bit. -/
theorem registerWrites : Obligations.RegisterWrites := by
  intro s e on goes
  refine ⟨fun code up => ?_, fun bits up => ?_, fun bits up => ?_, fun v up stopped => ⟨?_, ?_⟩, fun r v running => ?_,
    fun _ _ _ => rfl, fun off code bits v r => ⟨?_, ?_, ?_, ?_⟩, ?_, rfl, ⟨e.control_getLsbD_zero, fun n low => ?_, fun n low => ?_,
    fun n gap => ?_⟩, fun n => ?_, rfl, rfl, fun offset => e.readRegister_of_other, rfl, fun f g =>
    ⟨rfl, e.raise_flagSet_eq f g, rfl⟩⟩
  · rw [exec_pickupPeriodSet, State.hostWrite_of_on _ up, takenPeriod_eq]
    rfl
  · rw [exec_attentionEnableSet, State.hostWrite_of_on _ up]
    rfl
  · refine ⟨e.clearFlags bits, ?_, rfl, fun n low => ?_⟩
    · rw [exec_attnClear, State.hostWrite_of_on _ up]
      rfl
    · simp [Exchange.clearFlags, low]
  · rw [exec_baseWrite, State.hostWrite_of_on _ up]
    exact congrArg (fun d => Host.Outcome.next (goes d)) (Exchange.writeBase_lo v stopped)
  · rw [exec_baseWrite, State.hostWrite_of_on _ up]
    exact congrArg (fun d => Host.Outcome.next (goes d)) (Exchange.writeBase_hi v stopped)
  · by_cases up : on
    · rw [exec_baseWrite, State.hostWrite_of_on _ up]
      exact congrArg (fun d => Host.Outcome.next (goes d)) (Exchange.writeBase_of_running r v running)
    · rw [exec_baseWrite, State.hostWrite_of_off _ up]
  · rw [exec_pickupPeriodSet, State.hostWrite_of_off _ off]
  · rw [exec_attentionEnableSet, State.hostWrite_of_off _ off]
  · rw [exec_attnClear, State.hostWrite_of_off _ off]
  · rw [exec_baseWrite, State.hostWrite_of_off _ off]
  · rw [State.attentionLine, Bool.and_eq_true, State.railOn_iff, Exchange.wantsAttention_iff]
  · exact (e.control_getLsbD_succ n).trans (if_pos (by omega))
  · have place : 8 + n = 1 + (7 + n) := by omega
    show e.control.getLsbD (8 + n) = _
    rw [place, Exchange.control_getLsbD_succ, if_neg (by omega), Nat.add_sub_cancel_left]
  · obtain ⟨k, rfl⟩ : ∃ k, n = 1 + k := ⟨n - 1, by omega⟩
    show e.control.getLsbD (1 + k) = _
    rw [Exchange.control_getLsbD_succ]
    split
    · exact BitVec.getLsbD_of_ge _ _ (by omega)
    · exact BitVec.getLsbD_of_ge _ _ (by omega)
  · show (e.attn.setWidth 32).getLsbD n = _
    rw [BitVec.getLsbD_setWidth]
    by_cases low : n < 32
    · rw [decide_eq_true low, Bool.true_and]
    · rw [decide_eq_false low, Bool.false_and, BitVec.getLsbD_of_ge _ _ (by omega)]

/-- Refutes O49: RUN_START's mirror of the 256 entries leaves an index noted beyond them, 256, where the statement has none left. -/
theorem not_pickupsStartStop : ¬ Obligations.PickupsStartStop := by
  intro h
  have run := (h.1 strayDirty).2.2.1 ⟨⟨0, 2048, 16⟩, 0, 1, [], [], 0⟩ (.inl rfl) rfl (.inl (by decide)) rfl rfl rfl
  obtain ⟨exch, edition, ran⟩ := exec_runStart_strayDirty
  obtain ⟨exch', edition', folded⟩ := strayWith_foldl (dirty := []) (f := fun (x : Media) (i : Nat) => { x with
      writer := { x.writer with mirrorEdition := nextEdition x.writer.mirrorEdition }
      exch := x.exch.writeRecord strayDirty.clock.count (mirrorRecord i false (nextEdition x.writer.mirrorEdition)
        (Tables.clipAt ⟨⟨0, 2048, 16⟩, 0, 1, [], [], 0⟩ i)) })
    (fun exch edition i => ⟨_, _, rfl⟩) (List.range 256) (strayDirty.media.exch.start strayDirty.clock.count)
    strayDirty.media.writer.mirrorEdition
  have stated : exec .runStart strayDirty = .next (strayWith exch' edition' []).settle := by
    refine run.trans ?_
    exact congrArg (fun m => Host.Outcome.next (State.settle { strayDirty with media := m })) folded
  have same := Host.Outcome.next.inj (ran.symm.trans stated)
  rw [State.settle_of_quiet (strayWith_quiet _ _ _), State.settle_of_quiet (strayWith_quiet _ _ _)] at same
  exact absurd (congrArg (fun s : State => s.media.writer.mirrorDirty) same) (List.cons_ne_nil _ _)

end Sys2Proof.Proofs
end

section
/-! PROOFS. The request board: its slots and what their bytes ask for (R193 to R195, R197). -/

namespace Sys2Proof.Machine

/-! ### REQUEST_BOARD_READ_COMPLETE -/

section
variable {s : State} {n : Nat} {bytes : List Byte} {p : Pickup}

/-- The state as the eight slots have been offered. -/
def State.requestsOffered (s : State) (n : Nat) (bytes : List Byte) (stamp : Stamp) : State :=
  (List.range 8).foldl (State.offerRequest stamp bytes) (s.modExch fun e => e.dropTransfer n)

theorem exec_requestBoardReadComplete (read : (s.media.exch.transferAt n).map Transfer.purpose = some .requestBoard)
    (pickup : s.media.exch.pickup = some p) :
    exec (.requestBoardReadComplete n bytes) s = .next ((s.requestsOffered n bytes p.stamp).afterRequests p).settle := by
  show Host.Outcome.next (s.requestsRead n bytes).settle = _
  simp only [State.requestsRead, read, pickup]
  rfl

theorem State.afterRequests_of_going_on (h : p.ending = false) : s.afterRequests p = s.modExch fun e => { e with
    pickup := some { p with stage := .chunks }
    transfers := e.transfers ++ [⟨.chunkBoard, e.base + 0xF00, none, 768, s.clock.count⟩] } := by
  exact if_neg (by rw [h]; exact Bool.false_ne_true)

theorem State.afterRequests_of_ending (h : p.ending = true) : s.afterRequests p = (s.noticePickup p.stamp).endPickup := by
  rw [State.afterRequests, h]
  rfl
end

/-! ### A request slot that is offered (R195, R197) -/

section
variable {s : State} {bytes : List Byte} {slot : Nat} (stamp : Stamp)

theorem State.offerRequest_of_torn (h : editionAt (slice bytes (64 * slot) 64) 0 ≠ editionAt (slice bytes (64 * slot) 64) 62) :
    s.offerRequest stamp bytes slot = s.modExch Exchange.countTorn :=
  if_pos ((torn_iff _ _).mpr h)

section
variable (whole : editionAt (slice bytes (64 * slot) 64) 0 = editionAt (slice bytes (64 * slot) 64) 62)
include whole

theorem State.offerRequest_of_old (old : editionAt (slice bytes (64 * slot) 64) 0 = 0 ∨
    editionAt (slice bytes (64 * slot) 64) 0 = s.media.exch.takenRequest slot) : s.offerRequest stamp bytes slot = s := by
  rw [State.offerRequest, torn_of_eq whole, slotNew_of_old old]
  rfl

variable (nonzero : editionAt (slice bytes (64 * slot) 64) 0 ≠ 0)
  (new : editionAt (slice bytes (64 * slot) 64) 0 ≠ s.media.exch.takenRequest slot)
include nonzero new

theorem State.offerRequest_of_free (free : s.media.exch.workingAt slot = none) :
    s.offerRequest stamp bytes slot = s.acceptRequest stamp slot (slice bytes (64 * slot) 64) := by
  rw [State.offerRequest, torn_of_eq whole, slotNew_of_new whole nonzero new, free]
  rfl

theorem State.offerRequest_of_worked {w : Working} (works : s.media.exch.workingAt slot = some w) :
    s.offerRequest stamp bytes slot =
      if w.edition = editionAt (slice bytes (64 * slot) 64) 0 then s.modExch fun e => e.markRequest slot w.edition else s := by
  rw [State.offerRequest, torn_of_eq whole, slotNew_of_new whole nonzero new, works]
  rfl
end

theorem State.acceptRequest_of_request {bs : List Byte} {r : Request} (h : parseRequest bs = .request r) :
    s.acceptRequest stamp slot bs = s.modExch fun e => { e with
      requestTaken := e.requestTaken.set slot (editionAt bs 0)
      working := e.working.set slot (some ⟨editionAt bs 0, (byteAt bs 2).toNat⟩)
      handed := e.handed ++ [⟨slot, r, stamp⟩] } := by
  rw [State.acceptRequest, h]
  rfl

theorem State.acceptRequest_of_badChoice {bs : List Byte} (h : parseRequest bs = .badChoice) :
    s.acceptRequest stamp slot bs = (s.modExch fun e => { e with
      requestTaken := e.requestTaken.set slot (editionAt bs 0)
      working := e.working.set slot (some ⟨editionAt bs 0, (byteAt bs 2).toNat⟩) }).answer slot .refusedParam := by
  rw [State.acceptRequest, h]
  rfl
end

/-! ### The kinds (R197) -/

theorem choice_of_code {b : Byte} {v : Bool} (h : b.toNat = if v then 1 else 0) : choice b = some v := by
  cases v with
  | false => exact if_pos (BitVec.eq_of_toNat_eq h)
  | true =>
    have one : b = 1 := BitVec.eq_of_toNat_eq h
    rw [one]
    rfl

theorem choice_eq_none_iff (b : Byte) : choice b = none ↔ 1 < b.toNat := by
  by_cases zero : b.toNat = 0
  · rw [choice_of_code (v := false) zero]
    exact iff_of_false (Option.some_ne_none _) (by omega)
  · by_cases one : b.toNat = 1
    · rw [choice_of_code (v := true) one]
      exact iff_of_false (Option.some_ne_none _) (by omega)
    · have notZero : b ≠ 0 := fun h => zero (by rw [h]; rfl)
      have notOne : b ≠ 1 := fun h => one (by rw [h]; rfl)
      rw [choice, if_neg notZero, if_neg notOne]
      exact iff_of_true rfl (by omega)

section
variable {bs : List Byte}

theorem parseRequest_stopClip (code : (byteAt bs 2).toNat = 9) {v : Bool} (h : choice (byteAt bs 4) = some v) :
    parseRequest bs = .request (.stopClip (if v then some (leNat bs 8 4) else none)) := by
  rw [parseRequest, code, h]
  cases v <;> rfl

theorem parseRequest_setProtection (code : (byteAt bs 2).toNat = 10) {v : Bool} (h : choice (byteAt bs 8) = some v) :
    parseRequest bs = .request (.setProtection (leNat bs 4 4) v) := by
  simp only [parseRequest, code, h]

theorem parseRequest_deleteClip (code : (byteAt bs 2).toNat = 11) {v : Bool} (h : choice (byteAt bs 8) = some v) :
    parseRequest bs = .request (.deleteClip (leNat bs 4 4) v) := by
  simp only [parseRequest, code, h]

theorem parseRequest_unknown (h : (byteAt bs 2).toNat = 0 ∨ 16 < (byteAt bs 2).toNat) :
    parseRequest bs = .request (.unknown (byteAt bs 2).toNat) := by
  unfold parseRequest
  split
  case h_17 => rfl
  all_goals omega

/-- Only the three kinds with a 0/1 choice can have one that names neither value. -/
theorem parseRequest_badChoice_iff : ((byteAt bs 2).toNat = 9 ∧ 1 < (byteAt bs 4).toNat) ∨
    ((byteAt bs 2).toNat = 10 ∧ 1 < (byteAt bs 8).toNat) ∨ ((byteAt bs 2).toNat = 11 ∧ 1 < (byteAt bs 8).toNat) ↔
    parseRequest bs = .badChoice := by
  rw [← choice_eq_none_iff, ← choice_eq_none_iff]
  refine ⟨fun bad => ?_, fun bad => ?_⟩
  · rcases bad with ⟨code, none⟩ | ⟨code, none⟩ | ⟨code, none⟩ <;> simp only [parseRequest, code, none]
  · unfold parseRequest at bad
    split at bad
    case h_9 code =>
      refine .inl ⟨code, ?_⟩
      split at bad
      case h_3 none => exact none
      all_goals cases bad
    case h_10 code =>
      refine .inr (.inl ⟨code, ?_⟩)
      split at bad
      case h_2 none => exact none
      cases bad
    case h_11 code =>
      refine .inr (.inr ⟨code, ?_⟩)
      split at bad
      case h_2 none => exact none
      cases bad
    all_goals cases bad
end

theorem exec_unknownKind {s : State} {h : Handed} {code : Nat} (next : s.media.exch.nextRequest .exchange = some h)
    (kind : h.request = .unknown code) : exec .unknownKind s = .next ((s.requestTaken .exchange).answer h.slot .unknownKind) := by
  show Host.Outcome.next (s.onRequest .exchange Request.asUnknown State.takeUnknown) = _
  rw [State.onRequest_of_next (a := code) _ next (by rw [kind]; rfl)]
  rfl

end Sys2Proof.Machine

namespace Sys2Proof.Proofs
open Sys2Proof.Machine

/-- Settles O51: the read by the pickup, a slot by its editions, and the bytes by the kind. -/
theorem requestBoard : Obligations.RequestBoard := by
  refine ⟨fun s n bs p read pickup goesOn => ?_, fun s n bs p read pickup ending => ?_, fun s stamp bytes slot => ?_, fun bs => ?_,
    fun n clip offset length address w out last b => ?_, fun s slot code stamp next => exec_unknownKind next rfl⟩
  · rw [exec_requestBoardReadComplete read pickup, State.afterRequests_of_going_on goesOn]
    rfl
  · rw [exec_requestBoardReadComplete read pickup, State.afterRequests_of_ending ending]
    exact congrArg (fun e => Host.Outcome.next (State.settle { ((s.requestsOffered n bs p.stamp).noticePickup p.stamp) with
      media := { ((s.requestsOffered n bs p.stamp).noticePickup p.stamp).media with exch := e } })) (Exchange.endPickup_eq _ _)
  · refine ⟨fun isTorn => State.offerRequest_of_torn stamp isTorn, fun whole old => State.offerRequest_of_old stamp whole old,
      ?_, ?_, ?_⟩
    · rintro r ⟨whole, nonzero, new⟩ free asks
      rw [State.offerRequest_of_free stamp whole nonzero new free, State.acceptRequest_of_request stamp asks]
    · rintro ⟨whole, nonzero, new⟩ free bad
      rw [State.offerRequest_of_free stamp whole nonzero new free, State.acceptRequest_of_badChoice stamp bad]
    · rintro w ⟨whole, nonzero, new⟩ works
      rw [State.offerRequest_of_worked stamp whole nonzero new works]
      refine ⟨fun other => if_neg other, fun same => (if_pos same).trans ?_⟩
      rw [same]
      rfl
  · intro code first choice_ reads
    refine ⟨fun h => ?_, fun h => ?_, fun h => ?_, fun h => ?_, fun h => ?_, fun h => ?_, fun h => ?_, fun h => ?_,
      fun none h => parseRequest_stopClip (v := false) h (choice_of_code none),
      fun some h => parseRequest_stopClip (v := true) h (choice_of_code some),
      fun b asks => ⟨fun h => parseRequest_setProtection h (choice_of_code asks), fun h =>
        parseRequest_deleteClip h (choice_of_code asks)⟩,
      fun h => ?_, fun h => ?_, fun h => ?_, fun h => ?_, fun h => ?_, parseRequest_unknown, parseRequest_badChoice_iff⟩
    all_goals
      have kind : (byteAt bs 2).toNat = _ := h
      simp only [parseRequest, kind, first]
  · refine ⟨?_, ?_, ?_, ?_, ?_⟩ <;> simp [Request.owner]

end Sys2Proof.Proofs
end

section
/-! PROOFS. The parts of a record, one after the other (R93, R192 to R194, R196, R197). -/

namespace Sys2Proof.Machine

section
variable {s : State} {n : Nat} {r : Record}

theorem exec_recordWriteComplete {part : RecordPart}
    (purpose : (s.media.exch.transferAt n).map Transfer.purpose = some (.record r part)) :
    exec (.recordWriteComplete n) s = .next ((s.modExch fun e => e.dropTransfer n).partWritten r part) := by
  show Host.Outcome.next (s.recordEnd n) = _
  rw [State.recordEnd, purpose]

theorem Exchange.continues_iff (e : Exchange) (k : RecordKind) : e.continues k = true ↔
    e.state = .running ∧ (k ≠ .report ∨ ¬∃ p : Pickup, e.pickup = some p ∧ p.ending = true) := by
  have cut : e.pickup.any Pickup.ending = true ↔ ∃ p : Pickup, e.pickup = some p ∧ p.ending = true := by
    rw [Option.any_eq_true]
  rw [Exchange.continues, Bool.and_eq_true, Exchange.running_iff, Bool.not_eq_true', Bool.and_eq_false_iff, decide_eq_false_iff_not,
    ← Bool.not_eq_true, cut]

theorem State.partWritten_head_of_continues (goes : s.media.exch.continues r.kind = true) :
    s.partWritten r .head = s.modExch fun e => e.issuePart s.now r .body :=
  if_pos goes

theorem State.partWritten_body_of_continues (goes : s.media.exch.continues r.kind = true) :
    s.partWritten r .body = s.modExch fun e => e.issuePart s.now r .tail :=
  if_pos goes

/-- The head and the body of a record that does not go on. -/
theorem State.partWritten_of_skipped {part : RecordPart} (early : part = .head ∨ part = .body)
    (skipped : ¬s.media.exch.continues r.kind = true) : s.partWritten r part = s.recordSkipped r.kind := by
  rcases early with rfl | rfl <;> exact if_neg skipped

/-- A mirror entry that follows a directory sector's write is in flight. -/
theorem Exchange.mirrors_iff (e : Exchange) (i : Nat) : e.mirrors (dirSector i) = true ↔
    ∃ x ∈ e.transfers, ∃ (j : Nat) (q : Record) (part : RecordPart),
      x.purpose = .record q part ∧ q.kind = .mirror j true ∧ j / 2 = i / 2 := by
  rw [Exchange.mirrors, List.any_eq_true]
  refine exists_congr fun x => and_congr_right fun _ => ⟨fun h => ?_, ?_⟩
  · split at h
    case h_1 j offset head body tailAt part purpose =>
      have sector : dirSector j = dirSector i := beq_iff_eq.mp h
      exact ⟨j, _, part, purpose, rfl, by unfold dirSector at sector; omega⟩
    case h_2 => cases h
  · rintro ⟨j, q, part, purpose, kind, same⟩
    obtain ⟨qk, offset, head, body, tailAt⟩ := q
    obtain rfl : qk = .mirror j true := kind
    rw [purpose]
    exact beq_iff_eq.mpr (by unfold dirSector; omega)

/-- The pickup ends with its page, or is held since. -/
theorem State.endPickup_eq (s : State) : s.endPickup = s.modExch fun e =>
    if e.state = .running ∧ e.pickupHeld = true then { e with
      transfers := e.transfers ++ [⟨.requestBoard, e.base + 0x200, none, 512, s.clock.count⟩]
      pickup := some ⟨s.clock.count, .requests, false⟩
      pickupHeld := false
      periodWait := some ⟨s.clock.count, e.periodMicros⟩
      periodOwed := e.periodOwed || waitDue e.periodWait s.clock.count }
    else { e with pickup := none, pickupHeld := false } :=
  congrArg (fun e => ({ s with media := { s.media with exch := e } } : State)) (s.media.exch.endPickup_eq s.clock.count)
end

theorem Exchange.recordDone_of_other (e : Exchange) {k : RecordKind} (other : ∀ slot : Nat, k ≠ .answer slot) : e.recordDone k = e := by
  cases k with
  | answer slot => exact absurd rfl (other slot)
  | _ => rfl

theorem State.recordSkipped_of_plain (s : State) {k : RecordKind} (page : k ≠ .report) (other : ∀ slot : Nat, k ≠ .answer slot) :
    s.recordSkipped k = s := by
  cases k with
  | answer slot => exact absurd rfl (other slot)
  | report => exact absurd rfl page
  | _ => rfl

end Sys2Proof.Machine

namespace Sys2Proof.Proofs
open Sys2Proof.Machine

/-- Settles O53: each part by whether its record goes on, and the last one by the record's kind. -/
theorem recordWrites : Obligations.RecordWrites := by
  refine ⟨?_, ?_⟩
  · intro s n r part purpose t part_ ended cut
    have run := exec_recordWriteComplete purpose
    have page : t.endPickup = ended := State.endPickup_eq _
    refine ⟨fun running whole => ?_, fun early => ?_, fun tail => ?_⟩
    · have goes : t.media.exch.continues r.kind = true := (Exchange.continues_iff _ _).mpr ⟨running, whole⟩
      refine ⟨fun head => ?_, fun body => ?_⟩
      · rw [run, head, State.partWritten_head_of_continues goes]
        rfl
      · rw [run, body, State.partWritten_body_of_continues goes]
        rfl
    · have skip (stops : ¬(s.media.exch.state = .running ∧ (r.kind ≠ .report ∨ ¬cut))) :
          exec (.recordWriteComplete n) s = .next (t.recordSkipped r.kind) := by
        rw [run, State.partWritten_of_skipped (s := t) early (mt (Exchange.continues_iff _ _).mp stops)]
      refine ⟨fun report stops => ?_, fun slot answer stopped => ?_, fun plain other stopped => ?_⟩
      · rw [skip, report]
        · exact congrArg Host.Outcome.next page
        · rintro ⟨running, whole | whole⟩
          · exact whole report
          · exact stops.elim (fun h => h running) whole
      · rw [skip fun goes => stopped goes.1, answer]
        rfl
      · rw [skip fun goes => stopped goes.1, State.recordSkipped_of_plain _ plain other]
    · have written : exec (.recordWriteComplete n) s = .next (t.recordWritten r.kind) := by
        rw [run, tail]
        rfl
      refine ⟨fun slot kind => ?_, fun slot kind => ?_, fun slot kind => ?_, fun i kind => ?_, fun i kind => ?_, fun kind => ?_⟩
      · rw [written, kind]
        rfl
      · rw [written, kind]
        rfl
      · rw [written, kind]
        rfl
      · intro sibling
        rw [written, kind, State.recordWritten]
        refine ⟨fun last => ?_, fun more => ?_⟩
        · have quiet : t.media.exch.mirrors (dirSector i) = false :=
            Bool.eq_false_iff.mpr (mt (Exchange.mirrors_iff _ _).mp last)
          rw [quiet]
          rfl
        · rw [(Exchange.mirrors_iff t.media.exch i).mpr more]
          rfl
      · rw [written, kind]
        rfl
      · rw [written, kind]
        exact congrArg Host.Outcome.next page
  · intro e r now
    refine ⟨fun running => Exchange.writeRecord_of_running now r running, fun slot stopped kind => ?_, fun stopped other => ?_⟩
    · rw [Exchange.writeRecord_of_not_running now r stopped, kind]
      rfl
    · rw [Exchange.writeRecord_of_not_running now r stopped, Exchange.recordDone_of_other e other]

end Sys2Proof.Proofs
end

section
/-! PROOFS. Transfers that fail or stay unanswered, and the exchange FAULTED (R50, R117, R130, R134, R190, R193). -/

namespace Sys2Proof.Machine

/-! ### Drops counted one after the other (R87) -/

section
variable {w : Writer}

theorem Writer.openIndex_some {i : Nat} (index : w.openIndex = some i) : ∃ d c, w.HasOpen d i c := by
  unfold Writer.openIndex at index
  split at index
  case isTrue mounted =>
    obtain ⟨d, tables, index⟩ := Option.bind_eq_some_iff.mp index
    obtain ⟨e, entry, open_⟩ : ∃ e, d.dir[i]? = some e ∧ openEntry e = true := by
      obtain ⟨h, open_, -⟩ := List.findIdx?_eq_some_iff_getElem.mp index
      exact ⟨d.dir[i], List.getElem?_eq_getElem h, open_⟩
    cases e with
    | none => cases open_
    | some c =>
      refine ⟨d, c, mounted, tables, index, ?_⟩
      rw [Tables.clipAt, entryAt, List.getD_eq_getElem?_getD, entry]
      rfl
  case isFalse => cases index

theorem Writer.addDrops_zero (w : Writer) : w.addDrops 0 = w := by
  unfold Writer.addDrops
  split <;> rfl

theorem Writer.addDrops_of_some {i n : Nat} (index : w.openIndex = some i) (some_ : n ≠ 0) :
    w.addDrops n = w.changeEntry i fun c => { c with drops := c.drops + n } := by
  rw [Writer.addDrops, index]
  exact if_neg some_

/-- Two counts are one: the entry's sector waits once. -/
theorem Writer.addDrops_addDrops (w : Writer) (a b : Nat) : (w.addDrops a).addDrops b = w.addDrops (a + b) := by
  cases index : w.openIndex with
  | none => rw [Writer.addDrops_of_closed a index, Writer.addDrops_of_closed b index, Writer.addDrops_of_closed _ index]
  | some i =>
    by_cases noneA : a = 0
    · rw [noneA, Writer.addDrops_zero, Nat.zero_add]
    by_cases noneB : b = 0
    · rw [noneB, Writer.addDrops_zero, Nat.add_zero]
    obtain ⟨d, c, opens⟩ := Writer.openIndex_some index
    have still := (opens.changeEntry (f := fun c => { c with drops := c.drops + a }) rfl).openIndex_eq
    rw [Writer.addDrops_of_some index noneA, Writer.addDrops_of_some still noneB,
      Writer.addDrops_of_some (n := a + b) index (by omega), Writer.changeEntry_changeEntry]
    refine Writer.changeEntry_congr opens.tables opens.entry ?_
    rw [← Nat.add_assoc]
    rfl

theorem Writer.addDrops_updates {i : Nat} (n : Nat) (index : w.openIndex = some i) :
    (w.addDrops n).updates = if n = 0 then w.updates else addOnce w.updates (1 + i / 2) := by
  by_cases none : n = 0
  · rw [if_pos none, none, Writer.addDrops_zero]
  · rw [if_neg none, Writer.addDrops_of_some index none]
    rfl
end

/-! ### A fetch and a copy that fail (R117, R134) -/

section
variable {m : Media} (env : Env)

theorem Media.fetchFailed_of_fetching {p : WriteInProgress} (wip : m.writer.wip = some p) (fetching : p.stage = .fetching) :
    m.fetchFailed env = ((m.finish env .fetchFailed p.chunk).modWriter fun w => w.addDrops 1).modWriter fun w =>
      { w with wip := none, keyWait := true } := by
  rw [Media.fetchFailed, wip]
  exact if_pos fetching

theorem Media.fetchFailed_of_other (other : ∀ p, m.writer.wip = some p → p.stage ≠ .fetching) : m.fetchFailed env = m := by
  unfold Media.fetchFailed
  split
  case h_1 p wip => exact if_neg (other p wip)
  case h_2 => rfl

theorem Media.pieceLost_of_writing {r : ReadBack} (reads : m.writer.readBack = some r) (writing : r.stage = .writing) :
    m.pieceLost env = m.readBackGone.answer env r.slot ((Answer.failed .link).withData (toLe 4 r.copied)) := by
  rw [Media.pieceLost, reads]
  dsimp only
  rw [if_pos writing, Media.endReadBack_of_reading env _ reads]

theorem Media.pieceLost_of_other (other : ∀ r, m.writer.readBack = some r → r.stage ≠ .writing) : m.pieceLost env = m := by
  unfold Media.pieceLost
  split
  case h_1 r reads => exact if_neg (other r reads)
  case h_2 => rfl

theorem Media.finish_of_none_held (st : ReceiptStatus) (c : Chunk) (none : m.writer.held = []) :
    (m.finish env st c).writer = m.writer ∧ (m.finish env st c).exch = m.exch := by
  unfold Media.finish
  split
  · rw [Media.receipt, if_neg (by rw [none]; exact Bool.false_ne_true)]
    exact ⟨rfl, rfl⟩
  · exact ⟨rfl, rfl⟩
end

/-! ### The Clip Writer as the exchange fails (R130) -/

/-- A chunk is being fetched. -/
def Writer.fetching (w : Writer) : Bool :=
  w.wip.any fun p => decide (p.stage = .fetching)

/-- A piece of a read-back is being copied. -/
def Writer.copying (w : Writer) : Bool :=
  w.readBack.any fun r => decide (r.stage = .writing)

/-- The host chunks that a fault drops from the queue and the fetch. -/
def Writer.faultDrops (w : Writer) : Nat :=
  hostCount w.queue + if w.fetching then 1 else 0

/-- The writer at a fault, before the copy. -/
def Writer.faulted (w : Writer) : Writer :=
  { w.addDrops w.faultDrops with
    parked := []
    held := []
    queue := w.queue.filter fun c => !c.isHost
    wip := if w.fetching then none else w.wip
    keyWait := true }

/-- The media blocks with the parked and the queued host chunks dropped, before the fetch. -/
def Media.faultDropped (m : Media) : Media :=
  m.modWriter fun w => { w.addDrops (hostCount m.writer.queue) with
    parked := []
    held := []
    queue := w.queue.filter fun c => !c.isHost }

/-- The count of drops leaves the chunks alone, and they leave it alone. -/
theorem Writer.addDrops_cleared (w : Writer) (n : Nat) (queue : List Chunk) :
    ({ w with parked := [], held := [], queue := queue } : Writer).addDrops n =
      { w.addDrops n with parked := [], held := [], queue := queue } := by
  have index : ({ w with parked := [], held := [], queue := queue } : Writer).openIndex = w.openIndex := rfl
  cases open_ : w.openIndex with
  | none => rw [Writer.addDrops_of_closed n open_, Writer.addDrops_of_closed n (index.trans open_)]
  | some i =>
    by_cases none : n = 0
    · rw [none, Writer.addDrops_zero, Writer.addDrops_zero]
    · rw [Writer.addDrops_of_some open_ none, Writer.addDrops_of_some (index.trans open_) none]
      rfl

theorem Media.writerFault_eq (m : Media) (env : Env) : m.writerFault env =
    ((m.faultDropped.fetchFailed env).modWriter fun w => { w with keyWait := true }).pieceLost env := rfl

section
variable (m : Media) (env : Env)

/-- The fetch's part of a fault: the writer's chunks go, and the link is left alone. -/
theorem Media.fault_fetch : ((m.faultDropped.fetchFailed env).modWriter fun w => { w with keyWait := true }).writer =
    m.writer.faulted ∧ (m.faultDropped.fetchFailed env).exch = m.exch := by
  have kept : m.faultDropped.writer.wip = m.writer.wip := by
    show (m.writer.addDrops (hostCount m.writer.queue)).wip = _
    rw [Writer.addDrops_frame]
  by_cases fetching : m.writer.fetching = true
  · obtain ⟨p, wip, stage⟩ := (Option.any_eq_true _ _).mp fetching
    rw [Media.fetchFailed_of_fetching env (kept.trans wip) (of_decide_eq_true stage)]
    obtain ⟨writer, exch⟩ := Media.finish_of_none_held (m := m.faultDropped) env .fetchFailed p.chunk rfl
    refine ⟨?_, exch⟩
    have dropped : m.faultDropped.writer.addDrops 1 = { m.writer.addDrops (hostCount m.writer.queue + 1) with
        parked := [], held := [], queue := m.writer.queue.filter fun c => !c.isHost } := by
      rw [← Writer.addDrops_addDrops]
      exact Writer.addDrops_cleared _ _ _
    show { (m.faultDropped.finish env .fetchFailed p.chunk).writer.addDrops 1 with wip := none, keyWait := true } = _
    rw [writer, dropped, Writer.faulted, Writer.faultDrops, if_pos fetching, if_pos fetching]
  · have other : ∀ p, m.faultDropped.writer.wip = some p → p.stage ≠ .fetching := by
      intro p wip stage
      exact fetching ((Option.any_eq_true _ _).mpr ⟨p, kept.symm.trans wip, decide_eq_true stage⟩)
    rw [Media.fetchFailed_of_other env other]
    refine ⟨?_, rfl⟩
    rw [Writer.faulted, Writer.faultDrops, if_neg fetching, if_neg fetching, ← kept]
    rfl
end

/-- The slot's request free, every other as it was. -/
structure Exchange.Freed (e d : Exchange) (slot : Nat) : Prop where
  transfers : d.transfers = e.transfers
  free : d.working.getD slot none = none
  others : ∀ other, other ≠ slot → d.working.getD other none = e.working.getD other none

theorem getD_set_none {α : Type} (l : List (Option α)) (i : Nat) : (l.set i none).getD i none = none := by
  rw [List.getD_eq_getElem?_getD, List.getElem?_set, if_pos rfl]
  split <;> rfl

theorem getD_set_other {α : Type} (l : List (Option α)) {i j : Nat} (other : j ≠ i) (x : Option α) :
    (l.set i x).getD j none = l.getD j none := by
  rw [List.getD_eq_getElem?_getD, List.getElem?_set_ne other.symm, List.getD_eq_getElem?_getD]

theorem Exchange.freeSlot_freed (e : Exchange) (slot : Nat) : e.Freed (e.freeSlot slot) slot :=
  ⟨rfl, getD_set_none _ _, fun _ other => getD_set_other _ other none⟩

/-- An answer that is not written frees its slot. -/
theorem Exchange.answer_freed {e : Exchange} (now : Stamp) (slot : Nat) (a : Answer) (stopped : e.state ≠ .running) :
    e.Freed (e.answer now slot a) slot := by
  unfold Exchange.answer
  split
  case h_1 free => exact ⟨rfl, free, fun _ _ => rfl⟩
  case h_2 =>
    rw [Exchange.writeRecord_of_not_running now _ stopped]
    exact e.freeSlot_freed slot

section
variable {m : Media} (env : Env)

/-- The media blocks of a fault, before the copy. -/
def Media.fetchFaulted (m : Media) (env : Env) : Media :=
  (m.faultDropped.fetchFailed env).modWriter fun w => { w with keyWait := true }

/-- The writer at a fault, item by item. -/
theorem Writer.faulted_parts (w : Writer) : w.faulted.state = w.state ∧ w.faulted.expected = w.expected ∧
    w.faulted.queue = (w.queue.filter fun k => decide (k.kind = .motion)) ∧
    (∀ (d : Tables) (i : Nat), w.tables = some d → w.openIndex = some i →
      w.faulted.tables = some { d with
        dir := d.dir.modify i (Option.map fun c => { c with drops := c.drops + w.faultDrops }) } ∧
      w.faulted.updates = if w.faultDrops = 0 then w.updates else addOnce w.updates (1 + i / 2)) ∧
    (w.openIndex = none → w.faulted.tables = w.tables ∧ w.faulted.updates = w.updates) := by
  have state : (w.addDrops w.faultDrops).state = w.state := by rw [Writer.addDrops_frame]
  have expected : (w.addDrops w.faultDrops).expected = w.expected := by rw [Writer.addDrops_frame]
  refine ⟨state, expected, List.filter_congr fun c _ => ?_,
    fun d i tables index => ⟨Writer.addDrops_tables _ tables index, Writer.addDrops_updates _ index⟩, fun closed => ?_⟩
  · simp [Chunk.isHost]
  · have same : w.addDrops w.faultDrops = w := Writer.addDrops_of_closed _ closed
    have tables : (w.addDrops w.faultDrops).tables = w.tables := by rw [same]
    have updates : (w.addDrops w.faultDrops).updates = w.updates := by rw [same]
    exact ⟨tables, updates⟩

theorem Writer.faulted_readBack (w : Writer) : w.faulted.readBack = w.readBack := by
  rw [Writer.faulted, Writer.addDrops_frame]

theorem Media.fetchFaulted_readBack (m : Media) : (m.fetchFaulted env).writer.readBack = m.writer.readBack := by
  rw [Media.fetchFaulted, (m.fault_fetch env).1, Writer.faulted_readBack]

/-- A fault with a copy in flight: the read-back goes, and its slot is free. -/
theorem Media.writerFault_of_copying {r : ReadBack} (stopped : m.exch.state ≠ .running) (reads : m.writer.readBack = some r)
    (writing : r.stage = .writing) : (m.writerFault env).writer = { m.writer.faulted with readBack := none } ∧
    (m.exch.mapPurposes Purpose.withoutCopy).Freed (m.writerFault env).exch r.slot := by
  obtain ⟨writer, exch⟩ := m.fault_fetch env
  have whole : m.writerFault env = (m.fetchFaulted env).readBackGone.answer env r.slot
      ((Answer.failed .link).withData (toLe 4 r.copied)) :=
    Media.pieceLost_of_writing env ((m.fetchFaulted_readBack env).trans reads) writing
  rw [whole]
  refine ⟨?_, ?_⟩
  · show { (m.fetchFaulted env).writer with readBack := none } = _
    rw [Media.fetchFaulted, writer]
  · show Exchange.Freed _ (((m.faultDropped.fetchFailed env).exch.mapPurposes Purpose.withoutCopy).answer _ _ _) _
    rw [exch]
    exact Exchange.answer_freed _ _ _ stopped

theorem Media.writerFault_of_other (other : ∀ r, m.writer.readBack = some r → r.stage ≠ .writing) :
    (m.writerFault env).writer = m.writer.faulted ∧ (m.writerFault env).exch = m.exch := by
  have whole : m.writerFault env = m.fetchFaulted env :=
    Media.pieceLost_of_other env (m := m.fetchFaulted env) fun r reads =>
      other r ((m.fetchFaulted_readBack env).symm.trans reads)
  rw [whole]
  exact m.fault_fetch env
end

/-! ### The exchange FAULTED (R193) -/

/-- The transfer is part of an answer in the slot, or a section read for its request. -/
def Transfer.Frees (t : Transfer) (slot : Nat) : Prop :=
  (∃ k, t.purpose = .profileSection slot k) ∨ ∃ (r : Record) (part : RecordPart), t.purpose = .record r part ∧ r.kind = .answer slot

/-- What a transfer that is abandoned leaves behind. -/
def Exchange.abandon (e : Exchange) (t : Transfer) : Exchange :=
  match t.purpose with
  | .record r _ => e.recordDone r.kind
  | .profileSection slot _ => e.freeSlot slot
  | .requestBoard | .chunkBoard | .sheet _ | .payload _ | .readBackWrite _ => e

/-- The slot that an abandoned transfer frees, if it frees one. -/
def Transfer.freed (t : Transfer) : Option Nat :=
  match t.purpose with
  | .record ⟨.answer slot, _, _, _, _⟩ _ => some slot
  | .profileSection slot _ => some slot
  | _ => none

theorem Transfer.frees_iff (t : Transfer) (slot : Nat) : t.Frees slot ↔ t.freed = some slot := by
  obtain ⟨purpose, address, out, length, issued⟩ := t
  refine ⟨?_, fun h => ?_⟩
  · rintro (⟨k, rfl⟩ | ⟨⟨kind, offset, head, body, tailAt⟩, part, rfl, rfl⟩) <;> rfl
  · cases purpose with
    | record r part =>
      obtain ⟨kind, offset, head, body, tailAt⟩ := r
      cases kind with
      | answer other => exact .inr ⟨_, part, rfl, congrArg RecordKind.answer (Option.some.inj h)⟩
      | _ => cases h
    | profileSection other k => exact .inl ⟨k, congrArg (Purpose.profileSection · k) (Option.some.inj h)⟩
    | _ => cases h

theorem Exchange.abandon_eq (e : Exchange) (t : Transfer) : e.abandon t = t.freed.elim e e.freeSlot := by
  obtain ⟨purpose, address, out, length, issued⟩ := t
  cases purpose with
  | record r part =>
    obtain ⟨kind, offset, head, body, tailAt⟩ := r
    cases kind <;> rfl
  | _ => rfl

/-- An abandoned transfer frees the slots that it was for. -/
theorem Exchange.abandon_working (e : Exchange) (t : Transfer) : ∃ working, e.abandon t = { e with working := working } ∧
    ∀ slot, (t.Frees slot → working.getD slot none = none) ∧ (¬t.Frees slot → working.getD slot none = e.working.getD slot none) := by
  rw [Exchange.abandon_eq]
  simp only [Transfer.frees_iff]
  cases freed : t.freed with
  | none => exact ⟨e.working, rfl, fun slot => ⟨fun h => absurd h.symm (Option.some_ne_none _), fun _ => rfl⟩⟩
  | some own =>
    refine ⟨e.working.set own none, rfl, fun slot => ⟨fun h => ?_, fun h => ?_⟩⟩
    · rw [Option.some.inj h]
      exact getD_set_none _ _
    · exact getD_set_other _ (fun same => h (congrArg some same.symm)) none

theorem Exchange.abandonAll_working (l : List Transfer) (e : Exchange) :
    ∃ working, l.foldl Exchange.abandon e = { e with working := working } ∧
    ∀ slot, ((∃ u ∈ l, u.Frees slot) → working.getD slot none = none) ∧
      ((¬∃ u ∈ l, u.Frees slot) → working.getD slot none = e.working.getD slot none) := by
  induction l generalizing e with
  | nil => exact ⟨e.working, rfl, fun slot => ⟨fun ⟨_, mem, _⟩ => absurd mem List.not_mem_nil, fun _ => rfl⟩⟩
  | cons t l ih =>
    obtain ⟨first, abandoned, firstFreed⟩ := e.abandon_working t
    obtain ⟨working, rest, freed⟩ := ih { e with working := first }
    refine ⟨working, by rw [List.foldl_cons, abandoned, rest], fun slot => ⟨?_, fun none => ?_⟩⟩
    · rintro ⟨u, mem, frees⟩
      by_cases later : ∃ u ∈ l, u.Frees slot
      · exact (freed slot).1 later
      · rw [(freed slot).2 later]
        rcases List.mem_cons.mp mem with rfl | inRest
        · exact (firstFreed slot).1 frees
        · exact absurd ⟨u, inRest, frees⟩ later
    · rw [(freed slot).2 fun ⟨u, mem, frees⟩ => none ⟨u, List.mem_cons_of_mem _ mem, frees⟩]
      exact (firstFreed slot).2 fun frees => none ⟨t, List.mem_cons_self, frees⟩

theorem Exchange.fault_eq (e : Exchange) : e.fault = ({ e.transfers.foldl Exchange.abandon e with
    state := .faulted, pickup := none, pickupHeld := false, periodWait := none, periodOwed := false, transfers := [] } :
      Exchange).raise .exchangeFault := by
  rfl

/-! ### The engine at a fault (R50) -/

/-- The link, and the held and parked chunks, are as they were. -/
def Media.SameLink (m n : Media) : Prop :=
  n.exch = m.exch ∧ n.writer.held = m.writer.held ∧ n.writer.parked = m.writer.parked

theorem Media.SameLink.refl (m : Media) : m.SameLink m := ⟨rfl, rfl, rfl⟩

theorem Media.SameLink.trans {m n k : Media} (first : m.SameLink n) (second : n.SameLink k) : m.SameLink k :=
  ⟨second.1.trans first.1, second.2.1.trans first.2.1, second.2.2.trans first.2.2⟩

section
variable {m : Media} (env : Env) (o : Orientation)

theorem Media.handOver_sameLink (m : Media) (id : BufferId) : m.SameLink (m.handOver id) := by
  unfold Media.handOver
  split <;> exact ⟨rfl, rfl, rfl⟩

theorem Media.keepRecord_sameLink (m : Media) (r : MotionRecord) : m.SameLink (m.keepRecord r) := by
  unfold Media.keepRecord
  split
  · split
    · dsimp only
      split
      · exact Media.handOver_sameLink _ _
      · exact ⟨rfl, rfl, rfl⟩
    · have frame : ∀ w : Writer, (w.addMotionDrops 1).held = w.held ∧ (w.addMotionDrops 1).parked = w.parked := by
        intro w
        unfold Writer.addMotionDrops
        split <;> exact ⟨rfl, rfl⟩
      exact ⟨rfl, frame m.writer⟩
  · exact .refl m

theorem Media.computeHead_sameLink (stopped : m.exch.state ≠ .running) (f : Frame) (h : HeadFigures) :
    m.SameLink (m.computeHead env o f h) := by
  have exch : ∀ r : Record, (∀ slot, r.kind ≠ .answer slot) → m.exch.writeRecord env.now r = m.exch := fun r other => by
    rw [Exchange.writeRecord_of_not_running _ _ stopped, Exchange.recordDone_of_other _ other]
  unfold Media.computeHead
  refine Media.SameLink.trans ?_ (Media.keepRecord_sameLink _ _)
  exact ⟨exch _ fun _ => RecordKind.noConfusion, rfl, rfl⟩

theorem Media.advanceHead_sameLink (n : Nat) (stopped : m.exch.state ≠ .running) : m.SameLink (Media.advanceHead env o n m) := by
  induction n generalizing m with
  | zero => exact .refl m
  | succ n ih =>
    unfold Media.advanceHead
    split
    · split
      case isTrue running => exact absurd (m.exch.running_iff.mp running) stopped
      case isFalse => exact ih (m := m.modSteady _) stopped
    · split
      case isTrue =>
        have computed := Media.computeHead_sameLink env o stopped (by assumption) (by assumption)
        exact computed.trans (ih (by rw [computed.1]; exact stopped))
      case isFalse => exact .refl m
    · exact .refl m

theorem Media.sheetEnd_sameLink (stopped : m.exch.state ≠ .running) (sheet : Option (List Byte)) :
    m.SameLink (m.sheetEnd env o sheet) := by
  unfold Media.sheetEnd
  split
  · exact Media.advanceHead_sameLink (m := m.modSteady _) env o 16 stopped
  · exact .refl m

/-- A sheet read that ends without a sheet fixes the times with the held values. -/
theorem Media.sheetEnd_none_of_not_ready {f : Frame} {rest : List Frame} (stage : m.steady.headStage = .reading)
    (frames : m.steady.frames = f :: rest)
    (early : (HeadFigures.of f.start m.steady.heldSheet true false).ready o env.now = false) :
    m.sheetEnd env o none = { m with steady := { m.steady with
      headStage := .waiting, head := some (HeadFigures.of f.start m.steady.heldSheet true false)
      heldTotal := min 65535 (m.steady.heldTotal + 1) } } := by
  have settles : m.sheetEnd env o none =
      (m.headHeld f).runHead env o := by
    rw [Media.sheetEnd, stage, frames]
    rfl
  rw [settles, Media.runHead_of_not_ready (m := m.headHeld f) (f := f) (rest := rest) env o frames rfl rfl early]
  rfl
end

/-! ### The commands (R190, R193) -/

section
variable {s : State} {n : Nat} {t : Transfer}

/-- The media blocks with the exchange FAULTED, as the Clip Writer has taken it. -/
def State.faultTaken (s : State) : Media :=
  ({ s.media with exch := s.media.exch.fault } : Media).writerFault s.env

theorem Exchange.sheetPending_iff (e : Exchange) : e.sheetPending = true ↔ ∃ u ∈ e.transfers, u.purpose = .sheet true := by
  rw [Exchange.sheetPending, List.any_eq_true]
  simp only [decide_eq_true_eq]

theorem State.exchangeFault_of_no_sheet (none : ¬∃ u ∈ s.media.exch.transfers, u.purpose = .sheet true) :
    s.exchangeFault = { s with media := s.faultTaken } := by
  have quiet : s.media.exch.sheetPending = false := Bool.eq_false_iff.mpr (mt s.media.exch.sheetPending_iff.mp none)
  rw [State.exchangeFault]
  rw [quiet]
  rfl

theorem State.exchangeFault_of_sheet (pending : ∃ u ∈ s.media.exch.transfers, u.purpose = .sheet true) :
    s.exchangeFault = { s with media := s.faultTaken.sheetEnd s.env s.orientation none } := by
  rw [State.exchangeFault]
  rw [s.media.exch.sheetPending_iff.mpr pending]
  rfl

/-- The exchange at a fault, but for the slots that are free with it. -/
theorem Exchange.fault_working (e : Exchange) : e.fault = ({ e with
    state := .faulted, pickup := none, pickupHeld := false, periodWait := none, periodOwed := false, transfers := []
    working := e.fault.working } : Exchange).raise .exchangeFault ∧
    ∀ slot, ((∃ u ∈ e.transfers, u.Frees slot) → e.fault.working.getD slot none = none) ∧
      ((¬∃ u ∈ e.transfers, u.Frees slot) → e.fault.working.getD slot none = e.working.getD slot none) := by
  obtain ⟨working, all, freed⟩ := Exchange.abandonAll_working e.transfers e
  have whole := e.fault_eq
  rw [all] at whole
  have same : e.fault.working = working := by rw [whole]; rfl
  refine ⟨?_, ?_⟩
  · rw [same]
    exact whole
  · rw [same]
    exact freed

theorem Exchange.fault_stopped (e : Exchange) : e.fault.state ≠ .running := ExchangeState.noConfusion

/-- The link and the writer's held and parked chunks at a fault, before the engine. -/
theorem State.faultTaken_link (s : State) : s.faultTaken.exch.state = .faulted ∧
    s.faultTaken.exch.flagSet .exchangeFault = true ∧ s.faultTaken.exch.transfers = [] ∧ s.faultTaken.exch.pickup = none ∧
    s.faultTaken.exch.periodWait = none ∧ s.faultTaken.exch.periodOwed = false ∧ s.faultTaken.writer.held = [] ∧
    s.faultTaken.writer.parked = [] := by
  have rest : s.faultTaken.exch.rest = s.media.exch.fault.rest := congrArg Prod.fst (Media.writerFault_rest _ _)
  have kept : ∀ {α : Type} (f : Exchange → α), f s.faultTaken.exch.rest = f s.media.exch.fault.rest := fun f => by rw [rest]
  have flag : s.faultTaken.exch.flagSet .exchangeFault = true := by
    have same : s.faultTaken.exch.attn = s.media.exch.fault.attn := kept Exchange.attn
    rw [Exchange.flagSet, same]
    exact Exchange.raise_flagSet _ _
  refine ⟨kept Exchange.state, flag, ?_, kept Exchange.pickup, kept Exchange.periodWait, kept Exchange.periodOwed, ?_⟩
  all_goals
    by_cases copying : ∃ r, s.media.writer.readBack = some r ∧ r.stage = .writing
  · obtain ⟨r, reads, writing⟩ := copying
    exact (Media.writerFault_of_copying (m := { s.media with exch := s.media.exch.fault }) s.env s.media.exch.fault_stopped reads
      writing).2.transfers
  · have same := (Media.writerFault_of_other (m := { s.media with exch := s.media.exch.fault }) s.env
      fun r reads writing => copying ⟨r, reads, writing⟩).2
    rw [State.faultTaken, same]
    rfl
  · obtain ⟨r, reads, writing⟩ := copying
    have writer := (Media.writerFault_of_copying (m := { s.media with exch := s.media.exch.fault }) s.env
      s.media.exch.fault_stopped reads writing).1
    rw [State.faultTaken, writer]
    exact ⟨rfl, rfl⟩
  · have writer := (Media.writerFault_of_other (m := { s.media with exch := s.media.exch.fault }) s.env
      fun r reads writing => copying ⟨r, reads, writing⟩).1
    rw [State.faultTaken, writer]
    exact ⟨rfl, rfl⟩

/-- The state at a fault: the media blocks alone have changed, and the engine left the link as it was. -/
theorem State.exchangeFault_link (s : State) : ∃ m : Media, s.exchangeFault = { s with media := m } ∧ s.faultTaken.SameLink m := by
  by_cases pending : ∃ u ∈ s.media.exch.transfers, u.purpose = .sheet true
  · refine ⟨_, State.exchangeFault_of_sheet pending, Media.sheetEnd_sameLink _ _ ?_ _⟩
    rw [s.faultTaken_link.1]
    exact ExchangeState.noConfusion
  · exact ⟨_, State.exchangeFault_of_no_sheet pending, .refl _⟩

theorem exec_linkTransferFailed_of_fault (at_ : s.media.exch.transferAt n = some t) (running : s.media.exch.state = .running)
    (area : t.purpose.inArea = true) : exec (.linkTransferFailed n) s = .next s.exchangeFault.settle := by
  show Host.Outcome.next (s.linkFailed n).settle = _
  rw [State.linkFailed, at_, Option.map_some]
  dsimp only
  rw [if_pos (by rw [s.media.exch.running_iff.mpr running, area]; rfl)]

theorem exec_linkTransferFailed_of_owner (at_ : s.media.exch.transferAt n = some t)
    (owner : ¬(s.media.exch.state = .running ∧ t.purpose.inArea = true)) : exec (.linkTransferFailed n) s =
      .next ((s.modExch fun e => e.dropTransfer n).transferFailed t.purpose).settle := by
  show Host.Outcome.next (s.linkFailed n).settle = _
  rw [State.linkFailed, at_, Option.map_some]
  dsimp only
  rw [if_neg]
  rw [Bool.and_eq_true, Exchange.running_iff]
  exact owner

theorem Transfer.overdue_iff (t : Transfer) (now : Stamp) : t.overdue now = true ↔ 50000 ≤ (now - t.issued).toInt :=
  reached_iff _ _ _

theorem exec_linkTransferUnanswered_of_fault (at_ : s.media.exch.transferAt n = some t) (running : s.media.exch.state = .running)
    (late : 50000 ≤ (s.clock.count - t.issued).toInt) : exec (.linkTransferUnanswered n) s = .next s.exchangeFault.settle := by
  show Host.Outcome.next (s.linkUnanswered n).settle = _
  rw [State.linkUnanswered, at_, State.now]
  dsimp only
  rw [if_pos ((t.overdue_iff _).mpr late), if_pos (s.media.exch.running_iff.mpr running)]

theorem exec_linkTransferUnanswered_of_owner (at_ : s.media.exch.transferAt n = some t) (stopped : s.media.exch.state ≠ .running)
    (late : 50000 ≤ (s.clock.count - t.issued).toInt) : exec (.linkTransferUnanswered n) s =
      .next ((s.modExch fun e => e.dropTransfer n).transferFailed t.purpose).settle := by
  show Host.Outcome.next (s.linkUnanswered n).settle = _
  rw [State.linkUnanswered, at_, State.now]
  dsimp only
  rw [if_pos ((t.overdue_iff _).mpr late), if_neg (mt s.media.exch.running_iff.mp stopped)]

theorem exec_linkTransferUnanswered_of_early (at_ : s.media.exch.transferAt n = some t)
    (early : ¬50000 ≤ (s.clock.count - t.issued).toInt) : exec (.linkTransferUnanswered n) s = .next s.settle := by
  show Host.Outcome.next (s.linkUnanswered n).settle = _
  rw [State.linkUnanswered, at_, State.now]
  dsimp only
  rw [if_neg (mt (t.overdue_iff _).mp early)]
end

end Sys2Proof.Machine

namespace Sys2Proof.Proofs
open Sys2Proof.Machine

/-- Settles O55: a fault by the sheet read that was pending, an owner's failure by the transfer's purpose, and the Clip Writer's part by
the fetch and the copy in progress. -/
theorem linkFailures : Obligations.LinkFailures := by
  refine ⟨?_, ?_, ?_, ?_⟩
  · intro s n t at_ faulted unanswered
    have fault : ∀ c : Instr, exec c s = .next s.exchangeFault.settle → faulted c := by
      intro c run
      obtain ⟨m, whole, exch, held, parked⟩ := s.exchangeFault_link
      obtain ⟨state, flag, transfers, pickup, wait, owed, noHeld, noParked⟩ := s.faultTaken_link
      obtain ⟨fields, freed⟩ := s.media.exch.fault_working
      rw [whole] at run
      refine ⟨_, run, ?_, ?_, ?_, ?_, ?_, ?_, held.trans noHeld, parked.trans noParked, rfl, rfl, rfl, s.media.exch.fault, fields,
        freed, fun none => ?_, ?_⟩
      · exact (congrArg Exchange.state exch).trans state
      · exact (congrArg (Exchange.flagSet · .exchangeFault) exch).trans flag
      · exact (congrArg Exchange.transfers exch).trans transfers
      · exact (congrArg Exchange.pickup exch).trans pickup
      · exact (congrArg Exchange.periodWait exch).trans wait
      · exact (congrArg Exchange.periodOwed exch).trans owed
      · rw [← whole]
        exact State.exchangeFault_of_no_sheet none
      · intro g rest pending stage frames k early
        rw [← whole, State.exchangeFault_of_sheet pending]
        exact congrArg (fun m => ({ s with media := m } : State))
          (Media.sheetEnd_none_of_not_ready s.env s.orientation stage frames early)
    refine ⟨fun running area => fault _ (exec_linkTransferFailed_of_fault at_ running area), fun running late =>
      fault _ (exec_linkTransferUnanswered_of_fault at_ running late), exec_linkTransferUnanswered_of_early at_, ?_, ?_, ?_, ?_, ?_, ?_⟩
    · intro p purpose _ _
      rw [exec_linkTransferFailed_of_owner at_ (by rw [purpose]; exact fun both => Bool.false_ne_true both.2), purpose]
      rfl
    · rintro (purpose | purpose) <;>
      · rw [exec_linkTransferFailed_of_owner at_ (by rw [purpose]; exact fun both => Bool.false_ne_true both.2), purpose]
        rfl
    · intro purpose
      rw [exec_linkTransferFailed_of_owner at_ (by rw [purpose]; exact fun both => Bool.false_ne_true both.2), purpose]
      rfl
    · intro stopped late purpose
      rw [exec_linkTransferUnanswered_of_owner at_ stopped late, purpose]
      rfl
    · intro stopped late purpose
      rw [exec_linkTransferUnanswered_of_owner at_ stopped late, purpose]
      rfl
    · intro stopped d ends
      have owner : ∀ x : State, d.transferFailed t.purpose = x → ends x := by
        rintro x rfl
        exact ⟨fun _ => exec_linkTransferFailed_of_owner at_ fun both => stopped both.1,
          exec_linkTransferUnanswered_of_owner at_ stopped⟩
      refine ⟨?_, ?_, ?_, ?_, ?_, ?_⟩
      · rintro (purpose | purpose | purpose) <;> exact owner _ (by rw [purpose]; rfl)
      · intro purpose
        have lost : d.transferFailed t.purpose = d.pickupLost := by
          rcases purpose with purpose | purpose <;> rw [purpose] <;> rfl
        refine ⟨fun none => owner _ ?_, fun p some => owner _ ?_⟩
        · rw [lost, State.pickupLost, none]
        · rw [lost, State.pickupLost, some]
      · intro purpose
        exact owner _ (by rw [purpose]; rfl)
      · intro g rest stage frames k early
        exact Media.sheetEnd_none_of_not_ready d.env d.orientation stage frames early
      · intro slot k purpose
        exact owner _ (by rw [purpose]; rfl)
      · intro r part purpose
        have skipped : d.transferFailed t.purpose = d.recordSkipped r.kind := by rw [purpose]; rfl
        refine ⟨fun slot kind => owner _ ?_, fun kind => owner _ ?_, fun h kind => owner _ ?_⟩
        · rw [skipped, kind]
          rfl
        · rw [skipped, kind]
          rfl
        · rw [skipped]
          rcases kind with kind | kind | ⟨b, kind⟩ <;> rw [kind] <;> rfl
  · intro m env p h address i d e wip fetching source seq held mounted tables index entry
    have finished : m.finish env .fetchFailed p.chunk = { m with
        writer := { m.writer with held := m.writer.held.filter fun x => decide (x ≠ h) }
        exch := m.exch.writeRecord env.now (receiptRecord h .fetchFailed) } := by
      have slot : (⟨h.slot, h.edition, p.chunk.seq⟩ : HeldSlot) = h := by rw [← seq]
      rw [Media.finish, source]
      dsimp only
      rw [slot, Media.receipt_of_held env _ held]
    have open_ : (m.writer.openIndex) = some i := (Writer.openIndex_of_tables mounted tables).trans index
    rw [Media.fetchFailed_of_fetching env wip fetching, finished]
    have counted := Writer.addDrops_of_open (w := { m.writer with held := m.writer.held.filter fun x => decide (x ≠ h) }) 1
      mounted tables index Nat.one_ne_zero
    exact congrArg (fun w : Writer => ({ m with
      writer := { w with wip := none, keyWait := true }
      exch := m.exch.writeRecord env.now (receiptRecord h .fetchFailed) } : Media)) counted
  · intro m env stopped w x fetching copying dropped
    obtain ⟨state, expected, queue, counted, closed⟩ := w.faulted_parts
    by_cases copies : ∃ r, w.readBack = some r ∧ r.stage = .writing
    · obtain ⟨r, reads, writing⟩ := copies
      obtain ⟨writer, freed⟩ := Media.writerFault_of_copying env stopped reads writing
      have isCopying : copying = true := (Option.any_eq_true _ _).mpr ⟨r, reads, decide_eq_true writing⟩
      rw [writer]
      refine ⟨state, expected, rfl, rfl, rfl, queue, rfl, (if_pos isCopying).symm, counted, closed, ?_, fun slot => ?_⟩
      · rw [freed.transfers]
        exact List.map_congr_left fun t _ => (if_pos isCopying).symm
      · rw [reads, Option.any_some]
        by_cases own : slot = r.slot
        · rw [own, freed.free, if_pos (decide_eq_true ⟨writing, rfl⟩)]
        · rw [freed.others slot own, if_neg]
          · rfl
          · rw [decide_eq_true_iff]
            exact fun both => own both.2.symm
    · have other : ∀ r, w.readBack = some r → r.stage ≠ .writing := fun r reads writing => copies ⟨r, reads, writing⟩
      obtain ⟨writer, exch⟩ := Media.writerFault_of_other env other
      have notCopying : ¬copying = true := fun h => by
        obtain ⟨r, reads, writing⟩ := (Option.any_eq_true _ _).mp h
        exact other r reads (of_decide_eq_true writing)
      have noSlot : ∀ slot, ¬(w.readBack.any fun r => decide (r.stage = .writing ∧ r.slot = slot)) = true := fun slot h => by
        obtain ⟨r, reads, writing⟩ := (Option.any_eq_true _ _).mp h
        exact other r reads (of_decide_eq_true writing).1
      rw [writer, exch]
      refine ⟨state, expected, rfl, rfl, rfl, queue, rfl, ?_, counted, closed, ?_, fun slot => (if_neg (noSlot slot)).symm⟩
      · rw [if_neg notCopying]
        exact w.faulted_readBack
      · refine (List.map_id'' (fun t => ?_) _).symm
        exact if_neg notCopying
  · intro m env r reads writing
    exact Media.pieceLost_of_writing env reads writing

end Sys2Proof.Proofs
end

section
/-! PROOFS. What the Card Port makes of the card's answers, and an identification step by step (R136, R138, R139). -/

namespace Sys2Proof.Machine

/-! ### The Card Port's commands, by what they make of the card -/

section
variable {s : State} {f : Card → Card} {d : Card}

theorem State.cardActs_of_same (eq : f s.media.card = d) (same : d.state = s.media.card.state) :
    s.cardActs f = { s with media := { s.media with card := d } } := by
  rw [State.cardActs, State.modMedia, eq, Media.cardNews_of_quiet fun news => news.1 same]

theorem State.cardActs_of_busy (busy : s.media.card.state = .busy) (eq : f s.media.card = d)
    (goes : d.state = .busy ∨ d.state = .ready ∨ d.state = .identifying) :
    s.cardActs f = { s with media := { s.media with card := d } } := by
  rw [State.cardActs, State.modMedia, eq, Media.cardNews_of_quiet]
  rintro ⟨-, absent | fault | ⟨-, other⟩⟩
  · rcases goes with h | h | h <;> exact CardState.noConfusion (h.symm.trans absent)
  · rcases goes with h | h | h <;> exact CardState.noConfusion (h.symm.trans fault)
  · exact other busy

theorem State.cardActs_of_news (identifying : s.media.card.state = .identifying) (eq : f s.media.card = d)
    (goes : d.state = .fault ∨ d.state = .ready) :
    s.cardActs f = ({ s with media := { s.media with card := d } } : State).raise .card := by
  rw [State.cardActs, State.modMedia, eq, Media.cardNews_of_news]
  · rfl
  · rcases goes with h | h
    · exact ⟨by rw [h, identifying]; exact fun e => CardState.noConfusion e, .inr (.inl h)⟩
    · exact ⟨by rw [h, identifying]; exact fun e => CardState.noConfusion e,
        .inr (.inr ⟨h, by rw [identifying]; exact fun e => CardState.noConfusion e⟩)⟩

theorem exec_cardCommandResponse (s : State) (response status : Byte) : exec (.cardCommandResponse response status) s =
    .next (s.cardActs fun c => c.response s.clock.count response status).settle := rfl

theorem exec_cardResponseMissing (s : State) :
    exec .cardResponseMissing s = .next (s.cardActs fun c => c.noResponse s.clock.count).settle := rfl

theorem exec_readBlockReceived (s : State) (mark : Byte) (data : List Byte) (check : BitVec 16) :
    exec (.readBlockReceived mark data check) s =
      .next (s.cardActs fun c => c.blockReceived s.clock.count mark data check).settle := rfl

theorem exec_identificationTimeout (s : State) :
    exec .identificationTimeout s = .next (s.cardActs fun c => c.identExpiry s.clock.count).settle := rfl

theorem exec_readSectorTimeout (s : State) :
    exec .readSectorTimeout s = .next (s.cardActs fun c => c.sectorExpiry s.clock.count).settle := rfl

theorem exec_writeBlockAnswer (s : State) (answer : Byte) :
    exec (.writeBlockAnswer answer) s = .next (s.cardActs fun c => c.blockAnswer s.clock.count answer).settle := rfl

theorem exec_cardBusyEnd (s : State) :
    exec .cardBusyEnd s = .next (s.cardActs fun c => c.busyEnd s.clock.count).settle := rfl

theorem exec_cardBusyTimeout (s : State) :
    exec .cardBusyTimeout s = .next (s.cardActs fun c => c.busyExpiry s.clock.count).settle := rfl
end

/-! ### Claims that end, and an identification that fails (R139, R140) -/

/-- The outcome of a place's waiting claim as every waiting claim ends. -/
def waitingOutcome (cls : ClaimClass) (o : RunOutcome) (now : Stamp) (place : Option Claim) : List Delivery :=
  place.toList.map fun _ => ⟨cls, o, [], now⟩

section
variable (c : Card) (now : Stamp)

theorem Card.endClaims_eq (o : RunOutcome) : c.endClaims o now = { c with
    volume := none, chunk := none, readBack := none
    outcomes := c.outcomes ++ waitingOutcome .volume o now c.volume ++ waitingOutcome .chunk o now c.chunk ++
      waitingOutcome .readBack o now c.readBack } := by
  obtain ⟨_, _, _, _, _, _, _, volume, chunk, readBack⟩ := c
  cases volume <;> cases chunk <;> cases readBack <;>
    simp [Card.endClaims, Card.place, Card.setPlace, Card.deliver, waitingOutcome]

/-- The card in FAULT after an identification that failed, its waiting claims aside. -/
def Card.identFailed (timeouts : Nat) : Card :=
  { c with
    state := .fault, ident := none, identWait := none, timeouts := timeouts
    capacity := if c.recovery then c.capacity else 0 }

theorem Card.identFail_eq (late : Bool) : c.identFail now late = { c with
    state := .fault, ident := none, identWait := none, volume := none, chunk := none, readBack := none
    timeouts := if late then min 65535 (c.timeouts + 1) else c.timeouts
    capacity := if c.recovery then c.capacity else 0
    outcomes := c.outcomes ++ waitingOutcome .volume .timeout now c.volume ++ waitingOutcome .chunk .timeout now c.chunk ++
      waitingOutcome .readBack .timeout now c.readBack } :=
  Card.endClaims_eq _ now .timeout

/-- No claim waits at the Card Port. -/
def Card.NoClaim : Prop :=
  c.volume = none ∧ c.chunk = none ∧ c.readBack = none

variable {c now}

theorem Card.identFail_of_no_claim (h : c.NoClaim) (late : Bool) :
    c.identFail now late = c.identFailed (if late then min 65535 (c.timeouts + 1) else c.timeouts) := by
  obtain ⟨volume, chunk, readBack⟩ := h
  rw [Card.identFail_eq, Card.identFailed, volume, chunk, readBack]
  simp [waitingOutcome]

theorem Card.identEnd_of_same {size : Nat} (h : c.recovery = false ∨ size = c.capacity) :
    c.identEnd now size = { c with state := .ready, fast := true, ident := none, identWait := none, capacity := size } := by
  rw [Card.identEnd, if_neg]
  rcases h with h | h <;> simp [h]

theorem Card.identEnd_of_other {size : Nat} (h : c.recovery = true ∧ size ≠ c.capacity) :
    c.identEnd now size = c.identFail now false := by
  rw [Card.identEnd, if_pos]
  simpa using h

/-! ### The response to a step, its absence, the capacity block and the 1,000 ms (R136, R139) -/

section
variable {step : IdentStep} {response status : Byte}

theorem Card.response_of_ident (valid : response.getLsbD 7 = false) (owed : c.stopOwed = false) (ident : c.ident = some step) :
    c.response now response status = c.identResponse now step response status := by
  rw [Card.response, if_neg, if_neg, ident]
  · rw [owed]
    exact Bool.false_ne_true
  · rw [isResponse, valid]
    exact Bool.false_ne_true

theorem Card.response_of_run {r : Run} (valid : response.getLsbD 7 = false) (owed : c.stopOwed = false) (ident : c.ident = none)
    (run : c.run = some r) : c.response now response status = c.runResponse now r response status := by
  rw [Card.response, if_neg, if_neg, ident, run]
  · rw [owed]
    exact Bool.false_ne_true
  · rw [isResponse, valid]
    exact Bool.false_ne_true

theorem Card.identResponse_status_fails {size : Nat} (h : response ≠ 0 ∨ status ≠ 0 ∨ (c.recovery = true ∧ size ≠ c.capacity)) :
    c.identResponse now (.status size) response status = c.identFail now false := by
  by_cases good : response = 0 ∧ status = 0
  · refine (if_pos good).trans (Card.identEnd_of_other ?_)
    rcases h with h | h | h
    · exact absurd good.1 h
    · exact absurd good.2 h
    · exact h
  · exact if_neg good

theorem Card.noResponse_of_ident (owed : c.stopOwed = false) (ident : c.ident = some step) (block : step ≠ .capacityBlock)
    (wake : step ≠ .wake) : c.noResponse now = c.identFail now true := by
  rw [Card.noResponse, if_neg (by rw [owed]; exact Bool.false_ne_true), ident]
  cases step with
  | wake => exact absurd rfl wake
  | capacityBlock => exact absurd rfl block
  | reset | readiness | capacity | status => rfl

theorem Card.capacityBlock_good {data : List Byte} {check : BitVec 16} (ident : c.ident = some .capacityBlock)
    (good : check = crc16Block (slice data 0 512)) (low : 1 ≤ beNat (slice data 0 512) 0 8)
    (high : beNat (slice data 0 512) 0 8 ≤ 4294967296) : c.blockReceived now 0xFE#8 data check = { c with
      ident := some (.status (beNat (slice data 0 512) 0 8)), exchanges := c.exchanges + 1 } := by
  simp [Card.blockReceived, markOf, ident, good, low, high, Card.begin]

theorem Card.capacityBlock_bad {data : List Byte} {check : BitVec 16} (ident : c.ident = some .capacityBlock)
    (bad : check ≠ crc16Block (slice data 0 512) ∨ beNat (slice data 0 512) 0 8 = 0 ∨ 4294967296 < beNat (slice data 0 512) 0 8) :
    c.blockReceived now 0xFE#8 data check = c.identFail now false := by
  have bad : ¬((crc16Block (slice data 0 512) == check) && decide (1 ≤ beNat (slice data 0 512) 0 8) &&
      decide (beNat (slice data 0 512) 0 8 ≤ 4294967296)) = true := by
    rw [Bool.and_eq_true, Bool.and_eq_true, beq_iff_eq, decide_eq_true_iff, decide_eq_true_iff]
    rintro ⟨⟨good, low⟩, high⟩
    rcases bad with bad | bad | bad
    · exact bad good.symm
    · omega
    · omega
  rw [Card.blockReceived, ident]
  exact if_neg bad

theorem Card.identExpiry_of_due {a : Wait} (ident : c.ident = some step) (wait : c.identWait = some a)
    (due : (a.length : Int) ≤ (now - a.start).toInt) : c.identExpiry now = c.identFail now true :=
  if_pos ⟨by rw [ident]; rfl, by rw [wait]; exact (reached_iff ..).mpr due⟩

theorem Card.identExpiry_of_early {a : Wait} (wait : c.identWait = some a)
    (early : (now - a.start).toInt < (a.length : Int)) : c.identExpiry now = c :=
  if_neg fun h => by
    rw [wait] at h
    exact Bool.false_ne_true (((not_reached_iff ..).mpr early).symm.trans h.2)
end
end
end Sys2Proof.Machine

namespace Sys2Proof.Proofs
open Sys2Proof.Machine

/-- Settles O34: each step asks for one response; any other, none at all, and the 1,000 ms lead to FAULT. -/
theorem identification : Obligations.Identification := by
  unfold Obligations.Identification
  intro s step c goes fails state ident owed volume chunk readBack
  have claims : c.NoClaim := ⟨volume, chunk, readBack⟩
  have moves : ∀ {f : Card → Card} {d : Card}, f c = d → d.state = .identifying →
      (.next (s.cardActs f).settle : Host.Outcome State Fault Refusal) = .next (goes d) := fun eq h =>
    congrArg (fun x : State => Host.Outcome.next x.settle) (State.cardActs_of_same eq (h.trans state.symm))
  have failing : ∀ {f : Card → Card} (late : Bool), f c = c.identFail s.clock.count late →
      (.next (s.cardActs f).settle : Host.Outcome State Fault Refusal) =
        .next (fails (if late then min 65535 (c.timeouts + 1) else c.timeouts)) := fun late eq =>
    congrArg (fun x : State => Host.Outcome.next x.settle)
      (State.cardActs_of_news state (eq.trans (Card.identFail_of_no_claim claims late)) (.inl rfl))
  refine ⟨fun response status valid => ?_, fun data check block => ?_, fun block wake => failing true
    (Card.noResponse_of_ident owed ident block wake), fun a wait => ⟨fun due => failing true (Card.identExpiry_of_due ident wait due),
      fun early => ?_⟩⟩
  · have answer : c.response s.clock.count response status = c.identResponse s.clock.count step response status :=
      Card.response_of_ident valid owed ident
    refine ⟨?_, ?_, ?_, ?_, ?_, ?_, ?_, ?_, ?_⟩
    · rintro rfl good
      exact moves (answer.trans (if_pos good)) state
    · rintro rfl bad
      exact failing false (answer.trans (if_neg bad))
    · rintro rfl good
      exact moves (answer.trans (if_pos good)) state
    · rintro rfl again
      exact moves (answer.trans ((if_neg (by rw [again]; decide)).trans (if_pos again))) state
    · rintro rfl bad other
      exact failing false (answer.trans ((if_neg bad).trans (if_neg other)))
    · rintro rfl good
      exact moves (answer.trans (if_pos good)) state
    · rintro rfl bad
      exact failing false (answer.trans (if_neg bad))
    · rintro n rfl good fine same
      exact congrArg (fun x : State => Host.Outcome.next x.settle) (State.cardActs_of_news state
        (answer.trans ((if_pos ⟨good, fine⟩).trans (Card.identEnd_of_same same))) (.inr rfl))
    · rintro n rfl bad
      exact failing false (answer.trans (Card.identResponse_status_fails bad))
  · subst block
    exact ⟨fun good low high => moves (Card.capacityBlock_good ident good low high) state,
      fun bad => failing false (Card.capacityBlock_bad ident bad)⟩
  · exact congrArg (fun x : State => Host.Outcome.next x.settle) (State.cardActs_of_same (Card.identExpiry_of_early wait early) rfl)
end Sys2Proof.Proofs
end

section
/-! PROOFS. Runs of the Card Port as they go on and end (R136, R142, R143, R145), claims and the arbiter (R140, R141, R144, R147). -/

namespace Sys2Proof.Machine

/-! ### How a run ends -/

/-- The outcomes that wait for the Clip Writer after a run has ended. -/
def Card.given (c : Card) (r : Run) (o : RunOutcome) (completion : Stamp) : List Delivery :=
  if r.wanted then c.outcomes ++ [⟨r.cls, o, r.got, completion⟩] else c.outcomes

section
variable (c : Card) (r : Run) (now : Stamp)

theorem Card.endRun_eq (o : RunOutcome) (completion : Stamp) :
    c.endRun r o completion = { c with run := none, state := .ready, outcomes := c.given r o completion } := by
  rw [Card.endRun, Card.given]
  split <;> rfl

theorem Card.failRead_eq : c.failRead now r = { c with
    run := none, state := .ready, outcomes := c.given r .readError now, readErrors := min 65535 (c.readErrors + 1)
    stopOwed := true, exchanges := c.exchanges + 1 } := by
  rw [Card.failRead, Card.endRun_eq]
  rfl

theorem Card.failWrite_eq : c.failWrite now r = { c with
    run := none, state := .ready, outcomes := c.given r .writeError now, writeErrors := min 65535 (c.writeErrors + 1) } := by
  rw [Card.failWrite, Card.endRun_eq]
  rfl

/-- The card as a run has ended TIMEOUT: the RECOVERY identification has sent its reset command. -/
def Card.timedOut : Card :=
  { c with
    run := none, state := .identifying, outcomes := c.given r .timeout now, timeouts := min 65535 (c.timeouts + 1)
    fast := false, ident := some .reset, identWait := some ⟨now, 1000000⟩, recovery := true, stopOwed := false
    exchanges := c.exchanges + 1 }

theorem Card.timeOutRun_eq : c.timeOutRun now r = c.timedOut r now := by
  rw [Card.timeOutRun, Card.timedOut, Card.given]
  split <;> rfl

variable {c r now}

/-! ### What the card sends to a run -/

section
variable {response status : Byte}

theorem Card.noResponse_of_run (owed : c.stopOwed = false) (ident : c.ident = none) (run : c.run = some r)
    (phase : r.phase = .command ∨ r.phase = .stop ∨ r.phase = .status) : c.noResponse now = c.timedOut r now := by
  rw [Card.noResponse, if_neg (by rw [owed]; exact Bool.false_ne_true), ident, run, ← Card.timeOutRun_eq]
  rcases phase with phase | phase | phase <;> simp only [phase]

theorem Card.readResponse_command (reads : r.claim.data = none) (phase : r.phase = .command) (good : response = 0) :
    c.runResponse now r response status = { c with run := some { r with phase := .block, wait := some ⟨now, 100000⟩ } } := by
  simp [Card.runResponse, phase, good, Claim.isWrite, reads, Card.setRun, sectorWait]

theorem Card.readResponse_stop (phase : r.phase = .stop) (good : response = 0) :
    c.runResponse now r response status =
      { c with run := none, state := .ready, outcomes := c.given r .ok r.completion } := by
  rw [Card.runResponse, phase]
  exact (if_pos good).trans (Card.endRun_eq ..)

theorem Card.readResponse_bad (reads : r.claim.data = none) (phase : r.phase = .command ∨ r.phase = .stop) (bad : response ≠ 0) :
    c.runResponse now r response status = c.failRead now r := by
  rcases phase with phase | phase
  · rw [Card.runResponse, phase]
    exact (if_neg bad).trans (if_neg (by rw [Claim.isWrite, reads]; exact Bool.false_ne_true))
  · rw [Card.runResponse, phase]
    exact if_neg bad

theorem Card.writeResponse_command {data : List Byte} (writes : r.claim.data = some data) (phase : r.phase = .command)
    (good : response = 0) :
    c.runResponse now r response status = { c with run := some { r with phase := .block, wait := none } } := by
  simp [Card.runResponse, phase, good, Claim.isWrite, writes, Card.setRun]

theorem Card.writeResponse_status (phase : r.phase = .status) (good : response = 0) (fine : status = 0) :
    c.runResponse now r response status =
      { c with run := none, state := .ready, outcomes := c.given r .ok r.completion } := by
  rw [Card.runResponse, phase]
  exact (if_pos ⟨good, fine⟩).trans (Card.endRun_eq ..)

theorem Card.writeResponse_command_bad {data : List Byte} (writes : r.claim.data = some data) (phase : r.phase = .command)
    (bad : response ≠ 0) : c.runResponse now r response status = c.failWrite now r := by
  rw [Card.runResponse, phase]
  exact (if_neg bad).trans (if_pos (by rw [Claim.isWrite, writes]; rfl))

theorem Card.writeResponse_status_bad (phase : r.phase = .status) (bad : response ≠ 0 ∨ status ≠ 0) :
    c.runResponse now r response status = c.failWrite now r := by
  rw [Card.runResponse, phase]
  exact if_neg fun ⟨good, fine⟩ => bad.elim (fun h => h good) fun h => h fine
end

/-! ### A sector of a read -/

section
variable {mark : Byte} {data : List Byte} {check : BitVec 16}

theorem markOf_error (low : 1 ≤ mark.toNat) (high : mark.toNat ≤ 15) : markOf mark = .error := by
  have other : mark ≠ 0xFE#8 := by
    rintro rfl
    exact absurd high (by decide)
  rw [markOf, if_neg other, if_pos ⟨low, high⟩]

theorem markOf_other (start : mark ≠ 0xFE#8) (error : mark = 0 ∨ 15 < mark.toNat) : markOf mark = .other := by
  rw [markOf, if_neg start, if_neg]
  rintro ⟨low, high⟩
  rcases error with rfl | error
  · exact absurd low (by decide)
  · omega

section
variable (ident : c.ident = none) (run : c.run = some r) (reads : r.claim.data = none) (phase : r.phase = .block)
include ident run reads phase

theorem Card.blockReceived_good (good : check = crc16Block (slice data 0 512)) :
    c.blockReceived now 0xFE#8 data check = c.sectorGot r now (slice data 0 512) := by
  simp [Card.blockReceived, markOf, ident, run, phase, Claim.isWrite, reads, good]

theorem Card.blockReceived_bad (bad : check ≠ crc16Block (slice data 0 512)) :
    c.blockReceived now 0xFE#8 data check = c.failRead now r := by
  simp [Card.blockReceived, markOf, ident, run, phase, Claim.isWrite, reads, bad.symm]

theorem Card.blockReceived_error (error : markOf mark = .error) : c.blockReceived now mark data check = c.failRead now r := by
  simp [Card.blockReceived, error, ident, run, phase, Claim.isWrite, reads]
end

theorem Card.blockReceived_other (other : markOf mark = .other) : c.blockReceived now mark data check = c := by
  rw [Card.blockReceived, other]

theorem Card.sectorGot_more (phase : r.phase = .block) (more : r.done + 1 < r.claim.count) :
    c.sectorGot r now data = { c with run := some { r with
      done := r.done + 1, got := r.got ++ data, completion := now, wait := some ⟨now, 100000⟩ } } := by
  simp [Card.sectorGot, Run.gotSector, Nat.ne_of_lt more, Card.setRun, sectorWait, phase]

theorem Card.sectorGot_last (last : r.done + 1 = r.claim.count) : c.sectorGot r now data = { c with
    exchanges := c.exchanges + 1
    run := some { r with done := r.done + 1, got := r.got ++ data, completion := now, phase := .stop, wait := none } } := by
  simp [Card.sectorGot, Run.gotSector, last, Card.setRun, Card.begin]

theorem Card.sectorExpiry_of_due {a : Wait} (run : c.run = some r) (reads : r.claim.data = none) (phase : r.phase = .block)
    (wait : r.wait = some a) (due : (a.length : Int) ≤ (now - a.start).toInt) : c.sectorExpiry now = c.timedOut r now := by
  rw [Card.sectorExpiry, run, ← Card.timeOutRun_eq]
  refine if_pos ⟨phase, ?_, by rw [wait]; exact (reached_iff ..).mpr due⟩
  rw [Claim.isWrite, reads]
  rfl

theorem Card.sectorExpiry_of_early {a : Wait} (run : c.run = some r) (wait : r.wait = some a)
    (early : (now - a.start).toInt < (a.length : Int)) : c.sectorExpiry now = c := by
  rw [Card.sectorExpiry, run]
  refine if_neg fun ⟨_, _, due⟩ => ?_
  rw [wait] at due
  exact Bool.false_ne_true (((not_reached_iff ..).mpr early).symm.trans due)
end

/-! ### What a run sends -/

theorem Run.sent_of_command_read (reads : r.claim.data = none) (phase : r.phase = .command) :
    r.sent = (CardExchange.read r.claim.start).command := by
  simp [Run.sent, Run.exchange, phase, Claim.isWrite, reads]

theorem Run.sent_of_block_read (reads : r.claim.data = none) (phase : r.phase = .block) : r.sent = [] := by
  simp only [Run.sent, phase, reads]

theorem Run.sent_of_stop (phase : r.phase = .stop) : r.sent = CardExchange.stop.command := by
  simp only [Run.sent, Run.exchange, phase]
end

/-! ### Claims (R140, R141, R144, R147) -/

section
variable {c : Card} {env : Env} {k : Claim} {cls : ClaimClass}

/-- The card is present and not in FAULT. -/
def Card.Serves (c : Card) : Prop :=
  c.state = .ready ∨ c.state = .busy ∨ c.state = .identifying

theorem Card.hand_of_absent (absent : c.state = .absent) : c.hand env cls k = c.deliver cls .absent [] env.now := by
  rw [Card.hand, absent]

theorem Card.hand_of_fault (fault : c.state = .fault) : c.hand env cls k = c.deliver cls .timeout [] env.now := by
  rw [Card.hand, fault]

theorem Card.hand_of_serves (serves : c.Serves) : c.hand env cls k =
    if k.isWrite && env.warn then c.deliver cls .writeError [] env.now else c.setPlace cls (some k) := by
  rcases serves with state | state | state <;> simp only [Card.hand, state]

/-- A claim waits at a place and may begin. -/
def MayBegin (env : Env) (place : Option Claim) : Prop :=
  ∃ j : Claim, place = some j ∧ ¬(j.data.isSome = true ∧ env.warn = true)

theorem mayBegin_iff {j : Claim} : Claim.mayBegin env j = true ↔ ¬(j.data.isSome = true ∧ env.warn = true) := by
  rw [Claim.mayBegin, Claim.isWrite, Bool.not_eq_true', Bool.and_eq_false_iff, not_and_or, Bool.not_eq_true, Bool.not_eq_true]

theorem filter_of_mayBegin {place : Option Claim} (waits : place = some k) (may : MayBegin env place) :
    place.filter (Claim.mayBegin env) = some k := by
  obtain ⟨j, same, may⟩ := may
  obtain rfl := Option.some.inj (same.symm.trans waits)
  rw [same, Option.filter_some, if_pos (mayBegin_iff.mpr may)]

theorem filter_of_not_mayBegin {place : Option Claim} (none : ¬MayBegin env place) :
    place.filter (Claim.mayBegin env) = Option.none := by
  cases place with
  | none => rfl
  | some j => exact (Option.filter_some ..).trans (if_neg fun may => none ⟨j, rfl, mayBegin_iff.mp may⟩)

theorem Card.pick_of_volume (waits : c.volume = some k) (may : MayBegin env c.volume) : c.pick env = some (.volume, k) := by
  rw [Card.pick, filter_of_mayBegin waits may]

section
variable (volume : ¬MayBegin env c.volume)
include volume

theorem Card.pick_of_chunk (waits : c.chunk = some k) (may : MayBegin env c.chunk) : c.pick env = some (.chunk, k) := by
  rw [Card.pick, filter_of_not_mayBegin volume, filter_of_mayBegin waits may]

variable (chunk : ¬MayBegin env c.chunk)
include chunk

theorem Card.pick_of_readBack (waits : c.readBack = some k) (may : MayBegin env c.readBack) :
    c.pick env = some (.readBack, k) := by
  rw [Card.pick, filter_of_not_mayBegin volume, filter_of_not_mayBegin chunk, filter_of_mayBegin waits may]
  rfl

theorem Card.pick_none (readBack : ¬MayBegin env c.readBack) : c.pick env = none := by
  rw [Card.pick, filter_of_not_mayBegin volume, filter_of_not_mayBegin chunk, filter_of_not_mayBegin readBack]
  rfl
end

theorem Card.inRange_iff : c.inRange k = true ↔ 1 ≤ k.count ∧ k.count ≤ 4096 ∧ k.start + k.count ≤ c.capacity := by
  simp [Card.inRange, and_assoc]

theorem Card.startRun_eq (c : Card) (env : Env) (cls : ClaimClass) (k : Claim) : c.startRun env cls k = { c with
    state := .busy, run := some ⟨cls, k, 0, .command, none, [], env.now, true⟩
    exchanges := if c.stopOwed then c.exchanges else c.exchanges + 1 } := by
  rw [Card.startRun]
  cases owed : c.stopOwed <;> simp [Card.begin, owed]

theorem Card.arbitrate_of_pick (ready : c.state = .ready) (pick : c.pick env = some (cls, k)) : c.arbitrate env =
    if (c.setPlace cls none).inRange k then some ((c.setPlace cls none).startRun env cls k)
    else some ((c.setPlace cls none).deliver cls (if k.isWrite then .writeError else .readError) [] env.now) := by
  rw [Card.arbitrate, if_pos ready, pick]

theorem Card.arbitrate_of_none (pick : c.pick env = none) : c.arbitrate env = none := by
  rw [Card.arbitrate, pick]
  exact ite_self _

theorem Media.follow_of_arbitrate {m : Media} {d : Card} (gone : m.pieceGone env = none) (card : m.card.arbitrate env = some d) :
    m.follow env = some { m with card := d } := by
  have acts : m.arbitrate env = some { m with card := d } := by rw [Media.arbitrate, card]; rfl
  simp only [Media.follow, gone, acts, Option.none_or, Option.some_or]

theorem Card.supplyWarning_of_write {r : Run} (run : c.run = some r) (writes : r.claim.data.isSome = true) (now : Stamp) :
    c.supplyWarning now = { c with run := none, state := .ready, outcomes := c.given r .writeError now } := by
  rw [Card.supplyWarning, run]
  exact (if_pos writes).trans (Card.endRun_eq ..)

theorem Card.supplyWarning_of_read {r : Run} (run : c.run = some r) (reads : r.claim.data = none) (now : Stamp) :
    c.supplyWarning now = c := by
  rw [Card.supplyWarning, run]
  exact if_neg (by rw [Claim.isWrite, reads]; exact Bool.false_ne_true)
end
end Sys2Proof.Machine

namespace Sys2Proof.Proofs
open Sys2Proof.Machine

/-- Settles O35: a read run phase by phase, and the claims at their places. -/
theorem readRun : Obligations.ReadRun := by
  unfold Obligations.ReadRun
  refine ⟨?_, ?_⟩
  · intro s r c now goes given readError timedOut state run ident owed reads
    have moves : ∀ {f : Card → Card} {d : Card}, f c = d → d.state = .busy ∨ d.state = .ready ∨ d.state = .identifying →
        (.next (s.cardActs f).settle : Host.Outcome State Fault Refusal) = .next (goes d) := fun eq h =>
      congrArg (fun x : State => Host.Outcome.next x.settle) (State.cardActs_of_busy state eq h)
    have stays : ∀ {f : Card → Card}, f c = c → (.next (s.cardActs f).settle : Host.Outcome State Fault Refusal) = .next s.settle :=
      fun eq => congrArg (fun x : State => Host.Outcome.next x.settle) (State.cardActs_of_same eq rfl)
    have errs : ∀ {f : Card → Card}, f c = c.failRead now r →
        (.next (s.cardActs f).settle : Host.Outcome State Fault Refusal) = .next readError := fun eq =>
      moves (eq.trans (Card.failRead_eq c r now)) (.inr (.inl rfl))
    have late : ∀ {f : Card → Card}, f c = c.timedOut r now →
        (.next (s.cardActs f).settle : Host.Outcome State Fault Refusal) = .next timedOut := fun eq =>
      moves eq (.inr (.inr rfl))
    refine ⟨fun response status valid => ?_, fun mark data check phase => ?_, fun a phase wait => ⟨fun due => ?_, fun early => ?_⟩,
      fun phase => ?_, Run.sent_of_command_read reads, Run.sent_of_block_read reads, Run.sent_of_stop⟩
    · have answer : c.response now response status = c.runResponse now r response status :=
        Card.response_of_run valid owed ident run
      exact ⟨fun phase good => moves (answer.trans (Card.readResponse_command reads phase good)) (.inl state),
        fun phase good => moves (answer.trans (Card.readResponse_stop phase good)) (.inr (.inl rfl)),
        fun phase bad => errs (answer.trans (Card.readResponse_bad reads phase bad))⟩
    · refine ⟨?_, ?_, ?_, fun low high => errs (Card.blockReceived_error ident run reads phase (markOf_error low high)),
        fun start other => stays (Card.blockReceived_other (markOf_other start other))⟩
      · rintro rfl good more
        exact moves ((Card.blockReceived_good ident run reads phase good).trans (Card.sectorGot_more phase more)) (.inl state)
      · rintro rfl good last
        exact moves ((Card.blockReceived_good ident run reads phase good).trans (Card.sectorGot_last last)) (.inl state)
      · rintro rfl bad
        exact errs (Card.blockReceived_bad ident run reads phase bad)
    · exact late (Card.sectorExpiry_of_due run reads phase wait due)
    · exact stays (Card.sectorExpiry_of_early run wait early)
    · exact late (Card.noResponse_of_run owed ident run (phase.imp_right .inl))
  · intro c env k write ends
    refine ⟨fun cls => ⟨Card.hand_of_absent, Card.hand_of_fault, fun serves writes warn => ?_⟩, fun serves free => ?_, ?_,
      fun m d => Media.follow_of_arbitrate, fun r run => ⟨fun writes => Card.supplyWarning_of_write run writes _,
      fun reads => Card.supplyWarning_of_read run reads _⟩, fun late => Card.identFail_eq c env.now late⟩
    · exact (Card.hand_of_serves serves).trans (if_pos (by rw [Bool.and_eq_true]; exact ⟨writes, warn⟩))
    · have places : ∀ cls, c.hand env cls k = c.setPlace cls (some k) := fun cls =>
        (Card.hand_of_serves serves).trans (if_neg (by rw [Bool.and_eq_true]; exact free))
      exact ⟨places .volume, places .chunk, places .readBack⟩
    · intro fits may taken
      have begins : ∀ cls, c.state = .ready → c.pick env = some (cls, k) → (c.setPlace cls none).stopOwed = c.stopOwed →
          (c.setPlace cls none).exchanges = c.exchanges → (c.setPlace cls none).capacity = c.capacity →
          taken (c.setPlace cls none) cls := by
        intro cls ready pick owed count capacity
        have range : (c.setPlace cls none).inRange k = true ↔ fits := by rw [Card.inRange_iff, capacity]
        refine ⟨fun inside => ?_, fun outside => ?_⟩
        · rw [Card.arbitrate_of_pick ready pick, if_pos (range.mpr inside), Card.startRun_eq, owed, count]
        · rw [Card.arbitrate_of_pick ready pick, if_neg (outside ∘ range.mp)]
          rfl
      refine ⟨?_, ?_, ?_, ?_⟩
      · rintro (other | ⟨volume, chunk, readBack⟩)
        · exact if_neg other
        · exact Card.arbitrate_of_none (Card.pick_none volume chunk readBack)
      · exact fun ready waits mayIt => begins .volume ready (Card.pick_of_volume waits mayIt) rfl rfl rfl
      · exact fun ready volume waits mayIt => begins .chunk ready (Card.pick_of_chunk volume waits mayIt) rfl rfl rfl
      · exact fun ready volume chunk waits mayIt =>
          begins .readBack ready (Card.pick_of_readBack volume chunk waits mayIt) rfl rfl rfl
end Sys2Proof.Proofs
end

section
/-! PROOFS. A write run: the blocks sent and answered, the busy periods, the status command (R136, R143, R145). -/

namespace Sys2Proof.Machine

section
variable {c : Card} {r : Run} {now : Stamp} {data : List Byte}

/-! ### A block's answer and the busy periods -/

section
variable {answer : Byte} (run : c.run = some r) (writes : r.claim.data = some data) (phase : r.phase = .block)
include run writes phase

theorem Card.blockAnswer_of_accepted (accepted : answer.extractLsb' 0 5 = 5) :
    c.blockAnswer now answer = { c with run := some { r with phase := .busy, wait := some ⟨now, 250000⟩ } } := by
  rw [Card.blockAnswer, run]
  exact (if_pos ⟨phase, by rw [Claim.isWrite, writes]; rfl⟩).trans (if_pos (beq_iff_eq.mpr accepted))

theorem Card.blockAnswer_of_rejected (rejected : answer.extractLsb' 0 5 ≠ 5) : c.blockAnswer now answer = { c with
    writeErrors := min 65535 (c.writeErrors + 1)
    run := some { r with phase := .rejected, wait := some ⟨now, 250000⟩ } } := by
  rw [Card.blockAnswer, run]
  exact (if_pos ⟨phase, by rw [Claim.isWrite, writes]; rfl⟩).trans (if_neg (rejected ∘ beq_iff_eq.mp))
end

section
variable (run : c.run = some r)
include run

theorem Card.busyEnd_of_last (phase : r.phase = .busy) (last : r.done + 1 = r.claim.count) : c.busyEnd now = { c with
    run := some { r with done := r.done + 1, phase := .finalBusy, wait := some ⟨now, 250000⟩ } } := by
  simp only [Card.busyEnd, run, phase]
  exact if_pos last

theorem Card.busyEnd_of_more (phase : r.phase = .busy) (more : r.done + 1 ≠ r.claim.count) :
    c.busyEnd now = { c with run := some { r with done := r.done + 1, phase := .block, wait := none } } := by
  simp only [Card.busyEnd, run, phase]
  exact if_neg more

theorem Card.busyEnd_of_final (phase : r.phase = .finalBusy) : c.busyEnd now = { c with
    exchanges := c.exchanges + 1, run := some { r with phase := .status, wait := none, completion := now } } := by
  simp only [Card.busyEnd, run, phase]
  rfl

theorem Card.busyEnd_of_rejected (phase : r.phase = .rejected) : c.busyEnd now = { c with
    run := none, state := .ready, outcomes := c.given r .writeError now } := by
  simp only [Card.busyEnd, run, phase]
  exact Card.endRun_eq ..

theorem Card.busyExpiry_eq (phase : r.phase = .busy ∨ r.phase = .finalBusy ∨ r.phase = .rejected) :
    c.busyExpiry now = if waitDue r.wait now then c.timedOut r now else c := by
  rw [← Card.timeOutRun_eq]
  rcases phase with phase | phase | phase <;> simp only [Card.busyExpiry, run, phase]
end

/-! ### What a write run sends -/

theorem Run.sent_of_command_write (writes : r.claim.data = some data) (phase : r.phase = .command) :
    r.sent = (CardExchange.write r.claim.start).command := by
  simp [Run.sent, Run.exchange, phase, Claim.isWrite, writes]

theorem Run.sent_of_busy (phase : r.phase = .busy) : r.sent = [] := by
  simp only [Run.sent, phase]

theorem Run.sent_of_stopMark (phase : r.phase = .finalBusy ∨ r.phase = .rejected) : r.sent = [0xFD] := by
  rcases phase with phase | phase <;> simp [Run.sent, phase]

theorem Run.sent_of_status (phase : r.phase = .status) : r.sent = CardExchange.status.command := by
  simp only [Run.sent, Run.exchange, phase]

/-- A block as it is sent: its mark, its sector and the sector's check, high byte first. -/
def blockSent (sector : List Byte) : List Byte :=
  0xFC#8 :: (sector ++ [BitVec.ofNat 8 ((crc16Block sector).toNat / 256), BitVec.ofNat 8 (crc16Block sector).toNat])

theorem Run.sent_of_block_write (writes : r.claim.data = some data) (phase : r.phase = .block) :
    r.sent = blockSent (slice data (512 * r.done) 512) := by
  simp only [Run.sent, phase, writes, blockSent]

theorem beNat_two (bs : List Byte) (i : Nat) : beNat bs i 2 = (byteAt bs i).toNat * 256 + (byteAt bs (i + 1)).toNat := by
  simp [beNat, List.range_succ]

section
variable {sector : List Byte} (length : sector.length = 512)
include length

theorem blockSent_length : (blockSent sector).length = 515 := by
  simp [blockSent, length]

theorem blockSent_sector : slice (blockSent sector) 1 512 = sector := by
  rw [blockSent, ← List.singleton_append, slice_append_of_le _ _ _ (by simp)]
  exact slice_append _ _ length

theorem blockSent_check : beNat (blockSent sector) 513 2 = (crc16Block sector).toNat := by
  have byte : ∀ k, byteAt (blockSent sector) (513 + k) =
      byteAt [BitVec.ofNat 8 ((crc16Block sector).toNat / 256), BitVec.ofNat 8 (crc16Block sector).toNat] k := fun k => by
    rw [blockSent, ← List.singleton_append, ← List.append_assoc, byteAt_append_of_le _ _ (by simp [length])]
    simp [length]
  have small := (crc16Block sector).isLt
  rw [beNat_two, byte 0, byte 1]
  simp [byteAt]
  omega
end
end
end Sys2Proof.Machine

namespace Sys2Proof.Proofs
open Sys2Proof.Machine

/-- Settles O36, phase by phase. -/
theorem writeRun : Obligations.WriteRun := by
  unfold Obligations.WriteRun
  intro s r data c now goes given writeError timedOut state run ident owed writes
  have moves : ∀ {f : Card → Card} {d : Card}, f c = d → d.state = .busy ∨ d.state = .ready ∨ d.state = .identifying →
      (.next (s.cardActs f).settle : Host.Outcome State Fault Refusal) = .next (goes d) := fun eq h =>
    congrArg (fun x : State => Host.Outcome.next x.settle) (State.cardActs_of_busy state eq h)
  have errs : ∀ {f : Card → Card}, f c = c.failWrite now r →
      (.next (s.cardActs f).settle : Host.Outcome State Fault Refusal) = .next (writeError (min 65535 (c.writeErrors + 1))) :=
    fun eq => moves (eq.trans (Card.failWrite_eq c r now)) (.inr (.inl rfl))
  refine ⟨fun response status valid => ?_,
    fun answer phase => ⟨fun accepted => moves (Card.blockAnswer_of_accepted run writes phase accepted) (.inl state),
      fun rejected => moves (Card.blockAnswer_of_rejected run writes phase rejected) (.inl state)⟩,
    fun phase last => moves (Card.busyEnd_of_last run phase last) (.inl state),
    fun phase more => moves (Card.busyEnd_of_more run phase more) (.inl state),
    fun phase => moves (Card.busyEnd_of_final run phase) (.inl state),
    fun phase => moves (Card.busyEnd_of_rejected run phase) (.inr (.inl rfl)),
    fun a phase wait => ?_,
    fun phase => moves (Card.noResponse_of_run owed ident run (phase.imp_right .inr)) (.inr (.inr rfl)),
    Run.sent_of_command_write writes, fun phase => ?_, Run.sent_of_busy, Run.sent_of_stopMark, Run.sent_of_status⟩
  · have answer : c.response now response status = c.runResponse now r response status :=
      Card.response_of_run valid owed ident run
    exact ⟨fun phase good => moves (answer.trans (Card.writeResponse_command writes phase good)) (.inl state),
      fun phase good fine => moves (answer.trans (Card.writeResponse_status phase good fine)) (.inr (.inl rfl)),
      fun phase bad => errs (answer.trans (Card.writeResponse_command_bad writes phase bad)),
      fun phase bad => errs (answer.trans (Card.writeResponse_status_bad phase bad))⟩
  · have expiry : c.busyExpiry now = if reached now a.start a.length then c.timedOut r now else c := by
      rw [Card.busyExpiry_eq run phase, wait, waitDue_some]
    exact ⟨fun due => moves (expiry.trans (if_pos ((reached_iff ..).mpr due))) (.inr (.inr rfl)),
      fun early => moves (expiry.trans (if_neg (by rw [(not_reached_iff ..).mpr early]; exact Bool.false_ne_true))) (.inl state)⟩
  · rw [Run.sent_of_block_write writes phase]
    have length := slice_length data (512 * r.done) 512
    exact ⟨blockSent_length length, rfl, blockSent_sector length, blockSent_check length⟩
end Sys2Proof.Proofs
end

section
/-! PROOFS. The bytes of answers, receipts, correction entries, mirror entries, motion records and MOTION payloads
(R62, R64, R93, R112, R196, R197, spec/12 section 12.10). -/

namespace Sys2Proof.Machine

/-! ### Words of bits, numbers with a sign -/

theorem bitsNat_testBit (l : List Bool) (k : Nat) : (bitsNat l).testBit k = l.getD k false := by
  induction l generalizing k with
  | nil => simp [bitsNat]
  | cons b l ih =>
    have low : (if b then 1 else 0 : Nat) < 2 := by split <;> omega
    have split : bitsNat (b :: l) = 2 ^ 1 * bitsNat l + if b then 1 else 0 := by rw [bitsNat]; omega
    rw [split, Nat.testBit_two_pow_mul_add _ low]
    cases k with
    | zero => cases b <;> rfl
    | succ k => rw [if_neg (by omega), Nat.add_sub_cancel, ih, List.getD_cons_succ]

/-- The bits of a word of 16 that stands at a place. -/
theorem word_bit {bs : List Byte} {place : Nat} {l : List Bool} (word : leNat bs place 2 = bitsNat l % 256 ^ 2) {k : Nat}
    (low : k < 16) : (BitVec.ofNat 16 (leNat bs place 2)).getLsbD k = l.getD k false := by
  rw [word, show 256 ^ 2 = 2 ^ 16 by rfl, ← BitVec.testBit_toNat, BitVec.toNat_ofNat, Nat.mod_mod, Nat.testBit_mod_two_pow,
    bitsNat_testBit, decide_eq_true low, Bool.true_and]

theorem entryFlags_bits {bs : List Byte} {place : Nat} (f : EntryFlags) (word : leNat bs place 2 = f.word % 256 ^ 2) :
    (List.range 16).map (fun k => (BitVec.ofNat 16 (leNat bs place 2)).getLsbD k) = [f.skipped, f.paramsHeld, f.sheetClamped,
      f.pathSeeded, f.marginHit.yaw, f.marginHit.pitch, f.marginHit.roll, f.short, f.held, f.gap, f.sat, f.missed,
      false, false, false, false] :=
  (List.map_congr_left fun _ low => word_bit word (List.mem_range.mp low)).trans rfl

theorem leNat_toLeInt (n : Nat) (v : Int) : leNat (toLeInt n v) 0 n = (BitVec.ofInt (8 * n) v).toNat := by
  rw [toLeInt, leNat_toLe_mod, Nat.mod_eq_of_lt]
  have small := (BitVec.ofInt (8 * n) v).isLt
  rwa [Nat.pow_mul] at small

/-- A signed number of two bytes within its range reads back. -/
theorem leInt_two_of_leNat {bs : List Byte} {i : Nat} {v : Int} (h : leNat bs i 2 = (BitVec.ofInt 16 v).toNat)
    (low : -32768 ≤ v) (high : v < 32768) : leInt bs i 2 = v := by
  rw [leInt, h]
  show (BitVec.ofNat 16 (BitVec.ofInt 16 v).toNat).toInt = v
  rw [BitVec.ofNat_toNat, BitVec.setWidth_eq, BitVec.toInt_ofInt, Int.bmod_eq_of_le] <;> norm_num <;> omega

@[simp] theorem toLeInt_length (n : Nat) (v : Int) : (toLeInt n v).length = n := toLe_length n _

@[simp] theorem axesBytes_length (a : Axes Int) : (axesBytes a).length = 12 := by
  simp [axesBytes]

/-- The three numbers of `axesBytes`. -/
theorem axesBytes_numbers (a : Axes Int) : leNat (axesBytes a) 0 4 = (BitVec.ofInt 32 a.yaw).toNat ∧
    leNat (axesBytes a) 4 4 = (BitVec.ofInt 32 a.pitch).toNat ∧ leNat (axesBytes a) 8 4 = (BitVec.ofInt 32 a.roll).toNat := by
  rw [axesBytes]
  refine ⟨?_, ?_, ?_⟩
  · rw [leNat_append_of_lt _ _ (by simp)]
    exact leNat_toLeInt 4 a.yaw
  · rw [leNat_append_of_le _ _ (by simp), toLeInt_length, leNat_append_of_lt _ _ (by simp)]
    exact leNat_toLeInt 4 a.pitch
  · rw [leNat_append_of_le _ _ (by simp), toLeInt_length, leNat_append_of_le _ _ (by simp), toLeInt_length]
    exact leNat_toLeInt 4 a.roll

/-- A part of a field that stands at its place. -/
theorem layoutFrom_part {size pos : Nat} {items : List (Nat × List Byte)} (h : Fits size pos items) {x : Nat × List Byte}
    (hx : x ∈ items) {j n : Nat} (inside : j + n ≤ x.2.length) :
    leNat (layoutFrom size pos items) (x.1 - pos + j) n = leNat x.2 j n :=
  leNat_congr fun k hk => by rw [Nat.add_assoc]; exact layoutFrom_byte h hx (by omega)

/-! ### Bands -/

@[simp] theorem Band.bytes_length (b : Band) : b.bytes.length = 8 := by
  simp [Band.bytes]

theorem Band.flagWord_eq (b : Band) :
    b.flagWord = (if b.clamp then 1 else 0) + (if b.short then 2 else 0) + (if b.held then 4 else 0) := by
  rw [Band.flagWord]
  cases b.clamp <;> cases b.short <;> cases b.held <;> rfl

theorem Band.bytes_numbers (b : Band) : leNat b.bytes 0 2 = (BitVec.ofInt 16 b.x).toNat ∧
    leNat b.bytes 2 2 = (BitVec.ofInt 16 b.y).toNat ∧ leNat b.bytes 4 2 = (BitVec.ofInt 16 b.r).toNat ∧
    leNat b.bytes 6 2 = (if b.clamp then 1 else 0) + (if b.short then 2 else 0) + (if b.held then 4 else 0) := by
  rw [Band.bytes]
  refine ⟨?_, ?_, ?_, ?_⟩
  · rw [leNat_append_of_lt _ _ (by simp)]
    exact leNat_toLeInt 2 b.x
  · rw [leNat_append_of_le _ _ (by simp), toLeInt_length, leNat_append_of_lt _ _ (by simp)]
    exact leNat_toLeInt 2 b.y
  · rw [leNat_append_of_le _ _ (by simp), toLeInt_length, leNat_append_of_le _ _ (by simp), toLeInt_length,
      leNat_append_of_lt _ _ (by simp)]
    exact leNat_toLeInt 2 b.r
  · rw [leNat_append_of_le _ _ (by simp), toLeInt_length, leNat_append_of_le _ _ (by simp), toLeInt_length,
      leNat_append_of_le _ _ (by simp), toLeInt_length, leNat_toLe_mod, Band.flagWord_eq]
    cases b.clamp <;> cases b.short <;> cases b.held <;> rfl

/-- A number of a band in a row of bands that follows a head. -/
theorem leNat_bands {head : List Byte} {bands : List Band} {j : Nat} {b : Band} (hb : bands[j]? = some b) {k n : Nat}
    (inside : k + n ≤ 8) : leNat (head ++ bands.flatMap Band.bytes) (head.length + k + 8 * j) n = leNat b.bytes k n := by
  rw [leNat_append_of_le _ _ (by omega), ← leNat_flatMap Band.bytes_length hb inside]
  congr 1
  omega

/-! ### Answers and receipts -/

/-- The fields of an answer's body. -/
def Answer.items (a : Answer) (kind : Nat) : List (Nat × List Byte) :=
  [(2, toLe 1 kind), (3, toLe 1 a.outcome.code), (4, toLe 1 (bitsNat [a.clamped, a.alreadyClosing])),
    (5, toLe 1 ((a.reason.map FailReason.code).getD 0)), (8, a.data)]

theorem AnswerOutcome.code_lt (o : AnswerOutcome) : o.code < 256 := by
  cases o <;> decide

theorem FailReason.code_lt (r : FailReason) : r.code < 256 := by
  cases r <;> decide

theorem ReceiptStatus.code_lt (st : ReceiptStatus) : st.code < 256 := by
  cases st <;> decide

section
variable {a : Answer} {kind : Nat} (data : a.data.length ≤ 54)
include data

theorem Answer.items_fit : Fits 62 2 (a.items kind) := by
  simp only [Answer.items, Fits, toLe_length]
  omega

theorem Answer.body_eq : a.body kind = layoutFrom 62 2 (a.items kind) :=
  List.take_of_length_le (layoutFrom_length (Answer.items_fit (kind := kind) data)).le

theorem Answer.body_length : (a.body kind).length = 60 := by
  rw [Answer.body_eq data, layoutFrom_length (Answer.items_fit data)]

/-- A byte of an answer's head fields. -/
theorem Answer.body_byte {place v : Nat} (mem : (place, toLe 1 v) ∈ a.items kind) (small : v < 256) :
    (byteAt (a.body kind) (place - 2)).toNat = v := by
  rw [Answer.body_eq data, ← leNat_one, layoutFrom_leNat (Answer.items_fit data) mem, Nat.pow_one, Nat.mod_eq_of_lt small]

theorem Answer.body_notes : (byteAt (a.body kind) 2).toNat = (if a.clamped then 1 else 0) + (if a.alreadyClosing then 2 else 0) := by
  have byte : ∀ v < 256, bitsNat [a.clamped, a.alreadyClosing] = v → (byteAt (a.body kind) 2).toNat = v := fun v small same =>
    (Answer.body_byte data (place := 4) (List.mem_of_getElem? (i := 2) rfl) (by rw [same]; exact small)).trans same
  refine byte _ ?_ ?_ <;> cases a.clamped <;> cases a.alreadyClosing <;> decide

theorem Answer.body_reason : (byteAt (a.body kind) 3).toNat = a.reason.elim 0 FailReason.code := by
  have same : (a.reason.map FailReason.code).getD 0 = a.reason.elim 0 FailReason.code := by cases a.reason <;> rfl
  rw [← same]
  refine Answer.body_byte data (place := 5) (List.mem_of_getElem? (i := 3) rfl) ?_
  cases a.reason with
  | none => decide
  | some r => exact r.code_lt

theorem Answer.body_data {i : Nat} (inside : i < a.data.length) : byteAt (a.body kind) (6 + i) = byteAt a.data i := by
  rw [Answer.body_eq data]
  exact layoutFrom_byte (Answer.items_fit data) (x := (8, a.data)) (List.mem_of_getElem? (i := 4) rfl) inside
end

/-- The fields of a receipt's body. -/
def receiptItems (h : HeldSlot) (status : ReceiptStatus) : List (Nat × List Byte) :=
  [(2, toLe 1 status.code), (4, toLe 4 h.seq)]

theorem receiptItems_fit (h : HeldSlot) (status : ReceiptStatus) : Fits 14 2 (receiptItems h status) := by
  simp [receiptItems, Fits]

section
variable (h : HeldSlot) (st : ReceiptStatus)

theorem receiptRecord_length : (receiptRecord h st).body.length = 12 :=
  layoutFrom_length (receiptItems_fit h st)

theorem receiptRecord_status : byteAt (receiptRecord h st).body 0 = BitVec.ofNat 8 st.code :=
  byteAt_of_leNat (layoutFrom_leNat (at_ := 2) (n := 1) (receiptItems_fit h st) (List.mem_of_getElem? (i := 0) rfl))

theorem receiptRecord_seq (small : h.seq < 4294967296) : leNat (receiptRecord h st).body 2 4 = h.seq :=
  (layoutFrom_leNat (at_ := 4) (receiptItems_fit h st) (List.mem_of_getElem? (i := 1) rfl)).trans (Nat.mod_eq_of_lt small)

theorem receiptRecord_gap {i : Nat} (gap : i = 1 ∨ 6 ≤ i) : byteAt (receiptRecord h st).body i = 0 := by
  refine layoutFrom_gap (receiptItems_fit h st) ?_
  simp only [receiptItems, List.forall_mem_cons, List.not_mem_nil, false_implies, implies_true, and_true, toLe_length]
  omega
end

/-! ### Correction entries -/

/-- The fields of an entry's head, from byte 4. -/
def correctionItems (flags : EntryFlags) (centre : Stamp) (bands : List Band) : List (Nat × List Byte) :=
  [(4, toLe 2 flags.word), (6, toLe 1 bands.length), (8, stampBytes centre)]

section
variable (f : EntryFlags) (centre : Stamp) (bands : List Band)

theorem correctionItems_fit : Fits 16 4 (correctionItems f centre bands) := by
  simp [correctionItems, Fits]

theorem correctionHead_length : (layoutFrom 16 4 (correctionItems f centre bands)).length = 12 :=
  layoutFrom_length (correctionItems_fit f centre bands)

theorem correctionBody_eq :
    correctionBody f centre bands = layoutFrom 16 4 (correctionItems f centre bands) ++ bands.flatMap Band.bytes := rfl

theorem correctionBody_length : (correctionBody f centre bands).length = 12 + 8 * bands.length := by
  rw [correctionBody_eq, List.length_append, correctionHead_length, flatMap_length Band.bytes_length]

theorem correctionBody_head {place n : Nat} (inside : place + n ≤ 12) :
    leNat (correctionBody f centre bands) place n = leNat (layoutFrom 16 4 (correctionItems f centre bands)) place n := by
  rw [correctionBody_eq, leNat_append_of_lt _ _ (by rw [correctionHead_length]; exact inside)]

theorem correctionBody_word : leNat (correctionBody f centre bands) 0 2 = f.word % 256 ^ 2 := by
  rw [correctionBody_head _ _ _ (by omega)]
  exact layoutFrom_leNat (at_ := 4) (correctionItems_fit f centre bands) (List.mem_of_getElem? (i := 0) rfl)

theorem correctionBody_count : byteAt (correctionBody f centre bands) 2 = BitVec.ofNat 8 bands.length := by
  refine byteAt_of_leNat ?_
  rw [correctionBody_head _ _ _ (by omega)]
  exact layoutFrom_leNat (at_ := 6) (n := 1) (correctionItems_fit f centre bands) (List.mem_of_getElem? (i := 1) rfl)

theorem correctionBody_gap : byteAt (correctionBody f centre bands) 3 = 0 := by
  rw [correctionBody_eq, byteAt_append_left _ _ (by rw [correctionHead_length]; omega)]
  exact layoutFrom_gap (correctionItems_fit f centre bands) (by simp [correctionItems])

theorem correctionBody_centre : stampAt (correctionBody f centre bands) 4 = centre := by
  refine stampAt_of_leNat ?_
  rw [correctionBody_head _ _ _ (by omega)]
  exact (layoutFrom_leNat (at_ := 8) (n := 8) (v := centre.toNat) (correctionItems_fit f centre bands)
    (List.mem_of_getElem? (i := 2) rfl)).trans (Nat.mod_eq_of_lt (lt_trans centre.isLt (by decide)))

variable {bands}

theorem correctionBody_band {j : Nat} {b : Band} (hb : bands[j]? = some b) {k n : Nat} (inside : k + n ≤ 8) :
    leNat (correctionBody f centre bands) (12 + k + 8 * j) n = leNat b.bytes k n := by
  have band := leNat_bands (head := layoutFrom 16 4 (correctionItems f centre bands)) hb inside
  rwa [correctionHead_length] at band
end

/-! ### Motion records and the payload of a MOTION chunk -/

/-- The fields of a motion record's head. -/
def MotionRecord.items (r : MotionRecord) : List (Nat × List Byte) :=
  [(0, toLe 4 r.frame.toNat), (4, toLe 2 r.flags.word), (6, toLe 1 r.bands.length), (8, stampBytes r.centre),
    (16, axesBytes r.theta), (28, axesBytes r.path)]

section
variable (r : MotionRecord)

theorem MotionRecord.items_fit : Fits 40 0 r.items := by
  simp [MotionRecord.items, Fits]

theorem MotionRecord.head_length : (layoutFrom 40 0 r.items).length = 40 :=
  layoutFrom_length r.items_fit

theorem MotionRecord.bytes_eq : r.bytes = layoutFrom 40 0 r.items ++ r.bands.flatMap Band.bytes := rfl

theorem MotionRecord.bytes_length : r.bytes.length = 40 + 8 * r.bands.length := by
  rw [MotionRecord.bytes_eq, List.length_append, MotionRecord.head_length, flatMap_length Band.bytes_length]

/-- A number of a motion record's head. -/
theorem MotionRecord.bytes_part (i : Nat) {x : Nat × List Byte} (hx : r.items[i]? = some x) {j n : Nat}
    (inside : j + n ≤ x.2.length) (head : x.1 + j + n ≤ 40) : leNat r.bytes (x.1 + j) n = leNat x.2 j n := by
  rw [MotionRecord.bytes_eq, leNat_append_of_lt _ _ (by rw [MotionRecord.head_length]; omega)]
  exact layoutFrom_part r.items_fit (List.mem_of_getElem? hx) inside

theorem MotionRecord.bytes_number (i : Nat) {place n v : Nat} (hx : r.items[i]? = some (place, toLe n v))
    (head : place + n ≤ 40) : leNat r.bytes place n = v % 256 ^ n := by
  rw [← leNat_toLe_mod]
  exact r.bytes_part i hx (j := 0) (by simp) head

theorem MotionRecord.bytes_gap : byteAt r.bytes 7 = 0 := by
  rw [MotionRecord.bytes_eq, byteAt_append_left _ _ (by rw [MotionRecord.head_length]; omega)]
  exact layoutFrom_gap r.items_fit (by simp [MotionRecord.items])

variable {r}

theorem MotionRecord.bytes_band {j : Nat} {b : Band} (hb : r.bands[j]? = some b) {k n : Nat} (inside : k + n ≤ 8) :
    leNat r.bytes (40 + k + 8 * j) n = leNat b.bytes k n := by
  have band := leNat_bands (head := layoutFrom 40 0 r.items) hb inside
  rwa [MotionRecord.head_length] at band
end

/-- The length of the records in bytes. -/
def recordsSize (rs : List MotionRecord) : Nat :=
  (rs.map fun r => 40 + 8 * r.bands.length).sum

theorem records_length (rs : List MotionRecord) : (rs.flatMap MotionRecord.bytes).length = recordsSize rs := by
  rw [List.length_flatMap, recordsSize]
  exact congrArg List.sum (List.map_congr_left fun r _ => r.bytes_length)

theorem motionPayload_length (rs : List MotionRecord) : (motionPayload rs).length = 4 + recordsSize rs := by
  rw [motionPayload, List.length_append, toLe_length, records_length]

theorem motionPayload_record {rs : List MotionRecord} {k : Nat} {r : MotionRecord} (hr : rs[k]? = some r) :
    slice (motionPayload rs) (4 + recordsSize (rs.take k)) (40 + 8 * r.bands.length) = r.bytes := by
  obtain ⟨inside, rfl⟩ := List.getElem?_eq_some_iff.mp hr
  have parts : motionPayload rs = (toLe 4 rs.length ++ (rs.take k).flatMap MotionRecord.bytes) ++
      (rs[k].bytes ++ (rs.drop (k + 1)).flatMap MotionRecord.bytes) := by
    rw [motionPayload, ← List.flatMap_cons, ← List.drop_eq_getElem_cons inside, List.append_assoc, ← List.flatMap_append,
      List.take_append_drop]
  have before : (toLe 4 rs.length ++ (rs.take k).flatMap MotionRecord.bytes).length = 4 + recordsSize (rs.take k) := by
    rw [List.length_append, toLe_length, records_length]
  rw [parts, slice_append_of_le _ _ _ before.le, before, Nat.sub_self]
  exact slice_append _ _ rs[k].bytes_length

/-! ### The records as the obligations speak of them -/

/-- An answer goes to the slot of a request still worked, and nowhere else. -/
theorem State.answer_cases (s : State) (slot : Nat) (a : Answer) :
    (s.media.exch.working.getD slot none = none → s.answer slot a = s) ∧
    (∀ w : Working, s.media.exch.working.getD slot none = some w →
      (s.media.exch.state = .running → s.answer slot a = s.modExch fun e => { e with transfers := e.transfers ++
        [⟨.record ⟨.answer slot, 0x400 + 64 * slot, toLe 2 w.edition.toNat, a.body w.kind, 62⟩ .head,
          e.base + (0x400 + 64 * slot), some (toLe 2 w.edition.toNat), 2, s.clock.count⟩] }) ∧
      (s.media.exch.state ≠ .running → s.answer slot a = s.modExch fun e => { e with working := e.working.set slot none })) := by
  have becomes : ∀ e : Exchange, s.media.exch.answer s.clock.count slot a = e → s.answer slot a = s.modExch fun _ => e :=
    fun e same => congrArg (fun e : Exchange => s.modExch fun _ => e) same
  refine ⟨fun idle => ?_, fun w worked => ⟨fun running => ?_, fun stopped => ?_⟩⟩
  · refine becomes s.media.exch ?_
    simp only [Exchange.answer, Exchange.workingAt, idle]
  · refine becomes _ ?_
    simp only [Exchange.answer, Exchange.workingAt, worked]
    exact Exchange.writeRecord_of_running _ _ running
  · refine becomes _ ?_
    simp only [Exchange.answer, Exchange.workingAt, worked]
    exact Exchange.writeRecord_of_not_running _ _ stopped

theorem correctionRecord_bytes (n : Word32) (f : EntryFlags) (centre : Stamp) (bands : List Band) :
    let r := correctionRecord n f centre bands
    r.kind = .correction (n.toNat % 8) ∧ r.offset = 0x700 + 256 * (n.toNat % 8) ∧ r.head = toLe 4 n.toNat ∧ r.tailAt = 252 ∧
      r.body.length = 12 + 8 * bands.length ∧ byteAt r.body 2 = BitVec.ofNat 8 bands.length ∧ byteAt r.body 3 = 0 ∧
      stampAt r.body 4 = centre ∧
      (List.range 16).map (fun k => (BitVec.ofNat 16 (leNat r.body 0 2)).getLsbD k) = [f.skipped, f.paramsHeld, f.sheetClamped,
        f.pathSeeded, f.marginHit.yaw, f.marginHit.pitch, f.marginHit.roll, f.short, f.held, f.gap, f.sat, f.missed,
        false, false, false, false] ∧
      ∀ (j : Nat) (b : Band), bands[j]? = some b →
        (-32768 ≤ b.x → b.x < 32768 → leInt r.body (12 + 8 * j) 2 = b.x) ∧
        (-32768 ≤ b.y → b.y < 32768 → leInt r.body (14 + 8 * j) 2 = b.y) ∧
        (-32768 ≤ b.r → b.r < 32768 → leInt r.body (16 + 8 * j) 2 = b.r) ∧
        leNat r.body (18 + 8 * j) 2 = (if b.clamp then 1 else 0) + (if b.short then 2 else 0) + (if b.held then 4 else 0) := by
  refine ⟨rfl, rfl, rfl, rfl, correctionBody_length f centre bands, correctionBody_count f centre bands,
    correctionBody_gap f centre bands, correctionBody_centre f centre bands, entryFlags_bits f (correctionBody_word f centre bands),
    fun j b hb => ?_⟩
  obtain ⟨x, y, r, word⟩ := b.bytes_numbers
  exact ⟨leInt_two_of_leNat ((correctionBody_band f centre hb (k := 0) (by omega)).trans x),
    leInt_two_of_leNat ((correctionBody_band f centre hb (k := 2) (by omega)).trans y),
    leInt_two_of_leNat ((correctionBody_band f centre hb (k := 4) (by omega)).trans r),
    (correctionBody_band f centre hb (k := 6) (by omega)).trans word⟩

/-- The numbers of a motion record (R64). -/
theorem MotionRecord.bytes_numbers (r : MotionRecord) : leNat r.bytes 0 4 = r.frame.toNat ∧
    leNat r.bytes 4 2 = r.flags.word % 256 ^ 2 ∧ (r.bands.length ≤ 16 → leNat r.bytes 6 1 = r.bands.length) ∧
    leNat r.bytes 8 8 = r.centre.toNat ∧
    (leNat r.bytes 16 4 = (BitVec.ofInt 32 r.theta.yaw).toNat ∧ leNat r.bytes 20 4 = (BitVec.ofInt 32 r.theta.pitch).toNat ∧
      leNat r.bytes 24 4 = (BitVec.ofInt 32 r.theta.roll).toNat) ∧
    (leNat r.bytes 28 4 = (BitVec.ofInt 32 r.path.yaw).toNat ∧ leNat r.bytes 32 4 = (BitVec.ofInt 32 r.path.pitch).toNat ∧
      leNat r.bytes 36 4 = (BitVec.ofInt 32 r.path.roll).toNat) := by
  have axes : ∀ (i place : Nat) (a : Axes Int), r.items[i]? = some (place, axesBytes a) → place + 12 ≤ 40 →
      leNat r.bytes place 4 = (BitVec.ofInt 32 a.yaw).toNat ∧ leNat r.bytes (place + 4) 4 = (BitVec.ofInt 32 a.pitch).toNat ∧
        leNat r.bytes (place + 8) 4 = (BitVec.ofInt 32 a.roll).toNat := by
    intro i place a hx head
    obtain ⟨yaw, pitch, roll⟩ := axesBytes_numbers a
    have part : ∀ j, j + 4 ≤ 12 → leNat r.bytes (place + j) 4 = leNat (axesBytes a) j 4 := fun j inside =>
      r.bytes_part i hx (by simpa using inside) (by dsimp only; omega)
    exact ⟨(part 0 (by omega)).trans yaw, (part 4 (by omega)).trans pitch, (part 8 (by omega)).trans roll⟩
  refine ⟨?_, r.bytes_number 1 rfl (by omega), fun few => ?_, ?_, axes 4 16 r.theta rfl (by omega), axes 5 28 r.path rfl (by omega)⟩
  · exact (r.bytes_number (n := 4) 0 rfl (by omega)).trans (Nat.mod_eq_of_lt r.frame.isLt)
  · exact (r.bytes_number (n := 1) 2 rfl (by omega)).trans (Nat.mod_eq_of_lt (by omega))
  · exact (r.bytes_number (n := 8) (v := r.centre.toNat) 3 rfl (by omega)).trans
      (Nat.mod_eq_of_lt (lt_trans r.centre.isLt (by decide)))
end Sys2Proof.Machine
end

section
/-! PROOFS. The report page, block by block (R30, R45, R67, R82, R105, R135, R148, R166, R177, R189, R199, spec/12 section 12.10). -/

namespace Sys2Proof.Machine

/-! ### Bytes that stand at a place -/

/-- The bytes stand at a place of a page. -/
def Stands (page : List Byte) (place : Nat) (bs : List Byte) : Prop :=
  ∀ k < bs.length, byteAt page (place + k) = byteAt bs k

/-- Each number, of a width, stands at its place. -/
def Holds (page : List Byte) (numbers : List (Nat × Nat × Nat)) : Prop :=
  ∀ x ∈ numbers, leNat page x.1 x.2.1 = x.2.2 % 256 ^ x.2.1

/-- No field takes the byte. -/
def Clear (items : List (Nat × List Byte)) (i : Nat) : Prop :=
  ∀ x ∈ items, i < x.1 ∨ x.1 + x.2.length ≤ i

section
variable {page : List Byte} {place : Nat}

theorem stands_nil : Stands page place [] ↔ True :=
  ⟨fun _ => trivial, fun _ _ h => absurd h (Nat.not_lt_zero _)⟩

theorem stands_append (a b : List Byte) :
    Stands page place (a ++ b) ↔ Stands page place a ∧ Stands page (place + a.length) b := by
  refine ⟨fun h => ⟨fun k hk => ?_, fun k hk => ?_⟩, fun ⟨left, right⟩ k hk => ?_⟩
  · rw [h k (by rw [List.length_append]; omega), byteAt_append_left _ _ hk]
  · rw [Nat.add_assoc, h _ (by rw [List.length_append]; omega), byteAt_append_right]
  · rw [List.length_append] at hk
    rcases Nat.lt_or_ge k a.length with low | high
    · rw [left k low, byteAt_append_left _ _ low]
    · obtain ⟨j, rfl⟩ := Nat.exists_eq_add_of_le high
      rw [← Nat.add_assoc, right j (by omega), byteAt_append_right]

/-- A number stands at a place where it is read there. -/
theorem Stands.number {n v : Nat} (h : Stands page place (toLe n v)) : leNat page place n = v % 256 ^ n := by
  rw [← leNat_toLe_mod]
  exact leNat_congr fun k hk => by rw [Nat.zero_add]; exact h k (by simpa using hk)

theorem stands_toLe {n v : Nat} : Stands page place (toLe n v) ↔ leNat page place n = v % 256 ^ n := by
  refine ⟨Stands.number, ?_⟩
  induction n generalizing place v with
  | zero => exact fun _ => stands_nil.mpr trivial
  | succ n ih =>
    intro h
    have byte := (byteAt page place).isLt
    have split : v % 256 ^ (n + 1) = v % 256 + 256 * (v / 256 % 256 ^ n) := by
      rw [Nat.pow_succ, Nat.mul_comm, Nat.mod_mul]
    rw [leNat, split] at h
    have low : (byteAt page place).toNat = v % 256 := by omega
    have rest : leNat page (place + 1) n = v / 256 % 256 ^ n := by omega
    rw [toLe, ← List.singleton_append, stands_append]
    refine ⟨fun k hk => ?_, ih rest⟩
    obtain rfl : k = 0 := by simpa using hk
    exact BitVec.eq_of_toNat_eq (low.trans (by simp [byteAt]))

theorem stands_boolByte (b : Bool) : Stands page place [boolByte b] ↔ leNat page place 1 = (if b then 1 else 0) % 256 ^ 1 := by
  rw [← stands_toLe]
  cases b <;> rfl

theorem Stands.slice {bs : List Byte} (h : Stands page place bs) : slice page place bs.length = bs :=
  eq_of_byteAt (slice_length ..) fun k hk => by
    rw [slice_length] at hk
    rw [byteAt_slice _ _ hk, h k hk]

/-! ### Fields of a layout, and bytes between them -/

variable {size pos mid base : Nat} {items l r : List (Nat × List Byte)}

theorem Stands.field (h : Stands page base (layoutFrom size pos items)) (fits : Fits size pos items) {x : Nat × List Byte}
    (mem : x ∈ items) : Stands page (base + (x.1 - pos)) x.2 := by
  obtain ⟨before, after, rfl⟩ := List.append_of_mem mem
  clear mem
  induction before generalizing pos base with
  | nil =>
    rw [List.nil_append, layoutFrom, stands_append, stands_append, List.length_replicate] at h
    exact h.2.1
  | cons y before ih =>
    rw [List.cons_append, layoutFrom, stands_append, stands_append, List.length_replicate] at h
    have later := fits.2.place_ge (x := x) (by simp)
    have first := fits.1
    have there := ih h.2.2 fits.2
    rwa [show base + (y.1 - pos) + y.2.length + (x.1 - (y.1 + y.2.length)) = base + (x.1 - pos) by omega] at there

theorem Stands.gap (h : Stands page pos (layoutFrom size pos items)) (fits : Fits size pos items) {i : Nat} (low : pos ≤ i)
    (high : i < size) (clear : Clear items i) : byteAt page i = 0 := by
  have length := layoutFrom_length fits
  have byte := h (i - pos) (by rw [length]; omega)
  rw [Nat.add_sub_cancel' low] at byte
  rw [byte]
  refine layoutFrom_gap fits fun x hx => ?_
  have ge := fits.place_ge hx
  rcases clear x hx with h | h <;> omega

theorem Fits.append (left : Fits mid pos l) (right : Fits size mid r) : Fits size pos (l ++ r) := by
  induction l generalizing pos with
  | nil =>
    have within : pos ≤ mid := left
    cases r with
    | nil => exact le_trans within right
    | cons y r => exact ⟨le_trans within right.1, right.2⟩
  | cons x l ih => exact ⟨left.1, ih left.2⟩

/-- A layout goes on with a second part from a place between. -/
theorem layoutFrom_append (left : Fits mid pos l) (right : Fits size mid r) :
    layoutFrom size pos (l ++ r) = layoutFrom mid pos l ++ layoutFrom size mid r := by
  induction l generalizing pos with
  | nil =>
    have within : pos ≤ mid := left
    have bound := right.le
    cases r with
    | nil =>
      simp only [List.nil_append, layoutFrom, List.replicate_append_replicate]
      congr 1
      omega
    | cons y r =>
      have after := right.1
      simp only [List.nil_append, layoutFrom, ← List.append_assoc, List.replicate_append_replicate]
      congr 3
      omega
  | cons x l ih =>
    rw [List.cons_append, layoutFrom, ih left.2, layoutFrom]
    simp only [List.append_assoc]

theorem Stands.split (h : Stands page pos (layoutFrom size pos (l ++ r))) (left : Fits mid pos l) (right : Fits size mid r) :
    Stands page pos (layoutFrom mid pos l) ∧ Stands page mid (layoutFrom size mid r) := by
  rw [layoutFrom_append left right, stands_append, layoutFrom_length left, Nat.add_sub_cancel' left.le] at h
  exact h

theorem Stands.fields (h : Stands page pos (layoutFrom size pos items)) (fits : Fits size pos items) :
    ∀ x ∈ items, Stands page x.1 x.2 := fun x mem => by
  have there := h.field fits mem
  rwa [Nat.add_sub_cancel' (fits.place_ge mem)] at there
end

/-! ### The places of the blocks -/

@[simp] theorem State.unstated_length (s : State) (place n : Nat) : (s.unstated place n).length = n := by
  simp [State.unstated]

section
variable (s : State) (pickup : Stamp)

theorem State.reportMotion_fits : Fits 80 2 (s.reportMotion pickup) := by
  simp [State.reportMotion, Fits]

theorem State.reportSteady_fits : Fits 112 80 s.reportSteady := by
  simp [State.reportSteady, Fits]

theorem State.reportIncident_fits (few : s.incident.list.length ≤ 8) : Fits 400 112 s.reportIncident := by
  have length := incidentBytes_length s.incident.list
  simp only [State.reportIncident, Fits, toLe_length, stampBytes_length, length]
  omega

theorem State.reportVolume_fits : Fits 452 400 s.reportVolume := by
  unfold State.reportVolume
  dsimp only
  split <;> simp [Fits, Tables.report]

theorem State.reportRecording_fits : Fits 492 452 s.reportRecording := by
  unfold State.reportRecording
  dsimp only
  split <;> split <;> split <;> simp [Fits]

theorem State.reportCard_fits : Fits 512 492 s.reportCard := by
  simp [State.reportCard, Fits]

theorem State.reportCharge_fits (full : s.options.openCircuit.length = 11) : Fits 600 512 s.reportCharge := by
  unfold State.reportCharge
  dsimp only
  split <;> split <;> simp [Fits, chargeFields_length full]

theorem State.reportGauge_fits : Fits 632 600 s.reportGauge := by
  unfold State.reportGauge State.reportMeasurement
  dsimp only
  split <;> split <;> simp [Fits]

theorem State.reportPower_fits : Fits 1022 632 s.reportPower := by
  simp [State.reportPower, Fits]

/-- The report page, its head and its body. -/
def State.page : List Byte :=
  (s.reportRecord pickup).head ++ (s.reportRecord pickup).body

/-- Each block's items stand in the block's part of the page. -/
theorem State.page_blocks (few : s.incident.list.length ≤ 8) (full : s.options.openCircuit.length = 11) :
    Stands (s.page pickup) 2 (layoutFrom 80 2 (s.reportMotion pickup)) ∧
    Stands (s.page pickup) 80 (layoutFrom 112 80 s.reportSteady) ∧
    Stands (s.page pickup) 112 (layoutFrom 400 112 s.reportIncident) ∧
    Stands (s.page pickup) 400 (layoutFrom 452 400 s.reportVolume) ∧
    Stands (s.page pickup) 452 (layoutFrom 492 452 s.reportRecording) ∧
    Stands (s.page pickup) 492 (layoutFrom 512 492 s.reportCard) ∧
    Stands (s.page pickup) 512 (layoutFrom 600 512 s.reportCharge) ∧
    Stands (s.page pickup) 600 (layoutFrom 632 600 s.reportGauge) ∧
    Stands (s.page pickup) 632 (layoutFrom 1022 632 s.reportPower) := by
  have power := s.reportPower_fits
  have gauge := s.reportGauge_fits.append power
  have charge := (s.reportCharge_fits full).append gauge
  have card := s.reportCard_fits.append charge
  have recording := s.reportRecording_fits.append card
  have volume := s.reportVolume_fits.append recording
  have incident := (s.reportIncident_fits few).append volume
  have steady := s.reportSteady_fits.append incident
  have body : Stands (s.page pickup) 2 (s.reportBody pickup) := fun k _ => byteAt_append_right (toLe 2 _) _ k
  obtain ⟨h₁, body⟩ := body.split (s.reportMotion_fits pickup) steady
  obtain ⟨h₂, body⟩ := body.split s.reportSteady_fits incident
  obtain ⟨h₃, body⟩ := body.split (s.reportIncident_fits few) volume
  obtain ⟨h₄, body⟩ := body.split s.reportVolume_fits recording
  obtain ⟨h₅, body⟩ := body.split s.reportRecording_fits card
  obtain ⟨h₆, body⟩ := body.split s.reportCard_fits charge
  obtain ⟨h₇, body⟩ := body.split (s.reportCharge_fits full) gauge
  obtain ⟨h₈, body⟩ := body.split s.reportGauge_fits power
  exact ⟨h₁, h₂, h₃, h₄, h₅, h₆, h₇, h₈, body⟩

theorem State.reportBody_length (few : s.incident.list.length ≤ 8) (full : s.options.openCircuit.length = 11) :
    (s.reportBody pickup).length = 1020 :=
  layoutFrom_length (reportItems_fit s pickup few full)
end
end Sys2Proof.Machine
end

section
/-! PROOFS. The numbers of each block of the report page (R30, R45, R67, R82, R105, R135, R148, R166, R177, R189). -/

namespace Sys2Proof.Machine

/-- The three numbers of an axis each, from a place on. -/
def axesNumbers (place : Nat) (a : Axes Int) : List (Nat × Nat × Nat) :=
  [(place, 4, (BitVec.ofInt (8 * 4) a.yaw).toNat), (place + 4, 4, (BitVec.ofInt (8 * 4) a.pitch).toNat),
    (place + 8, 4, (BitVec.ofInt (8 * 4) a.roll).toNat)]

section
variable {page : List Byte} {place : Nat}

theorem stands_stampBytes (t : Stamp) : Stands page place (stampBytes t) ↔ leNat page place 8 = t.toNat % 256 ^ 8 :=
  stands_toLe

theorem stands_toLeInt (n : Nat) (v : Int) :
    Stands page place (toLeInt n v) ↔ leNat page place n = (BitVec.ofInt (8 * n) v).toNat % 256 ^ n :=
  stands_toLe

theorem stands_axesBytes (a : Axes Int) : Stands page place (axesBytes a) ↔ Holds page (axesNumbers place a) := by
  simp only [axesBytes, axesNumbers, Holds, stands_append, stands_toLeInt, toLeInt_length, List.forall_mem_cons, Nat.add_assoc,
    Nat.reduceAdd, List.not_mem_nil, false_implies, implies_true, and_true]

theorem holds_append {a b : List (Nat × Nat × Nat)} : Holds page (a ++ b) ↔ Holds page a ∧ Holds page b :=
  List.forall_mem_append

theorem toNat_getD_map {α : Type} (o : Option α) (f : α → Stamp) : ((o.map f).getD 0).toNat = o.elim 0 fun x => (f x).toNat := by
  cases o <;> rfl

theorem toNat_getD {w : Nat} (o : Option (BitVec w)) : (o.getD 0).toNat = o.elim 0 BitVec.toNat := by
  cases o
  · exact BitVec.toNat_zero
  · rfl

theorem getD_map_zero {α : Type} (o : Option α) (f : α → Nat) : (o.map f).getD 0 = o.elim 0 f := by
  cases o <;> rfl

theorem bitsNat_three (a b c : Bool) :
    bitsNat [a, b, c] = (if a then 1 else 0) + 2 * (if b then 1 else 0) + 4 * (if c then 1 else 0) := by
  cases a <;> cases b <;> cases c <;> rfl

/-- Bytes of the page that are free (log 25). -/
def State.FreeAt (s : State) (page : List Byte) (place n : Nat) : Prop :=
  ∀ k < n, byteAt page (place + k) = Config.unstatedReportByte (place + k) s.pageEdition.toNat

theorem stands_unstated (s : State) (at_ n : Nat) : Stands page at_ (s.unstated at_ n) ↔ s.FreeAt page at_ n := by
  have byte : ∀ k < n, byteAt (s.unstated at_ n) k = Config.unstatedReportByte (at_ + k) s.pageEdition.toNat := fun k hk => by
    simp [State.unstated, byteAt, List.getD_eq_getElem?_getD, hk]
  rw [Stands, State.unstated_length]
  exact forall₂_congr fun k hk => by rw [byte k hk]
end

/-! ### Motion, integration, steadying -/

section
variable {page : List Byte} (s : State)

def State.motionNumbers (pickup : Stamp) : List (Nat × Nat × Nat) :=
  [(8, 8, pickup.toNat), (16, 2, s.media.exch.torn), (18, 1, s.media.exch.working.countP Option.isSome),
    (24, 1, s.motion.state.code), (25, 1, s.motion.learning.code), (26, 2, s.motion.stampFaults)] ++
  (axesNumbers 28 s.motion.bias ++ ([(40, 4, s.motion.lostTotal), (48, 1, s.integ.state.code),
    (49, 1, s.integ.history.length), (50, 2, s.integ.gapTotal), (52, 2, s.integ.satTotal),
    (56, 8, s.integ.history.getLast?.elim 0 fun x => x.stamp.toNat)] ++ axesNumbers 64 s.integ.theta))

theorem State.holds_motion {pickup : Stamp} (fields : ∀ x ∈ s.reportMotion pickup, Stands page x.1 x.2) :
    Holds page (s.motionNumbers pickup) := by
  rw [State.motionNumbers, holds_append, holds_append, holds_append]
  simpa only [State.reportMotion, Holds, List.forall_mem_cons, List.not_mem_nil, false_implies, implies_true, stands_toLe,
    stands_stampBytes, stands_axesBytes,
    toNat_getD_map, and_assoc, and_true] using fields

def State.steadyNumbers : List (Nat × Nat × Nat) :=
  let y := s.media.steady
  [(80, 1, y.state.code), (81, 1, y.frames.length), (82, 1, if y.seeded then 1 else 0),
    (83, 1, if y.lastComputed.isSome then 1 else 0), (84, 4, y.frameCounter.toNat),
    (88, 4, y.lastComputed.elim 0 BitVec.toNat)] ++ (axesNumbers 92 y.path ++
  [(104, 2, y.skippedTotal), (106, 2, y.heldTotal), (108, 2, y.dropTotal), (110, 1, y.bufA.state.code),
    (111, 1, y.bufB.state.code)])

theorem State.holds_steady (fields : ∀ x ∈ s.reportSteady, Stands page x.1 x.2) : Holds page s.steadyNumbers := by
  unfold State.steadyNumbers
  rw [holds_append, holds_append]
  simpa only [State.reportSteady, Holds, List.forall_mem_cons, List.not_mem_nil, false_implies, implies_true, stands_toLe,
    stands_boolByte, stands_axesBytes,
    stands_append, toLe_length, Nat.reduceAdd, toNat_getD, and_assoc, and_true] using fields

/-! ### Incidents -/

def State.incidentNumbers : List (Nat × Nat × Nat) :=
  let i := s.incident
  [(112, 1, i.window.code), (113, 1, i.shockRun), (114, 1, i.settings.runLength),
    (115, 1, i.settings.windowSeconds), (116, 1, i.settings.lookbackSeconds), (117, 1, i.list.length),
    (118, 1, i.key.state.code), (119, 1, i.capture.kind.code), (120, 1, i.capture.presses.toNat),
    (124, 4, i.settings.threshold), (128, 8, if i.window = .incident then i.windowEnd.toNat else 0),
    (136, 8, i.capture.stamp.toNat)]

theorem State.windowEnd_toNat : (if s.incident.window = .incident then s.incident.windowEnd else 0 : Stamp).toNat =
    if s.incident.window = .incident then s.incident.windowEnd.toNat else 0 := by
  split
  · rfl
  · exact BitVec.toNat_zero

theorem State.incident_fields (fields : ∀ x ∈ s.reportIncident, Stands page x.1 x.2) :
    Holds page s.incidentNumbers ∧ Stands page 144 (s.incident.list.flatMap IncidentEntry.bytes) := by
  simp only [State.reportIncident, List.forall_mem_cons, List.not_mem_nil, false_implies, implies_true, stands_toLe,
    stands_stampBytes,
    State.windowEnd_toNat] at fields
  obtain ⟨h₁, h₂, h₃, h₄, h₅, h₆, h₇, h₈, h₉, h₁₀, h₁₁, h₁₂, list, -⟩ := fields
  refine ⟨?_, list⟩
  simp only [State.incidentNumbers, Holds, List.forall_mem_cons, List.not_mem_nil, false_implies, implies_true]
  exact ⟨h₁, h₂, h₃, h₄, h₅, h₆, h₇, h₈, h₉, h₁₀, h₁₁, h₁₂, trivial⟩

@[simp] theorem IncidentEntry.bytes_length (x : IncidentEntry) : x.bytes.length = 32 := by
  simp [IncidentEntry.bytes]

/-- The numbers of an entry of the incident list from a place on. -/
def IncidentEntry.numbers (x : IncidentEntry) (place : Nat) : List (Nat × Nat × Nat) :=
  [(place, 2, x.number.toNat), (place + 2, 1, x.outcome.code), (place + 3, 1, x.extensions), (place + 4, 4, x.peak),
    (place + 8, 8, x.stamp.toNat), (place + 16, 8, x.endStamp.toNat), (place + 24, 4, x.protectedClip.getD 0),
    (place + 28, 4, x.lookbackClip.getD 0)]

theorem stands_incidentEntry (x : IncidentEntry) (place : Nat) : Stands page place x.bytes ↔ Holds page (x.numbers place) := by
  simp only [IncidentEntry.bytes, IncidentEntry.numbers, Holds, stands_append, stands_toLe, stands_stampBytes, toLe_length,
    stampBytes_length, List.forall_mem_cons, List.not_mem_nil, false_implies, implies_true, Nat.add_assoc, Nat.reduceAdd, optNat,
      and_true]

/-- An item of a row stands at its place. -/
theorem Stands.item {α : Type} {f : α → List Byte} {m : Nat} (width : ∀ x, (f x).length = m) {l : List α} {place i : Nat} {x : α}
    (h : Stands page place (l.flatMap f)) (mem : l[i]? = some x) : Stands page (place + m * i) (f x) := fun k hk => by
  rw [width] at hk
  have inside := (List.getElem?_eq_some_iff.mp mem).1
  have below : m * i + k < (l.flatMap f).length := by
    have room : m * (i + 1) ≤ m * l.length := Nat.mul_le_mul_left m inside
    rw [flatMap_length width, Nat.mul_succ] at *
    omega
  rw [Nat.add_assoc, h _ below, byteAt_flatMap width mem hk]

/-! ### The volume -/

def State.volumeNumbers : List (Nat × Nat × Nat) :=
  let w := s.media.writer
  [(400, 1, if w.mounted then 1 else 0), (401, 1, w.state.code), (402, 1, w.profile.gapWait),
    (403, 1, w.profile.starvationSeconds), (404, 4, w.profile.firstSector), (408, 4, w.profile.segmentSize),
    (412, 2, w.profile.segmentCount), (414, 2, w.profile.clipSeconds), (450, 2, w.mirrorEdition.toNat)]

/-- The items of the mounted volume, if any. -/
def Writer.mountedItems (w : Writer) : List (Nat × List Byte) :=
  match w.mounted, w.tables with
  | true, some t => t.report w
  | _, _ => []

theorem Writer.mountedItems_of_mounted {w : Writer} {t : Tables} (mounted : w.mounted = true) (tables : w.tables = some t) :
    w.mountedItems = t.report w := by
  rw [Writer.mountedItems, mounted, tables]

theorem Writer.mountedItems_of_unmounted {w : Writer} (out : w.mounted = false ∨ w.tables = none) : w.mountedItems = [] := by
  unfold Writer.mountedItems
  split
  case h_1 t mounted tables =>
    rcases out with h | h
    · exact Bool.noConfusion (h.symm.trans mounted)
    · cases h.symm.trans tables
  case h_2 => rfl

theorem State.reportVolume_eq : s.reportVolume =
    [(400, [boolByte s.media.writer.mounted]), (401, toLe 1 s.media.writer.state.code), (402,
      toLe 1 s.media.writer.profile.gapWait),
      (403, toLe 1 s.media.writer.profile.starvationSeconds), (404, toLe 4 s.media.writer.profile.firstSector),
      (408, toLe 4 s.media.writer.profile.segmentSize), (412, toLe 2 s.media.writer.profile.segmentCount),
      (414, toLe 2 s.media.writer.profile.clipSeconds)] ++
    (s.media.writer.mountedItems ++ [(450, toLe 2 s.media.writer.mirrorEdition.toNat)]) := rfl

theorem State.volume_fields (fields : ∀ x ∈ s.reportVolume, Stands page x.1 x.2) :
    Holds page s.volumeNumbers ∧ ∀ x ∈ s.media.writer.mountedItems, Stands page x.1 x.2 := by
  rw [State.reportVolume_eq, List.forall_mem_append, List.forall_mem_append] at fields
  obtain ⟨own, mounted, edition⟩ := fields
  refine ⟨?_, mounted⟩
  simp only [List.forall_mem_cons, List.not_mem_nil, false_implies, implies_true, stands_toLe, stands_boolByte,
    and_true] at own edition
  obtain ⟨h₁, h₂, h₃, h₄, h₅, h₆, h₇, h₈⟩ := own
  simp only [State.volumeNumbers, Holds, List.forall_mem_cons, List.not_mem_nil, false_implies, implies_true]
  exact ⟨h₁, h₂, h₃, h₄, h₅, h₆, h₇, h₈, edition, trivial⟩

/-- The numbers of a mounted volume but for the length of the update list. -/
def Tables.numbers (t : Tables) : List (Nat × Nat × Nat) :=
  [(416, 4, t.geometry.firstSector), (420, 4, t.geometry.segmentSize), (424, 2, t.geometry.segmentCount),
    (428, 4, t.generation), (432, 4, t.nextClip), (436, 2, t.segmentsIn .free), (438, 2, t.segmentsIn .filling),
    (440, 2, t.segmentsIn .filled), (442, 2, t.segmentsIn .retiring), (444, 2, t.segmentsIn .bad), (446, 2, t.present.length),
    (448, 2, t.present.countP fun k => k.causes.any)]

theorem Tables.report_fields {t : Tables} {w : Writer} (fields : ∀ x ∈ t.report w, Stands page x.1 x.2) :
    Holds page t.numbers ∧ leNat page 426 1 = w.listLength % 256 ^ 1 := by
  simp only [Tables.report, List.forall_mem_cons, List.not_mem_nil, false_implies, implies_true, stands_append, stands_toLe,
    toLe_length, Nat.reduceAdd,
    and_true] at fields
  obtain ⟨h₁, h₂, h₃, list, h₄, h₅, ⟨h₆, h₇, h₈, h₉, h₁₀⟩, h₁₁, h₁₂⟩ := fields
  refine ⟨?_, list⟩
  simp only [Tables.numbers, Holds, List.forall_mem_cons, List.not_mem_nil, false_implies, implies_true]
  exact ⟨h₁, h₂, h₃, h₄, h₅, h₆, h₇, h₈, h₉, h₁₀, h₁₁, h₁₂, trivial⟩

theorem Writer.listLength_of_flying {w : Writer} {f : VolumeFlight} (flight : w.flight = some f) (gone : f.sector ∉ w.updates) :
    w.listLength = w.updates.length + 1 := by
  rw [Writer.listLength, flight]
  exact congrArg (w.updates.length + ·) (if_neg (mt List.contains_iff_mem.mp gone))

theorem Writer.listLength_of_listed {w : Writer} (listed : ¬∃ f, w.flight = some f ∧ f.sector ∉ w.updates) :
    w.listLength = w.updates.length := by
  unfold Writer.listLength
  split
  case h_1 => rfl
  case h_2 f flight =>
    refine congrArg (w.updates.length + ·) (if_pos (List.contains_iff_mem.mpr ?_))
    by_contra gone
    exact listed ⟨f, flight, gone⟩

theorem Writer.openClip_of_unmounted {w : Writer} (out : w.mounted = false ∨ w.tables = none) : w.openClip = none := by
  rw [Writer.openClip, Writer.openIndex]
  rcases out with h | h
  · rw [h]
    rfl
  · rw [h]
    exact congrArg (Option.bind · w.clipAt) (ite_self _)

/-! ### Recording and the card -/

def State.recordingNumbers : List (Nat × Nat × Nat) :=
  let w := s.media.writer
  [(456, 8, w.expected), (464, 1, if w.keyWait then 1 else 0), (465, 1, w.gapCount), (466, 1, s.media.heldCount),
    (467, 1, w.parked.length), (468, 1, hostCount w.queue), (469, 1, w.queue.length - hostCount w.queue),
    (470, 1, w.wip.elim 0 fun x => x.stage.code), (472, 1, if w.stopPending.isSome then 1 else 0),
    (473, 1, if w.reserveHeld then 1 else 0), (474, 1, if w.readBack.isSome then 1 else 0), (480, 8, w.lastCompletion.toNat)]

theorem State.recording_fields (fields : ∀ x ∈ s.reportRecording, Stands page x.1 x.2) :
    let w := s.media.writer
    Holds page s.recordingNumbers ∧ leNat page 452 4 = (w.openClip.elim 0 Clip.number) % 256 ^ 4 ∧
    (∀ x : WriteInProgress, w.wip = some x → Holds page [(471, 1, if x.rewrite then 1 else 0)]) ∧
    (w.wip = none → s.FreeAt page 471 1) ∧
    (∀ l : Nat, w.stopPending = some l → Holds page [(476, 4, l)]) ∧ (w.stopPending = none → s.FreeAt page 476 4) ∧
    (∀ x : ReadBack, w.readBack = some x → Holds page [(488, 4, x.left)]) ∧ (w.readBack = none → s.FreeAt page 488 4) := by
  intro w
  simp only [State.reportRecording, List.forall_mem_cons, List.not_mem_nil, false_implies, implies_true, stands_toLe,
    stands_boolByte, stands_stampBytes,
    getD_map_zero, and_true] at fields
  obtain ⟨clip, h₁, h₂, h₃, h₄, h₅, h₆, h₇, h₈, rewrite, h₉, h₁₀, h₁₁, stop, h₁₂, left⟩ := fields
  refine ⟨?_, clip, fun x wip => ?_, fun wip => ?_, fun l pending => ?_, fun pending => ?_, fun x reads => ?_, fun reads => ?_⟩
  · simp only [State.recordingNumbers, Holds, List.forall_mem_cons, List.not_mem_nil, false_implies, implies_true]
    exact ⟨h₁, h₂, h₃, h₄, h₅, h₆, h₇, h₈, h₉, h₁₀, h₁₁, h₁₂, trivial⟩
  · rw [show s.media.writer.wip = some x from wip] at rewrite
    exact List.forall_mem_singleton.mpr ((stands_boolByte _).mp rewrite)
  · rw [show s.media.writer.wip = none from wip] at rewrite
    exact (stands_unstated ..).mp rewrite
  · rw [show s.media.writer.stopPending = some l from pending] at stop
    exact List.forall_mem_singleton.mpr (stands_toLe.mp stop)
  · rw [show s.media.writer.stopPending = none from pending] at stop
    exact (stands_unstated ..).mp stop
  · rw [show s.media.writer.readBack = some x from reads] at left
    exact List.forall_mem_singleton.mpr (stands_toLe.mp left)
  · rw [show s.media.writer.readBack = none from reads] at left
    exact (stands_unstated ..).mp left

def State.cardNumbers : List (Nat × Nat × Nat) :=
  let c := s.media.card
  [(492, 1, c.state.code), (493, 1, if c.detect then 1 else 0), (494, 1, c.run.elim 0 fun x => x.cls.code),
    (495, 1, (if c.volume.isSome then 1 else 0) + 2 * (if c.chunk.isSome then 1 else 0) + 4 * (if c.readBack.isSome then 1 else 0)),
    (496, 8, c.capacity), (504, 2, c.readErrors), (506, 2, c.writeErrors), (508, 2, c.timeouts), (510, 2, c.removals)]

theorem State.holds_card (fields : ∀ x ∈ s.reportCard, Stands page x.1 x.2) : Holds page s.cardNumbers := by
  simpa only [State.cardNumbers, State.reportCard, Holds, List.forall_mem_cons, List.not_mem_nil, false_implies, implies_true,
    stands_toLe, stands_boolByte,
    stands_append, toLe_length, Nat.reduceAdd, getD_map_zero, bitsNat_three, and_assoc, and_true] using fields

/-! ### Charging, the gauge and power -/

def State.chargeNumbers : List (Nat × Nat × Nat) :=
  let h := s.charge
  [(512, 1, h.usb.state.code), (513, 1, h.aux.state.code), (514, 1, h.source.code), (515, 1, h.state.code),
    (517, 1, (if h.causes.cold then 1 else 0) + 2 * (if h.causes.hot then 1 else 0) + 4 * (if h.causes.die then 1 else 0)),
    (518, 1, h.fault.code), (519, 1, h.band.code), (520, 1, if h.recording then 1 else 0),
    (522, 2, effectiveVreg s.options h.band), (524, 2, h.ic), (526, 2, h.cap), (530, 2, h.usbLimit),
    (536, 4, h.prechargeTimer / 1000), (540, 4, h.totalTimer / 1000)]

/-- The page's fields that follow the last measurement, in the Charge Controller's block. -/
def State.measuredCharge : List (Nat × List Byte) :=
  match s.gauge.last with
  | some m => [(528, toLeInt 2 s.charge.inputCurrent), (530, toLe 2 s.charge.usbLimit),
      (532, toLe 2 m.readings.vinUsb ++ toLe 2 m.readings.vinAux)]
  | none => [(528, s.unstated 528 2), (530, toLe 2 s.charge.usbLimit), (532, s.unstated 532 4)]

/-- The return state's byte. -/
def State.returnByte : List Byte :=
  match s.charge.returnState with
  | some st => toLe 1 st.code
  | none => s.unstated 516 1

theorem State.reportCharge_eq : s.reportCharge =
    [(512, toLe 1 s.charge.usb.state.code ++ toLe 1 s.charge.aux.state.code), (514, toLe 1 s.charge.source.code),
      (515, toLe 1 s.charge.state.code), (516, s.returnByte), (517, toLe 1 s.charge.causes.word), (518, toLe 1 s.charge.fault.code),
      (519, toLe 1 s.charge.band.code), (520, [boolByte s.charge.recording]), (522, toLe 2 (effectiveVreg s.options s.charge.band)),
      (524, toLe 2 s.charge.ic), (526, toLe 2 s.charge.cap)] ++
    (s.measuredCharge ++ [(536, toLe 4 (s.charge.prechargeTimer / 1000)), (540, toLe 4 (s.charge.totalTimer / 1000)),
      (544, chargeFields s.options)]) := rfl

theorem State.measuredCharge_some {m : Machine.Measurement} (last : s.gauge.last = some m) : s.measuredCharge =
    [(528, toLeInt 2 s.charge.inputCurrent), (530, toLe 2 s.charge.usbLimit),
      (532, toLe 2 m.readings.vinUsb ++ toLe 2 m.readings.vinAux)] := by
  rw [State.measuredCharge, last]

theorem State.measuredCharge_none (last : s.gauge.last = none) : s.measuredCharge =
    [(528, s.unstated 528 2), (530, toLe 2 s.charge.usbLimit), (532, s.unstated 532 4)] := by
  rw [State.measuredCharge, last]

theorem State.charge_fields (fields : ∀ x ∈ s.reportCharge, Stands page x.1 x.2) :
    Holds page s.chargeNumbers ∧ Stands page 544 (chargeFields s.options) ∧
    (∀ x : ChargeState, s.charge.returnState = some x → Holds page [(516, 1, x.code)]) ∧
    (s.charge.returnState = none → s.FreeAt page 516 1) ∧
    (∀ m : Machine.Measurement, s.gauge.last = some m → Holds page [(528, 2, (BitVec.ofInt (8 * 2) s.charge.inputCurrent).toNat),
      (532, 2, m.readings.vinUsb), (534, 2, m.readings.vinAux)]) ∧
    (s.gauge.last = none → s.FreeAt page 528 2 ∧ s.FreeAt page 532 4) := by
  rw [State.reportCharge_eq, List.forall_mem_append, List.forall_mem_append] at fields
  obtain ⟨own, measured, options⟩ := fields
  simp only [List.forall_mem_cons, List.not_mem_nil, false_implies, implies_true, stands_append, stands_toLe, stands_boolByte,
    toLe_length, Nat.reduceAdd,
    SuspendCauses.word, bitsNat_three, and_true] at own options
  obtain ⟨⟨h₁, h₂⟩, h₃, h₄, return_, h₅, h₆, h₇, h₈, h₉, h₁₀, h₁₁⟩ := own
  obtain ⟨h₁₃, h₁₄, options⟩ := options
  have some_ : ∀ m : Machine.Measurement, s.gauge.last = some m → leNat page 530 2 = s.charge.usbLimit % 256 ^ 2 ∧
      Holds page [(528, 2, (BitVec.ofInt (8 * 2) s.charge.inputCurrent).toNat), (532, 2, m.readings.vinUsb),
        (534, 2, m.readings.vinAux)] := by
    intro m last
    rw [s.measuredCharge_some last] at measured
    simp only [List.forall_mem_cons, List.not_mem_nil, false_implies, implies_true, stands_append, stands_toLe, stands_toLeInt,
      toLe_length, Nat.reduceAdd,
      and_true] at measured
    obtain ⟨current, limit, usb, aux⟩ := measured
    refine ⟨limit, ?_⟩
    simp only [Holds, List.forall_mem_cons, List.not_mem_nil, false_implies, implies_true]
    exact ⟨current, usb, aux, trivial⟩
  have none_ : s.gauge.last = none → leNat page 530 2 = s.charge.usbLimit % 256 ^ 2 ∧ s.FreeAt page 528 2 ∧
      s.FreeAt page 532 4 := by
    intro last
    rw [s.measuredCharge_none last] at measured
    simp only [List.forall_mem_cons, List.not_mem_nil, false_implies, implies_true, stands_toLe, stands_unstated,
      and_true] at measured
    obtain ⟨current, limit, voltages⟩ := measured
    exact ⟨limit, current, voltages⟩
  have limit : leNat page 530 2 = s.charge.usbLimit % 256 ^ 2 := by
    rcases last : s.gauge.last with _ | m
    · exact (none_ last).1
    · exact (some_ m last).1
  refine ⟨?_, options, fun x state => ?_, fun state => ?_, fun m last => (some_ m last).2, fun last => (none_ last).2⟩
  · simp only [State.chargeNumbers, Holds, List.forall_mem_cons, List.not_mem_nil, false_implies, implies_true]
    exact ⟨h₁, h₂, h₃, h₄, h₅, h₆, h₇, h₈, h₉, h₁₀, h₁₁, limit, h₁₃, h₁₄, trivial⟩
  · rw [State.returnByte, state] at return_
    exact List.forall_mem_singleton.mpr (stands_toLe.mp return_)
  · rw [State.returnByte, state] at return_
    exact (stands_unstated ..).mp return_

def State.gaugeNumbers : List (Nat × Nat × Nat) :=
  let g := s.gauge
  [(600, 4, (BitVec.ofInt (8 * 4) g.q).toNat),
    (604, 2, if g.state = .unset then 0 else (BitVec.ofInt (8 * 2) (g.stateOfCharge s.options)).toNat), (606, 1, g.state.code),
    (607, 1, if g.reserve then 1 else 0), (608, 1, g.cutoffRun), (609, 1, if g.warning then 1 else 0)]

def Measurement.numbers (x : Machine.Measurement) : List (Nat × Nat × Nat) :=
  [(610, 1, (BitVec.ofInt (8 * 1) (x.readings.temperature.getD (-128))).toNat),
    (612, 2, (BitVec.ofInt (8 * 2) x.readings.current).toNat), (614, 2, x.readings.vbat),
    (616, 2, (BitVec.ofInt (8 * 2) x.readings.die).toNat), (618, 2, x.readings.vinUsb), (620, 2, x.readings.vinAux),
    (624, 8, x.stamp.toNat)]

theorem State.chargeState_toNat :
    (BitVec.ofInt (8 * 2) (if s.gauge.state = .unset then 0 else s.gauge.stateOfCharge s.options)).toNat =
      if s.gauge.state = .unset then 0 else (BitVec.ofInt (8 * 2) (s.gauge.stateOfCharge s.options)).toNat := by
  split <;> rfl

theorem State.gauge_fields (fields : ∀ x ∈ s.reportGauge, Stands page x.1 x.2) :
    Holds page s.gaugeNumbers ∧ (∀ m : Machine.Measurement, s.gauge.last = some m → Holds page (Measurement.numbers m)) ∧
    (s.gauge.last = none → s.FreeAt page 610 1 ∧ s.FreeAt page 612 10 ∧ leNat page 624 8 = 0) := by
  rw [State.reportGauge, List.forall_mem_append] at fields
  obtain ⟨own, measured⟩ := fields
  refine ⟨?_, fun m last => ?_, fun last => ?_⟩
  · simpa only [State.gaugeNumbers, Holds, List.forall_mem_cons, List.not_mem_nil, false_implies, implies_true, stands_toLe,
    stands_toLeInt, stands_boolByte,
      State.chargeState_toNat] using own
  · rw [State.reportMeasurement, last] at measured
    simpa only [Measurement.numbers, Holds, List.forall_mem_cons, List.not_mem_nil, false_implies, implies_true, stands_append,
      stands_toLe, stands_toLeInt,
      stands_stampBytes, toLe_length, Nat.reduceAdd, and_assoc, and_true] using measured
  · rw [State.reportMeasurement, last] at measured
    simp only [List.forall_mem_cons, List.not_mem_nil, false_implies, implies_true, stands_unstated, stands_stampBytes,
      and_true] at measured
    obtain ⟨temperature, rest, stamp⟩ := measured
    exact ⟨temperature, rest, stamp⟩

def State.powerNumbers : List (Nat × Nat × Nat) :=
  let p := s.power
  [(632, 1, p.state.code), (633, 1, p.key.state.code), (634, 1, p.pressCount.toNat), (635, 1, p.cause.code),
    (636, 1, if p.reserveHeld then 1 else 0), (637, 1, if p.cutoffLock then 1 else 0), (638, 1, p.origin.code),
    (639, 1, p.blockStatus.code), (640, 1, if p.storing.isSome then 1 else 0), (641, 1, p.record.lastKind.code),
    (642, 1, p.record.warmCount), (643, 1, p.record.supplyCount), (644, 1, p.record.lastShutdown.code),
    (648, 8, p.closeTarget.elim 0 BitVec.toNat)]

theorem State.holds_power (fields : ∀ x ∈ s.reportPower, Stands page x.1 x.2) : Holds page s.powerNumbers := by
  simpa only [State.powerNumbers, State.reportPower, Holds, List.forall_mem_cons, List.not_mem_nil, false_implies, implies_true,
    stands_toLe, stands_boolByte,
    stands_stampBytes, toNat_getD] using fields
end
end Sys2Proof.Machine
end

section
/-! PROOFS. The bytes 0 of the report page, and the report page and the records as a whole (R62, R64, R93, R112, R196, R197, R199). -/

namespace Sys2Proof.Machine

/-! ### Bytes that no item takes -/

section
variable (s : State) {i : Nat}

theorem State.reportMotion_clear (pickup : Stamp) (gap : (2 ≤ i ∧ i < 8) ∨ (19 ≤ i ∧ i < 24) ∨ (44 ≤ i ∧ i < 48) ∨
    (54 ≤ i ∧ i < 56) ∨ 76 ≤ i) : Clear (s.reportMotion pickup) i := by
  simp only [Clear, State.reportMotion, List.forall_mem_cons, List.not_mem_nil, false_implies, implies_true, and_true, toLe_length,
    stampBytes_length, axesBytes_length]
  omega

theorem State.reportIncident_clear (gap : (121 ≤ i ∧ i < 124) ∨ 144 + 32 * s.incident.list.length ≤ i) :
    Clear s.reportIncident i := by
  have length := incidentBytes_length s.incident.list
  simp only [Clear, State.reportIncident, List.forall_mem_cons, List.not_mem_nil, false_implies, implies_true, and_true, toLe_length,
    stampBytes_length, length]
  omega

theorem State.reportVolume_clear (gap : i = 427 ∨ (416 ≤ i ∧ i < 450 ∧ s.media.writer.mountedItems = [])) :
    Clear s.reportVolume i := by
  have mounted : Clear s.media.writer.mountedItems i := by
    rcases gap with rfl | ⟨-, -, none⟩
    · unfold Writer.mountedItems
      split
      case h_1 => simp [Clear, Tables.report]
      case h_2 => exact fun _ mem => absurd mem List.not_mem_nil
    · rw [none]
      exact fun _ mem => absurd mem List.not_mem_nil
  rw [State.reportVolume_eq, Clear, List.forall_mem_append, List.forall_mem_append]
  simp only [List.forall_mem_cons, List.not_mem_nil, false_implies, implies_true, and_true, toLe_length, List.length_singleton]
  exact ⟨by omega, mounted, by omega⟩

theorem State.reportRecording_clear (gap : i = 475) : Clear s.reportRecording i := by
  subst gap
  unfold State.reportRecording
  dsimp only
  split <;> split <;> split <;> simp [Clear]

theorem State.reportCharge_clear (full : s.options.openCircuit.length = 11) (gap : i = 521 ∨ 597 ≤ i) :
    Clear s.reportCharge i := by
  have charge := chargeFields_length full
  have return_ : s.returnByte.length = 1 := by
    unfold State.returnByte
    split <;> simp
  have measured : Clear s.measuredCharge i := by
    rcases last : s.gauge.last with _ | m
    · rw [s.measuredCharge_none last]
      simp only [Clear, List.forall_mem_cons, List.not_mem_nil, false_implies, implies_true, and_true, toLe_length, State.unstated_length]
      omega
    · rw [s.measuredCharge_some last]
      simp only [Clear, List.forall_mem_cons, List.not_mem_nil, false_implies, implies_true, and_true, toLe_length, toLeInt_length,
        List.length_append]
      omega
  rw [State.reportCharge_eq, Clear, List.forall_mem_append, List.forall_mem_append]
  simp only [List.forall_mem_cons, List.not_mem_nil, false_implies, implies_true, and_true, toLe_length, List.length_append,
    List.length_singleton, charge, return_]
  exact ⟨by omega, measured, by omega⟩

theorem State.reportGauge_clear (gap : i = 611 ∨ (622 ≤ i ∧ i < 624)) : Clear s.reportGauge i := by
  have measured : Clear s.reportMeasurement i := by
    unfold State.reportMeasurement
    split <;> simp only [Clear, List.forall_mem_cons, List.not_mem_nil, false_implies, implies_true, and_true, toLe_length,
      toLeInt_length, stampBytes_length, State.unstated_length, List.length_append] <;> omega
  rw [State.reportGauge, Clear, List.forall_mem_append]
  refine ⟨?_, measured⟩
  simp only [List.forall_mem_cons, List.not_mem_nil, false_implies, implies_true, and_true, toLe_length, toLeInt_length,
    List.length_singleton]
  omega

theorem State.reportPower_clear (gap : (645 ≤ i ∧ i < 648) ∨ 656 ≤ i) : Clear s.reportPower i := by
  simp only [Clear, State.reportPower, List.forall_mem_cons, List.not_mem_nil, false_implies, implies_true, and_true, toLe_length,
    stampBytes_length, List.length_singleton]
  omega

/-- Every byte of the page that no item takes is 0 (R199). -/
theorem State.page_zero (pickup : Stamp) (few : s.incident.list.length ≤ 8) (full : s.options.openCircuit.length = 11) :
    ∀ k ∈ [(2, 8), (19, 24), (44, 48), (54, 56), (76, 80), (121, 124), (144 + 32 * s.incident.list.length, 400), (427, 428),
      (475, 476), (521, 522), (597, 600), (611, 612), (622, 624), (645, 648), (656, 1022)],
      ∀ j, k.1 ≤ j → j < k.2 → byteAt (s.page pickup) j = 0 := by
  obtain ⟨motion, -, incident, volume, recording, -, charge, gauge, power⟩ := s.page_blocks pickup few full
  have motion := fun j low high gap => motion.gap (i := j) (s.reportMotion_fits pickup) low high (s.reportMotion_clear pickup gap)
  have incident := fun j low high gap => incident.gap (i := j) (s.reportIncident_fits few) low high (s.reportIncident_clear gap)
  have power := fun j low high gap => power.gap (i := j) s.reportPower_fits low high (s.reportPower_clear gap)
  have gauge := fun j low high gap => gauge.gap (i := j) s.reportGauge_fits low high (s.reportGauge_clear gap)
  have charge := fun j low high gap => charge.gap (i := j) (s.reportCharge_fits full) low high (s.reportCharge_clear full gap)
  simp only [List.forall_mem_cons, List.not_mem_nil, false_implies, implies_true, and_true]
  exact ⟨fun j low high => motion j (by omega) (by omega) (by omega), fun j low high => motion j (by omega) (by omega) (by omega),
    fun j low high => motion j (by omega) (by omega) (by omega), fun j low high => motion j (by omega) (by omega) (by omega),
    fun j low high => motion j (by omega) (by omega) (by omega), fun j low high => incident j (by omega) (by omega) (by omega),
    fun j low high => incident j (by omega) (by omega) (by omega),
    fun j low high => volume.gap s.reportVolume_fits (by omega) (by omega) (s.reportVolume_clear (.inl (by omega))),
    fun j low high => recording.gap s.reportRecording_fits (by omega) (by omega) (s.reportRecording_clear (by omega)),
    fun j low high => charge j (by omega) (by omega) (by omega), fun j low high => charge j (by omega) (by omega) (by omega),
    fun j low high => gauge j (by omega) (by omega) (by omega), fun j low high => gauge j (by omega) (by omega) (by omega),
    fun j low high => power j (by omega) (by omega) (by omega), fun j low high => power j (by omega) (by omega) (by omega)⟩
end

/-! ### The page of a volume -/

section
variable (s : State) (pickup : Stamp) (few : s.incident.list.length ≤ 8) (full : s.options.openCircuit.length = 11)
include few full

/-- While no volume is mounted its items are 0. -/
theorem State.page_unmounted (out : s.media.writer.mounted = false ∨ s.media.writer.tables = none) :
    (∀ j, 416 ≤ j → j < 450 → byteAt (s.page pickup) j = 0) ∧ leNat (s.page pickup) 452 4 = 0 := by
  obtain ⟨-, -, -, volume, recording, -⟩ := s.page_blocks pickup few full
  refine ⟨fun j low high => volume.gap s.reportVolume_fits (by omega) (by omega)
    (s.reportVolume_clear (.inr ⟨low, high, Writer.mountedItems_of_unmounted out⟩)), ?_⟩
  have clip := (s.recording_fields (recording.fields s.reportRecording_fits)).2.1
  rw [Writer.openClip_of_unmounted out] at clip
  exact clip

theorem State.page_mounted {t : Tables} (mounted : s.media.writer.mounted = true) (tables : s.media.writer.tables = some t) :
    Holds (s.page pickup) (t.numbers ++ [(452, 4, s.media.writer.openClip.elim 0 Clip.number)]) ∧
    ((∃ f : VolumeFlight, s.media.writer.flight = some f ∧ f.sector ∉ s.media.writer.updates) →
      Holds (s.page pickup) [(426, 1, s.media.writer.updates.length + 1)]) ∧
    (¬(∃ f : VolumeFlight, s.media.writer.flight = some f ∧ f.sector ∉ s.media.writer.updates) →
      Holds (s.page pickup) [(426, 1, s.media.writer.updates.length)]) := by
  obtain ⟨-, -, -, volume, recording, -⟩ := s.page_blocks pickup few full
  have clip := (s.recording_fields (recording.fields s.reportRecording_fits)).2.1
  have items := (s.volume_fields (volume.fields s.reportVolume_fits)).2
  rw [Writer.mountedItems_of_mounted mounted tables] at items
  obtain ⟨numbers, list⟩ := Tables.report_fields items
  refine ⟨holds_append.mpr ⟨numbers, List.forall_mem_singleton.mpr clip⟩, fun ⟨f, flight, gone⟩ => ?_, fun listed => ?_⟩
  · rw [Writer.listLength_of_flying flight gone] at list
    exact List.forall_mem_singleton.mpr list
  · rw [Writer.listLength_of_listed listed] at list
    exact List.forall_mem_singleton.mpr list

/-- An entry of the incident list on the page. -/
theorem State.page_incident {j : Nat} {x : IncidentEntry} (entry : s.incident.list[j]? = some x) :
    Holds (s.page pickup) [(144 + 32 * j, 2, x.number.toNat), (146 + 32 * j, 1, x.outcome.code),
      (147 + 32 * j, 1, x.extensions), (148 + 32 * j, 4, x.peak), (152 + 32 * j, 8, x.stamp.toNat),
      (160 + 32 * j, 8, x.endStamp.toNat), (168 + 32 * j, 4, x.protectedClip.getD 0), (172 + 32 * j, 4, x.lookbackClip.getD 0)] := by
  obtain ⟨-, -, incident, -⟩ := s.page_blocks pickup few full
  have list := (s.incident_fields (incident.fields (s.reportIncident_fits few))).2
  have numbers := (stands_incidentEntry x _).mp (list.item IncidentEntry.bytes_length entry)
  simpa only [IncidentEntry.numbers, Nat.add_right_comm 144 (32 * j), Nat.reduceAdd] using numbers
end
end Sys2Proof.Machine

namespace Sys2Proof.Proofs
open Sys2Proof.Machine

/-- Settles O54, record by record, the report page block by block. -/
theorem answerWritten : Obligations.AnswerWritten := by
  unfold Obligations.AnswerWritten
  refine ⟨State.answer_cases, fun a kind small data => ?_, rfl, rfl, fun h st small => ?_, rfl,
    fun n f centre bands _ => correctionRecord_bytes n f centre bands, fun i follows edition c => ?_, fun r few => ?_,
    fun rs small => ?_, fun s pickup few full => ?_, by decide⟩
  · exact ⟨Answer.body_length data, Answer.body_byte data (place := 2) (List.mem_of_getElem? (i := 0) rfl) small,
      Answer.body_byte data (place := 3) (List.mem_of_getElem? (i := 1) rfl) a.outcome.code_lt, Answer.body_notes data,
      Answer.body_reason data, fun i inside => Answer.body_data data inside⟩
  · refine ⟨rfl, rfl, rfl, rfl, receiptRecord_length h st, receiptRecord_status h st, receiptRecord_seq h st small, fun i mem => ?_⟩
    refine receiptRecord_gap h st ?_
    simp only [List.mem_cons, List.not_mem_nil, or_false] at mem
    omega
  · exact ⟨rfl, rfl, rfl, rfl, slice_length .., fun k inside => byteAt_slice _ _ inside⟩
  · obtain ⟨frame, word, count, centre, theta, path⟩ := r.bytes_numbers
    refine ⟨r.bytes_length, frame, entryFlags_bits r.flags word, count few, r.bytes_gap, centre, theta, path, fun j x band => ?_⟩
    obtain ⟨h₁, h₂, h₃, h₄⟩ := x.bytes_numbers
    exact ⟨(MotionRecord.bytes_band band (k := 0) (by omega)).trans h₁, (MotionRecord.bytes_band band (k := 2) (by omega)).trans h₂,
      (MotionRecord.bytes_band band (k := 4) (by omega)).trans h₃, (MotionRecord.bytes_band band (k := 6) (by omega)).trans h₄⟩
  · exact ⟨motionPayload_length rs, (leNat_toLe_append 4 rs.length _).trans (Nat.mod_eq_of_lt small),
      fun k r record => motionPayload_record record⟩
  · obtain ⟨motion, steady, incident, volume, recording, card, charge, gauge, power⟩ := s.page_blocks pickup few full
    have motion := s.holds_motion (motion.fields (s.reportMotion_fits pickup))
    have steady := s.holds_steady (steady.fields s.reportSteady_fits)
    obtain ⟨incident, -⟩ := s.incident_fields (incident.fields (s.reportIncident_fits few))
    obtain ⟨volume, -⟩ := s.volume_fields (volume.fields s.reportVolume_fits)
    obtain ⟨recording, -, rewrite, noRewrite, stop, noStop, left, noLeft⟩ := s.recording_fields (recording.fields s.reportRecording_fits)
    have card := s.holds_card (card.fields s.reportCard_fits)
    obtain ⟨charge, options, return_, noReturn, measured, unmeasured⟩ := s.charge_fields (charge.fields (s.reportCharge_fits full))
    obtain ⟨gauge, last, noLast⟩ := s.gauge_fields (gauge.fields s.reportGauge_fits)
    have power := s.holds_power (power.fields s.reportPower_fits)
    refine ⟨rfl, rfl, rfl, rfl, s.reportBody_length pickup few full, s.page_zero pickup few full, motion, steady, incident,
      fun j x entry => s.page_incident pickup few full entry, volume, s.page_unmounted pickup few full, fun t mounted tables => ?_,
      recording, rewrite, noRewrite, stop, noStop, left, noLeft, card, charge, ?_, return_, noReturn, gauge, fun x measurement => ?_,
      fun none => ?_, power⟩
    · exact s.page_mounted pickup few full mounted tables
    · rw [← chargeFields_length full]
      exact options.slice
    · exact holds_append.mpr ⟨measured x measurement, last x measurement⟩
    · obtain ⟨current, voltages⟩ := unmeasured none
      obtain ⟨temperature, rest, stamp⟩ := noLast none
      exact ⟨current, voltages, temperature, rest, stamp⟩
end Sys2Proof.Proofs
end

section
/-! PROOFS. MOUNT_VOLUME, FORMAT_VOLUME and UNMOUNT_VOLUME as they are taken, and an unmount's end (R94, R96, R101). -/

namespace Sys2Proof.Machine

/-! ### States entered, claims handed over and withdrawn -/

theorem Writer.enter_unmounted (w : Writer) : w.enter .unmounted = { w with state := .unmounted, idleReport := true } := by
  simp [Writer.enter]

theorem Writer.enter_idle (w : Writer) : w.enter .idle = { w with state := .idle, idleReport := true } := by
  simp [Writer.enter]

theorem Writer.enter_job {st : WriterState} (w : Writer) (job : st = .mounting ∨ st = .formatting) :
    w.enter st = { w with state := st } := by
  rcases job with rfl | rfl <;> simp [Writer.enter]

theorem Media.dropVolume_eq (m : Media) :
    m.dropVolume = { m with writer := m.writer.dropTables, card := m.card.withdrawAll } := rfl

theorem Card.withdrawAll_eq (c : Card) : c.withdrawAll = { c with
    volume := none, chunk := none, readBack := none, run := c.withdrawAll.run, outcomes := c.withdrawAll.outcomes } := by
  simp only [Card.withdrawAll, Card.withdraw, Card.setPlace]

theorem Card.withdrawAll_withdraw_readBack (c : Card) : (c.withdraw .readBack).withdrawAll = c.withdrawAll := by
  have run : (c.withdraw .readBack).withdrawAll.run = c.withdrawAll.run := by
    rw [Card.withdrawAll_run, Card.withdraw_run, Card.withdrawAll_run]
    cases c.run with
    | none => rfl
    | some r => by_cases cls : r.cls = .readBack <;> simp [cls]
  have outcomes : (c.withdraw .readBack).withdrawAll.outcomes = c.withdrawAll.outcomes := by
    simp only [Card.withdrawAll, Card.withdraw, List.filter_filter]
    congr 1
    funext d
    cases d.cls <;> decide
  have parts := (c.withdraw .readBack).withdrawAll_eq
  rw [run, outcomes] at parts
  refine parts.trans (Eq.trans ?_ c.withdrawAll_eq.symm)
  simp only [Card.withdraw, Card.setPlace]

/-- The card takes runs. -/
def Card.Usable (c : Card) : Prop :=
  c.state = .ready ∨ c.state = .busy

theorem Card.withdrawAll_usable (c : Card) : c.withdrawAll.Usable ↔ c.Usable := by
  rw [Card.withdrawAll_eq, Card.Usable, Card.Usable]

theorem Card.usable_of {c : Card} (usable : c.Usable) : ¬c.usable = false := by
  exact fun none => of_decide_eq_false none usable

theorem Card.usable_of_not {c : Card} (other : ¬c.Usable) : c.usable = false :=
  decide_eq_false other

section
variable {m : Media} {env : Env} (slot : Nat)

/-- A read takes its place under the supply warning too. -/
theorem Media.handVolume_of_read (usable : m.card.Usable) (first count : Nat) :
    m.handVolume env ⟨first, count, none⟩ = { m with card := { m.card with volume := some ⟨first, count, none⟩ } } := by
  have takes : m.card.hand env .volume ⟨first, count, none⟩ = m.card.setPlace .volume (some ⟨first, count, none⟩) := by
    rcases usable with h | h <;> simp only [Card.hand, h] <;> rfl
  rw [Media.handVolume, Media.modCard, takes]
  rfl

theorem Media.handVolume_of_usable (usable : m.card.Usable) (warn : env.warn = false) (claim : Claim) :
    m.handVolume env claim = { m with card := { m.card with volume := some claim } } := by
  have takes : m.card.hand env .volume claim = m.card.setPlace .volume (some claim) := by
    refine Card.hand_of_takes .volume claim ?_ ?_ warn
    · rcases usable with h | h <;> rw [h] <;> exact fun e => CardState.noConfusion e
    · rcases usable with h | h <;> rw [h] <;> exact fun e => CardState.noConfusion e
  rw [Media.handVolume, Media.modCard, takes]
  rfl

/-! ### MOUNT_VOLUME and FORMAT_VOLUME (R94, R96) -/

/-- The media blocks with no volume, the writer UNMOUNTED. -/
def Media.volumeGone (m : Media) (w : Writer) : Media :=
  { m with
    writer := { w with
      state := .unmounted, mounted := false, tables := none, updates := [], flight := none, mirrorDirty := []
      waiting := [], current := none, lastHostStamp := none, lastMotionStamp := none, idleReport := true }
    card := m.card.withdrawAll }

/-- The media blocks as a mount or a format is entered. -/
def Media.jobEntered (m : Media) (w : Writer) (st : WriterState) : Media :=
  { m with
    writer := { w with
      state := st, mounted := false, tables := none, updates := [], flight := none, mirrorDirty := [], waiting := []
      current := none, lastHostStamp := none, lastMotionStamp := none }
    card := m.card.withdrawAll }

theorem Media.jobEntered_capacity (m : Media) (w : Writer) (st : WriterState) :
    (m.jobEntered w st).card.capacity = m.card.capacity := by
  rw [Media.jobEntered, Card.withdrawAll_eq]

theorem Media.jobEntered_enter (m : Media) (w : Writer) (st : WriterState) :
    (m.jobEntered w st).enter .unmounted = m.volumeGone w := by
  simp only [Media.jobEntered, Media.enter, Media.modWriter, Writer.enter_unmounted, Media.volumeGone]

theorem Media.enter_mounting (m : Media) : m.dropVolume.enter .mounting = m.jobEntered m.writer .mounting := by
  rw [Media.enter, Media.dropVolume_eq, Media.modWriter, Writer.enter_job _ (.inl rfl)]
  rfl

theorem Writer.resetOver_dropTables (w : Writer) : w.dropTables.resetOver = w.resetOver.dropTables := by
  rw [Writer.resetOver, Writer.resetOver]
  by_cases reset : w.hostReset = true
  · rw [if_pos reset, if_pos (by exact reset)]
    rfl
  · rw [if_neg reset, if_neg (by exact reset)]

theorem Media.enter_formatting (m : Media) :
    (m.dropVolume.modWriter Writer.resetOver).enter .formatting = m.jobEntered m.writer.resetOver .formatting := by
  rw [Media.enter, Media.dropVolume_eq, Media.modWriter, Media.modWriter, Writer.enter_job _ (.inr rfl),
    Writer.resetOver_dropTables]
  rfl

/-- The media blocks as a mount or a format has begun with its first run. -/
def Media.jobBegun (m : Media) (w : Writer) (st : WriterState) (job : VolumeJob) (first : Nat) : Media :=
  { m with
    writer := { w with
      state := st, mounted := false, tables := none, updates := [], flight := none, mirrorDirty := [], waiting := []
      current := none, lastHostStamp := none, lastMotionStamp := none, job := some job }
    card := { m.card.withdrawAll with volume := some ⟨first, 1, none⟩ } }

theorem Media.jobEntered_begun (w : Writer) (st : WriterState) (job : VolumeJob) (usable : m.card.Usable)
    (warn : env.warn = false) (first : Nat) :
    ((m.jobEntered w st).modWriter fun w => w.setJob job).handVolume env ⟨first, 1, none⟩ = m.jobBegun w st job first := by
  have still : ({ m with writer := (m.jobEntered w st).writer.setJob job, card := m.card.withdrawAll } : Media).card.Usable :=
    m.card.withdrawAll_usable.mpr usable
  have handed := Media.handVolume_of_usable still warn ⟨first, 1, none⟩
  simpa only [Media.jobEntered, Media.modWriter, Media.jobBegun, Writer.setJob] using handed

/-- The states in which a mount may begin. -/
def WriterState.Mountable (st : WriterState) : Prop :=
  st = .unmounted ∨ st = .cardLost ∨ st = .cardFault ∨ st = .halted

theorem Media.mount_of_refused (refused : ¬m.writer.state.Mountable ∨ env.warn = true) :
    m.mount env slot = m.answer env slot .refusedState := by
  refine if_pos (refused.imp_left fun other => ?_)
  simpa only [WriterState.Mountable, not_or] using other

section
variable (free : m.writer.state.Mountable) (warn : env.warn = false)
include free warn

theorem mount_goes_on : ¬((m.writer.state ≠ .unmounted ∧ m.writer.state ≠ .cardLost ∧ m.writer.state ≠ .cardFault ∧
    m.writer.state ≠ .halted) ∨ env.warn = true) := by
  rintro (⟨h₁, h₂, h₃, h₄⟩ | warned)
  · rcases free with h | h | h | h
    · exact h₁ h
    · exact h₂ h
    · exact h₃ h
    · exact h₄ h
  · exact Bool.false_ne_true (warn.symm.trans warned)

theorem Media.mount_of_noCard (card : ¬m.card.Usable) : m.mount env slot = m.answer env slot (.failed .noCard) := by
  rw [Media.mount, if_neg (mount_goes_on free warn), if_pos (Card.usable_of_not card)]

theorem Media.mount_of_large (usable : m.card.Usable) (large : m.card.capacity ≤ m.writer.profile.firstSector) :
    m.mount env slot = (m.volumeGone m.writer).answer env slot (.failed .areaTooLarge) := by
  rw [Media.mount, if_neg (mount_goes_on free warn), if_neg (Card.usable_of usable)]
  dsimp only
  rw [Media.enter_mounting, Media.jobEntered_capacity, if_pos large, Media.jobEntered_enter]

theorem Media.mount_of_begun (usable : m.card.Usable) (fits : m.writer.profile.firstSector < m.card.capacity) : m.mount env slot =
    m.jobBegun m.writer .mounting (.mount slot .header none [] []) m.writer.profile.firstSector := by
  rw [Media.mount, if_neg (mount_goes_on free warn), if_neg (Card.usable_of usable)]
  dsimp only
  rw [Media.enter_mounting, Media.jobEntered_capacity, if_neg (Nat.not_le.mpr fits), Media.jobEntered_begun _ _ _ usable warn]
end

/-- The states in which a format may begin. -/
def Writer.Formattable (w : Writer) : Prop :=
  w.state = .unmounted ∨ (w.state = .idle ∧ w.readBack = none ∧ w.unmounting = none ∧ w.waitingSlots = [])

theorem Writer.formattable_iff (w : Writer) : (decide (w.state = .unmounted) ||
    decide (w.state = .idle) && w.readBack.isNone && w.unmounting.isNone && !w.requestWaits) = true ↔ w.Formattable := by
  simp [Writer.Formattable, Writer.requestWaits, and_assoc]

theorem Media.format_of_refused (refused : ¬m.writer.Formattable ∨ env.warn = true) :
    m.format env slot = m.answer env slot .refusedState :=
  if_pos (refused.imp_left fun other => Bool.eq_false_of_not_eq_true (mt m.writer.formattable_iff.mp other))

section
variable (free : m.writer.Formattable) (warn : env.warn = false)
include free warn

theorem format_goes_on : ¬((decide (m.writer.state = .unmounted) || decide (m.writer.state = .idle) && m.writer.readBack.isNone &&
    m.writer.unmounting.isNone && !m.writer.requestWaits) = false ∨ env.warn = true) := by
  rintro (other | warned)
  · exact Bool.false_ne_true (other.symm.trans (m.writer.formattable_iff.mpr free))
  · exact Bool.false_ne_true (warn.symm.trans warned)

theorem Media.format_of_noCard (card : ¬m.card.Usable) : m.format env slot = m.answer env slot (.failed .noCard) := by
  rw [Media.format, if_neg (format_goes_on free warn), if_pos (Card.usable_of_not card)]

theorem Media.format_of_large (usable : m.card.Usable) (large : m.card.capacity <
    areaEnd m.writer.profile.firstSector m.writer.profile.segmentSize m.writer.profile.segmentCount) :
    m.format env slot = (m.volumeGone m.writer.resetOver).answer env slot (.failed .areaTooLarge) := by
  rw [Media.format, if_neg (format_goes_on free warn), if_neg (Card.usable_of usable)]
  dsimp only
  rw [Media.enter_formatting, Media.jobEntered_capacity, if_pos large, Media.jobEntered_enter]

theorem Media.format_of_begun (usable : m.card.Usable)
    (fits : areaEnd m.writer.profile.firstSector m.writer.profile.segmentSize m.writer.profile.segmentCount ≤ m.card.capacity) :
    m.format env slot = m.jobBegun m.writer.resetOver .formatting (.format slot 1 ⟨m.writer.profile.firstSector,
      m.writer.profile.segmentSize, m.writer.profile.segmentCount⟩ 0) m.writer.profile.firstSector := by
  rw [Media.format, if_neg (format_goes_on free warn), if_neg (Card.usable_of usable)]
  dsimp only
  rw [Media.enter_formatting, Media.jobEntered_capacity, if_neg (Nat.not_lt.mpr fits), Media.jobEntered_begun _ _ _ usable warn]
end

/-! ### UNMOUNT_VOLUME (R101) -/

/-- The writer as an unmount has ended. -/
def Writer.unmountEnds (w : Writer) : Writer :=
  { w with
    state := .unmounted, mounted := false, tables := none, updates := [], flight := none, mirrorDirty := []
    waiting := [], current := none, lastHostStamp := none, lastMotionStamp := none, unmounting := none, readBack := none
    idleReport := true }

theorem Writer.unmountEnds_eq (w : Writer) :
    ({ ({ w with readBack := none } : Writer).dropTables with unmounting := none } : Writer).enter .unmounted = w.unmountEnds :=
  Writer.enter_unmounted _

theorem Writer.unmountEnds_of_idle {w : Writer} (reads : w.readBack = none) : w.unmountEnds = { w with
    state := .unmounted, mounted := false, tables := none, updates := [], flight := none, mirrorDirty := []
    waiting := [], current := none, lastHostStamp := none, lastMotionStamp := none, unmounting := none, idleReport := true } := by
  simp only [Writer.unmountEnds, reads]

variable (env) (slots : List Nat) (a : Answer)

theorem Media.finishUnmount_of_idle (reads : m.writer.readBack = none) : m.finishUnmount env slots a =
    ({ m with writer := m.writer.unmountEnds, card := m.card.withdrawAll } : Media).answerAll env slots a := by
  have stays : m.endReadBack env (.failed .clipGone) = m := by rw [Media.endReadBack, reads]
  have plain : ({ m.writer with readBack := none } : Writer) = m.writer := by rw [← reads]
  have ends := m.writer.unmountEnds_eq
  rw [plain] at ends
  simp only [Media.finishUnmount, stays, Media.modCard, Media.modWriter, Media.enter, ends]

theorem Media.finishUnmount_of_reading {r : ReadBack} (reads : m.writer.readBack = some r) : m.finishUnmount env slots a =
    (({ m with
      writer := m.writer.unmountEnds, card := m.card.withdrawAll
      exch := m.exch.mapPurposes Purpose.withoutCopy } : Media).answer env r.slot
        { Answer.failed .clipGone with data := toLe 4 r.copied }).answerAll env slots a := by
  simp only [Media.finishUnmount, Media.endReadBack_of_reading env (.failed .clipGone) reads, Media.readBackGone, Media.answer,
    Answer.withData, Media.modCard, Media.modWriter, Media.enter, Card.withdrawAll_withdraw_readBack, Writer.unmountEnds_eq]

variable {slots a}

theorem Media.unmount_of_busy (busy : m.writer.state = .recording ∨ m.writer.state = .closing ∨ m.writer.state = .mounting ∨
    m.writer.state = .formatting) : m.unmount env slot = m.answer env slot .refusedState := by
  rcases busy with h | h | h | h <;> rw [Media.unmount, h]

theorem Media.unmount_of_unmounted (h : m.writer.state = .unmounted) : m.unmount env slot = m.answer env slot .done := by
  rw [Media.unmount, h]

theorem Media.unmount_of_idle (h : m.writer.state = .idle) : m.unmount env slot =
    { m with writer := { m.writer with unmounting := some (m.writer.unmounting.getD [] ++ [slot]) } } := by
  rw [Media.unmount, h]
  rfl

theorem Media.unmount_of_lost (lost : m.writer.state = .cardLost ∨ m.writer.state = .cardFault ∨ m.writer.state = .halted) :
    m.unmount env slot = m.finishUnmount env [slot] .done := by
  rcases lost with h | h | h <;> rw [Media.unmount, h]

theorem Media.unmountDrained_of_fault {slots : List Nat} (unmounting : m.writer.unmounting = some slots)
    (fault : m.writer.state = .cardFault) : m.unmountDrained env = some (m.finishUnmount env slots (.failed .card)) := by
  rw [Media.unmountDrained]
  exact (if_pos fault).trans (congrArg (Option.map _) unmounting)

theorem Media.unmountDrained_of_listed (other : m.writer.state ≠ .cardFault) (listed : m.writer.updates ≠ [] ∨ m.writer.flight ≠ none) :
    m.unmountDrained env = none := by
  rw [Media.unmountDrained]
  refine (if_neg other).trans ?_
  rcases updates : m.writer.updates with _ | ⟨z, rest⟩
  · rcases flight : m.writer.flight with _ | f
    · exact (listed.elim (fun h => h updates) fun h => h flight).elim
    · rfl
  · rfl

/-- While a clip is recorded or closed, and no WARM reset closes it, an unmount goes on waiting. -/
theorem Media.unmountDrained_of_recording (recording : m.writer.state = .recording ∨
    (m.writer.state = .closing ∧ m.writer.hostReset = false)) : m.unmountDrained env = none := by
  have fault : m.writer.state ≠ .cardFault := by
    rcases recording with h | ⟨h, -⟩ <;> rw [h] <;> exact fun e => WriterState.noConfusion e
  have ends : ¬(m.writer.resetEnds && m.writer.openIndex.isNone &&
      decide (m.writer.state = .closing ∨ m.writer.state = .idle)) = true := by
    rcases recording with h | ⟨-, h⟩
    · simp [h]
    · simp [Writer.resetEnds, h]
  unfold Media.unmountDrained
  dsimp only
  rw [if_neg fault]
  split
  case h_1 =>
    rw [if_neg ends]
    rcases recording with h | ⟨h, -⟩ <;> rw [h]
  case h_2 => rfl

theorem Media.unmountDrained_of_drained {slots : List Nat} (unmounting : m.writer.unmounting = some slots)
    (idle : m.writer.state = .idle) (reset : m.writer.hostReset = false) (updates : m.writer.updates = [])
    (flight : m.writer.flight = none) (wip : m.writer.wip = none) :
    m.unmountDrained env = some (m.finishUnmount env slots .done) := by
  have ends : ¬(m.writer.resetEnds && m.writer.openIndex.isNone &&
      decide (m.writer.state = .closing ∨ m.writer.state = .idle)) = true := by
    simp [Writer.resetEnds, reset]
  unfold Media.unmountDrained
  dsimp only
  rw [if_neg (by rw [idle]; exact fun e => WriterState.noConfusion e), updates, flight, wip]
  dsimp only
  rw [if_neg ends, idle, unmounting]
end

/-! ### The commands -/

section
variable {s : State} {h : Handed} (next : s.media.exch.nextRequest .writer = some h)
include next

theorem exec_mountVolume (kind : h.request = .mountVolume) : exec .mountVolume s = .next
    ((s.requestTaken .writer).setMedia ((s.requestTaken .writer).media.mount s.env h.slot)).settle := by
  show Host.Outcome.next (s.onRequest .writer Request.asMount State.takeMount).settle = _
  rw [State.onRequest_of_next (a := ()) _ next (by rw [kind]; rfl)]
  rfl

theorem exec_formatVolume (kind : h.request = .formatVolume) : exec .formatVolume s = .next
    ((s.requestTaken .writer).setMedia ((s.requestTaken .writer).media.format s.env h.slot)).settle := by
  show Host.Outcome.next (s.onRequest .writer Request.asFormat State.takeFormat).settle = _
  rw [State.onRequest_of_next (a := ()) _ next (by rw [kind]; rfl)]
  rfl

theorem exec_unmountVolume (kind : h.request = .unmountVolume) : exec .unmountVolume s = .next
    ((s.requestTaken .writer).setMedia ((s.requestTaken .writer).media.unmount s.env h.slot)).settle := by
  show Host.Outcome.next (s.onRequest .writer Request.asUnmount State.takeUnmount).settle = _
  rw [State.onRequest_of_next (a := ()) _ next (by rw [kind]; rfl)]
  rfl
end
end Sys2Proof.Machine
end

section
/-! PROOFS. The runs of a format and a mount, the tables a mount leaves, and the mirror after them (R93, R95 to R101). -/

namespace Sys2Proof.Machine

section
variable {m : Media} {env : Env} {slot : Nat} {got : List Byte}

/-! ### A format's runs (R95) -/

/-- The media blocks with a job's next run at the Card Port. -/
def Media.runHanded (m : Media) (w : Writer) (job : VolumeJob) (claim : Claim) : Media :=
  { m with writer := { w with job := some job }, card := { m.card with volume := some claim } }

theorem Media.handVolume_runHanded (usable : m.card.Usable) (warn : env.warn = false) (w : Writer) (job : VolumeJob)
    (claim : Claim) : ({ m with writer := w.setJob job } : Media).handVolume env claim = m.runHanded w job claim :=
  Media.handVolume_of_usable (m := { m with writer := w.setJob job }) usable warn claim

section
variable (usable : m.card.Usable) (warn : env.warn = false) {generation : Nat} {g : Geometry}
include usable warn

theorem Media.formatStep_one : m.formatStep env slot 1 g generation got = m.runHanded m.writer
    (.format slot 2 g (newGeneration got)) ⟨g.firstSector, 1, some (List.replicate 512 0)⟩ :=
  Media.handVolume_runHanded usable warn ..

theorem Media.formatStep_two : m.formatStep env slot 2 g generation got = m.runHanded m.writer
    (.format slot 3 g generation) ⟨g.firstSector + 1, 136, some (emptyZone g generation)⟩ :=
  Media.handVolume_runHanded usable warn ..

theorem Media.formatStep_three : m.formatStep env slot 3 g generation got = m.runHanded m.writer
    (.format slot 4 g generation) ⟨g.firstSector, 1, some (headerSector generation g.segmentSize g.segmentCount 1)⟩ :=
  Media.handVolume_runHanded usable warn ..
end

theorem newGeneration_of_none (header : parseHeader got = none) : newGeneration got = 1 := by
  rw [newGeneration, header]

theorem newGeneration_of_some {h : VolumeHeader} (header : parseHeader got = some h) :
    newGeneration got = if h.generation = 4294967295 then 1 else h.generation + 1 := by
  rw [newGeneration, header]

/-- The last run installs an empty volume. -/
theorem Media.installFormat_leaves (g : Geometry) (generation : Nat) :
    let x := m.installFormat env slot g generation
    x.writer.state = .idle ∧ x.writer.mounted = true ∧ x.writer.updates = [] ∧ x.writer.job = none ∧
      x.writer.tables = some (.formatted g generation) ∧ x.card = m.card := by
  obtain ⟨exch, edition, mirror⟩ := Media.mirror_frame env false (List.range 256) (m.modWriter fun w =>
    { w with mounted := true, tables := some (.formatted g generation), updates := [], mirrorDirty := [], job := none })
  simp only [Media.installFormat, Media.mirrorAll, mirror]
  exact ⟨rfl, rfl, rfl, rfl, rfl, rfl⟩

/-! ### A run that fails, and the header (R96, R100) -/

/-- The media blocks as a mount or a format has ended with no volume. -/
def Media.jobClosed (m : Media) (env : Env) (slot : Nat) (a : Answer) : Media :=
  ({ m with
    writer := { m.writer with
      state := .unmounted, mounted := false, tables := none, updates := [], flight := none, mirrorDirty := []
      waiting := [], current := none, lastHostStamp := none, lastMotionStamp := none, idleReport := true, job := none }
    card := m.card.withdrawAll } : Media).answer env slot a

theorem Media.abandonJob_of_job {j : VolumeJob} (job : m.writer.job = some j) (a : Answer) :
    m.abandonJob env .unmounted a = m.jobClosed env j.slot a := by
  have gone : m.dropVolume.enter .unmounted = m.volumeGone m.writer := by
    simp only [Media.dropVolume_eq, Media.enter, Media.modWriter, Writer.enter_unmounted, Writer.dropTables, Media.volumeGone]
  have still : (m.volumeGone m.writer).writer.job = some j := job
  rw [Media.abandonJob, gone, Media.endJob, still]
  simp only [Media.volumeGone, Media.modWriter, Media.jobClosed]

theorem Media.jobOutcome_of_failed {j : VolumeJob} {o : RunOutcome} (job : m.writer.job = some j) (failed : o ≠ .ok) :
    m.jobOutcome env j o got = m.jobClosed env j.slot (.failed .card) :=
  (if_neg failed).trans (Media.abandonJob_of_job job _)

theorem Media.take_of_job {j : VolumeJob} {v : Delivery} (flight : m.writer.flight = none) (job : m.writer.job = some j)
    (cls : v.cls = .volume) (present : v.outcome ≠ .absent) : m.take env v = m.jobOutcome env j v.outcome v.got := by
  rw [Media.take, if_neg present, cls, flight, job]

section
variable (job : m.writer.job = some (.mount slot .header none [] []))
include job

theorem Media.headerRead_of_none (header : parseHeader got = none) :
    m.headerRead env slot got = m.jobClosed env slot (.failed .unformatted) := by
  rw [Media.headerRead, header]
  exact Media.abandonJob_of_job job _

variable {h : VolumeHeader} (header : parseHeader got = some h)
include header

theorem Media.headerRead_of_large (large : m.card.capacity < areaEnd m.writer.profile.firstSector h.size h.count) :
    m.headerRead env slot got = m.jobClosed env slot (.failed .areaTooLarge) := by
  rw [Media.headerRead, header]
  exact (if_pos large).trans (Media.abandonJob_of_job job _)
end

theorem Media.headerRead_of_fits {h : VolumeHeader} (header : parseHeader got = some h)
    (fits : areaEnd m.writer.profile.firstSector h.size h.count ≤ m.card.capacity) (usable : m.card.Usable) :
    m.headerRead env slot got = m.runHanded { m.writer with
      tables := some ⟨⟨m.writer.profile.firstSector, h.size, h.count⟩, h.generation, h.nextClip, [], [], 0⟩ }
      (.mount slot .zone none [] []) ⟨m.writer.profile.firstSector + 1, 136, none⟩ := by
  rw [Media.headerRead, header]
  refine (if_neg (Nat.not_lt.mpr fits)).trans ?_
  exact Media.handVolume_of_read (m := { m with writer := { m.writer with
    tables := some ⟨⟨m.writer.profile.firstSector, h.size, h.count⟩, h.generation, h.nextClip, [], [], 0⟩
    job := some (.mount slot .zone none [] []) } }) usable _ _

/-! ### The zone and the scan of the OPEN clips (R97, R98) -/

theorem Media.zoneRead_of_tables {d : Tables} (tables : m.writer.tables = some d) : m.zoneRead env slot got =
    Media.scanClips env slot (tidy (readZone d.geometry d.generation d.nextClip got)).openEntries [] { m with
      writer := (({ m.writer with tables := some (tidy (readZone d.geometry d.generation d.nextClip got)) } : Writer).markAll
        (changedSectors got (tidy (readZone d.geometry d.generation d.nextClip got)))).dirtyAll
        (changedEntries got (tidy (readZone d.geometry d.generation d.nextClip got))) } := by
  rw [Media.zoneRead, tables]
  rfl

section
variable {d : Tables} {i : Nat} {c : Clip} {rest recovered : List Nat} (tables : m.writer.tables = some d)
  (entry : d.clipAt i = some c)
include tables entry

theorem Media.scanClips_of_chain {seg : Nat} {more : List Nat} (chain : d.chain c = seg :: more) (usable : m.card.Usable) :
    Media.scanClips env slot (i :: rest) recovered m = m.runHanded m.writer
      (.mount slot .segmentHeader (some (d.startScan i c)) rest recovered)
      ⟨d.geometry.firstSector + 144 + seg * d.geometry.segmentSize, 1, none⟩ := by
  have clip : m.writer.clipAt i = some c := by rw [Writer.clipAt, tables]; exact entry
  have segments : (d.startScan i c).segments = seg :: more := chain
  rw [Media.scanClips, tables, clip]
  dsimp only
  rw [segments]
  exact Media.handVolume_of_read (m := { m with
    writer := m.writer.setJob (.mount slot .segmentHeader (some (d.startScan i c)) rest recovered) }) usable _ _

theorem Media.scanClips_of_no_chain (chain : d.chain c = []) : Media.scanClips env slot (i :: rest) recovered m =
    Media.scanClips env slot rest (recovered ++ [c.number])
      { m with writer := m.writer.changeEntry i fun k => k.rebuild (d.startScan i c) } := by
  have clip : m.writer.clipAt i = some c := by rw [Writer.clipAt, tables]; exact entry
  have segments : (d.startScan i c).segments = [] := chain
  rw [Media.scanClips, tables, clip]
  dsimp only
  rw [segments]
  rfl
end

/-! ### The mount done: the whole directory to the mirror (R93, R99) -/

/-- One entry's write to the mirror where nothing waits to be mirrored. -/
def Media.mirrorClean (env : Env) (d : Tables) (m : Media) (i : Nat) : Media :=
  { m with
    writer := { m.writer with mirrorEdition := nextEdition m.writer.mirrorEdition }
    exch := m.exch.writeRecord env.now (mirrorRecord i false (nextEdition m.writer.mirrorEdition) (d.clipAt i)) }

theorem Media.mirror_of_clean {d : Tables} (entries : List Nat) (tables : m.writer.tables = some d)
    (clean : m.writer.mirrorDirty = []) : Media.mirror env false entries m = entries.foldl (Media.mirrorClean env d) m := by
  rw [Media.mirror_eq_foldl]
  induction entries generalizing m with
  | nil => rfl
  | cons i entries ih =>
    have one : Media.mirrorOne env false m i = Media.mirrorClean env d m i := by
      have entry : m.writer.clipAt i = d.clipAt i := by rw [Writer.clipAt, tables]; rfl
      have next : m.writer.mirrorNext i = { m.writer with mirrorEdition := nextEdition m.writer.mirrorEdition } := by
        rw [Writer.mirrorNext, clean, List.filter_nil, ← clean]
      rw [Media.mirrorOne, Media.mirrorClean, entry, next]
    rw [List.foldl_cons, List.foldl_cons, one]
    exact ih (m := m.mirrorClean env d i) tables clean

/-- The media blocks as the sectors that a mount has changed are written. -/
def Media.mountWritten (m : Media) : Media :=
  { m with writer := { m.writer with job := none, mirrorDirty := [] } }

theorem Media.mountDone_of_listed (listed : m.writer.updates ≠ [] ∨ m.writer.flight ≠ none) : m.mountDone env = none := by
  unfold Media.mountDone
  split
  case h_1 updates flight _ => exact (listed.elim (fun h => h updates) fun h => h flight).elim
  case h_2 => rfl

theorem Media.mountDone_of_written {scan : Option Scan} {todo recovered : List Nat} {d : Tables} {one : Media → Nat → Media}
    {x : Media} (mirrors : one = Media.mirrorClean env d) (folded : (List.range 256).foldl one m.mountWritten = x) (job : m.writer.job = some (.mount slot .writeBack scan todo recovered)) (tables : m.writer.tables = some d)
    (updates : m.writer.updates = []) (flight : m.writer.flight = none) :
    m.mountDone env = some (({ x with writer := { x.writer with state := .idle, idleReport := true } } : Media).answer env slot
      { Answer.done with data := toLe 2 d.present.length ++ (toLe 2 recovered.length ++ (recovered.take 12).flatMap (toLe 4)) }) := by
  have mirrored : m.mountWritten.mirrorAll env = x := by
    rw [Media.mirrorAll, Media.mirror_of_clean (m := m.mountWritten) (d := d) _ tables rfl, ← mirrors, folded]
  rw [Media.mountDone, job, updates, flight, tables]
  show some (((m.mountWritten.mirrorAll env).enter .idle).answer env slot _) = _
  rw [mirrored, Media.enter, Media.modWriter, Writer.enter_idle]
  rfl
end

/-! ### The tables after a mount (R97, R99) -/

theorem mapAt_filling_lt {map : List MapEntry} {s : Nat} (filling : (mapAt map s).state = .filling) : s < map.length := by
  by_contra outside
  rw [mapAt, List.getD_eq_default _ _ (Nat.not_lt.mp outside)] at filling
  exact SegmentState.noConfusion filling

/-- A map entry once the FILLING segments below the count are FILLED. -/
def filledEntry (count : Nat) (map : List MapEntry) (s : Nat) : MapEntry :=
  if s < count ∧ (mapAt map s).state = .filling then ⟨.filled, (mapAt map s).link⟩ else mapAt map s

theorem fillSegments_leave (l : List Nat) {w : Writer} {d : Tables} (tables : w.tables = some d) :
    ∃ (map : List MapEntry) (updates : List Nat), l.foldl fillSegment w = { w with
      tables := some { d with map := map }, updates := updates } ∧
      ∀ s, mapAt map s = if s ∈ l then filledEntry d.geometry.segmentCount d.map s else mapAt d.map s := by
  induction l generalizing w d with
  | nil => exact ⟨d.map, w.updates, by rw [List.foldl_nil, ← tables], fun s => rfl⟩
  | cons i l ih =>
    by_cases fills : i < d.geometry.segmentCount ∧ (mapAt d.map i).state = .filling
    · have step : fillSegment w i = w.changeSegment i ⟨.filled, (mapAt d.map i).link⟩ := by
        rw [fillSegment, tables]
        exact if_pos fills
      obtain ⟨map, updates, all, entries⟩ := ih (w := w.changeSegment i ⟨.filled, (mapAt d.map i).link⟩)
        (d := d.setSegment i ⟨.filled, (mapAt d.map i).link⟩) (congrArg (Option.map _) tables)
      refine ⟨map, updates, by rw [List.foldl_cons, step, all]; rfl, fun s => (entries s).trans ?_⟩
      by_cases same : s = i
      · subst same
        have filled : mapAt (d.map.set s ⟨.filled, (mapAt d.map s).link⟩) s = ⟨.filled, (mapAt d.map s).link⟩ :=
          mapAt_set_same (mapAt_filling_lt fills.2) _
        have stays : filledEntry d.geometry.segmentCount (d.map.set s ⟨.filled, (mapAt d.map s).link⟩) s =
            ⟨.filled, (mapAt d.map s).link⟩ := by
          rw [filledEntry, filled]
          exact if_neg fun h => SegmentState.noConfusion h.2
        have becomes : filledEntry d.geometry.segmentCount d.map s = ⟨.filled, (mapAt d.map s).link⟩ := if_pos fills
        rw [if_pos (List.mem_cons_self ..), becomes]
        exact (ite_congr rfl (fun _ => stays) fun _ => filled).trans (ite_self _)
      · have other : mapAt (d.map.set i ⟨.filled, (mapAt d.map i).link⟩) s = mapAt d.map s := mapAt_set_other _ same _
        have mem : s ∈ i :: l ↔ s ∈ l := by rw [List.mem_cons, or_iff_right same]
        refine ite_congr (propext mem.symm) (fun _ => ?_) fun _ => other
        show filledEntry d.geometry.segmentCount (d.map.set i _) s = _
        rw [filledEntry, filledEntry, other]
    · have step : fillSegment w i = w := by
        rw [fillSegment, tables]
        exact if_neg fills
      obtain ⟨map, updates, all, entries⟩ := ih tables
      refine ⟨map, updates, by rw [List.foldl_cons, step, all], fun s => (entries s).trans ?_⟩
      by_cases same : s = i
      · subst same
        rw [if_pos (List.mem_cons_self ..), filledEntry, if_neg fills, ite_self]
      · have mem : s ∈ i :: l ↔ s ∈ l := by rw [List.mem_cons, or_iff_right same]
        exact ite_congr (propext mem.symm) (fun _ => rfl) fun _ => rfl

theorem Writer.settleTables_leaves {w : Writer} {d : Tables} (tables : w.tables = some d) (few : d.geometry.segmentCount ≤ 1024) :
    ∃ e : Tables, w.settleTables.tables = some e ∧ w.settleTables.mounted = true ∧
      e.dir = d.dir ∧ e.geometry = d.geometry ∧ e.generation = d.generation ∧ e.nextClip = d.nextAfterMount ∧
      e.alloc = d.allocAfterMount ∧ ∀ s, mapAt e.map s = filledEntry d.geometry.segmentCount d.map s := by
  obtain ⟨map, updates, all, entries⟩ := fillSegments_leave (List.range 1024) tables
  have entries : ∀ s, mapAt map s = filledEntry d.geometry.segmentCount d.map s := fun s => by
    rw [entries s]
    by_cases inside : s ∈ List.range 1024
    · rw [if_pos inside]
    · rw [if_neg inside, filledEntry, if_neg]
      rw [List.mem_range] at inside
      omega
  refine ⟨{ d with map := map, nextClip := d.nextAfterMount, alloc := d.allocAfterMount }, ?_, ?_, rfl, rfl, rfl, rfl, rfl, entries⟩
  · unfold Writer.settleTables
    rw [all]
    dsimp only
    split <;> rfl
  · unfold Writer.settleTables
    rw [all]
end Sys2Proof.Machine

namespace Sys2Proof.Proofs
open Sys2Proof.Machine

/-- Settles O27: the requests by the states that take them, the runs of a format and a mount one by one, and the tables after a
mount by the fold over its segments. -/
theorem volumeRequests : Obligations.VolumeRequests := by
  unfold Obligations.VolumeRequests
  refine ⟨fun s slot stamp r next => ?_, fun s slot stamp next => ?_, fun m env slot generation g got usable warn => ?_,
    fun m env slot got => ?_, fun w d tables few => Writer.settleTables_leaves tables few⟩
  · refine ⟨fun kind => ?_, fun kind => ?_⟩
    · intro free
      have gives : ∀ {n : Media}, (s.requestTaken .writer).media.mount s.env slot = n →
          exec .mountVolume s = .next ((s.requestTaken .writer).setMedia n).settle := fun eq =>
        (exec_mountVolume next kind).trans (congrArg (fun n => Host.Outcome.next ((s.requestTaken .writer).setMedia n).settle) eq)
      exact ⟨fun refused => gives (Media.mount_of_refused (m := (s.requestTaken .writer).media) slot refused),
        fun open_ warn card => gives (Media.mount_of_noCard (m := (s.requestTaken .writer).media) slot open_ warn card),
        fun open_ warn card large => gives (Media.mount_of_large (m := (s.requestTaken .writer).media) slot open_ warn card large),
        fun open_ warn card fits => gives (Media.mount_of_begun (m := (s.requestTaken .writer).media) slot open_ warn card fits)⟩
    · intro free v
      have gives : ∀ {n : Media}, (s.requestTaken .writer).media.format s.env slot = n →
          exec .formatVolume s = .next ((s.requestTaken .writer).setMedia n).settle := fun eq =>
        (exec_formatVolume next kind).trans (congrArg (fun n => Host.Outcome.next ((s.requestTaken .writer).setMedia n).settle) eq)
      exact ⟨fun refused => gives (Media.format_of_refused (m := (s.requestTaken .writer).media) slot refused),
        fun open_ warn card => gives (Media.format_of_noCard (m := (s.requestTaken .writer).media) slot open_ warn card),
        fun open_ warn card large => gives (Media.format_of_large (m := (s.requestTaken .writer).media) slot open_ warn card large),
        fun open_ warn card fits => gives (Media.format_of_begun (m := (s.requestTaken .writer).media) slot open_ warn card fits)⟩
  · intro t w
    have gives : ∀ {n : Media}, (s.requestTaken .writer).media.unmount s.env slot = n →
        exec .unmountVolume s = .next ((s.requestTaken .writer).setMedia n).settle := fun eq =>
      (exec_unmountVolume next rfl).trans (congrArg (fun n => Host.Outcome.next ((s.requestTaken .writer).setMedia n).settle) eq)
    refine ⟨fun busy => gives (Media.unmount_of_busy (m := (s.requestTaken .writer).media) _ slot busy),
      fun out => gives (Media.unmount_of_unmounted (m := (s.requestTaken .writer).media) _ slot out),
      fun idle => gives (Media.unmount_of_idle (m := (s.requestTaken .writer).media) _ slot idle), fun lost reads => ?_,
      fun r lost reads => gives ((Media.unmount_of_lost (m := (s.requestTaken .writer).media) _ slot lost).trans
        (Media.finishUnmount_of_reading (m := (s.requestTaken .writer).media) _ _ _ reads))⟩
    have plain : w.unmountEnds = { w with
        state := .unmounted, mounted := false, tables := none, updates := [], flight := none, mirrorDirty := []
        waiting := [], current := none, lastHostStamp := none, lastMotionStamp := none, unmounting := none
        idleReport := true } := Writer.unmountEnds_of_idle reads
    refine (gives ((Media.unmount_of_lost (m := (s.requestTaken .writer).media) _ slot lost).trans
      (Media.finishUnmount_of_idle (m := (s.requestTaken .writer).media) _ _ _ reads))).trans ?_
    rw [← plain]
    rfl
  · intro next
    refine ⟨fun header => ?_, fun h header => ?_, Media.formatStep_two usable warn, Media.formatStep_three usable warn,
      Media.installFormat_leaves g generation⟩
    · exact (Media.formatStep_one usable warn).trans (by rw [newGeneration_of_none header]; rfl)
    · exact (Media.formatStep_one usable warn).trans (by rw [newGeneration_of_some header]; rfl)
  · intro w first usable closed read
    refine ⟨fun j v flight job cls present => Media.take_of_job flight job cls present, ?_, ?_, ?_, fun recovered => rfl,
      fun d i c rest recovered tables entry => ⟨fun seg more => Media.scanClips_of_chain tables entry, Media.scanClips_of_no_chain tables entry⟩, ?_, fun slots unmounting => ?_⟩
    · rintro j o job rfl failed
      exact Media.jobOutcome_of_failed job failed
    · intro j job
      refine ⟨Media.headerRead_of_none job, fun h header => ⟨Media.headerRead_of_large job header, Media.headerRead_of_fits header⟩⟩
    · intro d tables
      exact Media.zoneRead_of_tables tables
    · intro scan todo recovered d job tables one x
      have mirrors : one = Media.mirrorClean env d := rfl
      have folded : (List.range 256).foldl one m.mountWritten = x := rfl
      exact ⟨Media.mountDone_of_listed, fun updates flight => Media.mountDone_of_written mirrors folded job tables updates flight⟩
    · intro gone ends
      refine ⟨fun idle listed => Media.unmountDrained_of_listed env (by rw [idle]; exact fun e => WriterState.noConfusion e) listed,
        Media.unmountDrained_of_recording env, fun idle reset updates flight wip => ?_, fun fault => ?_⟩
      · have drained := Media.unmountDrained_of_drained env unmounting idle reset updates flight wip
        exact ⟨fun reads => drained.trans (congrArg some (Media.finishUnmount_of_idle env slots .done reads)),
          fun r reads => drained.trans (congrArg some (Media.finishUnmount_of_reading env slots .done reads))⟩
      · have failed := Media.unmountDrained_of_fault env unmounting fault
        exact ⟨fun reads => failed.trans (congrArg some (Media.finishUnmount_of_idle env slots (.failed .card) reads)),
          fun r reads => failed.trans (congrArg some (Media.finishUnmount_of_reading env slots (.failed .card) reads))⟩
end Sys2Proof.Proofs
end

section
/-! PROOFS. A chunk's fetch, its place in a segment, and the segment allocated for it (R113 to R118). -/

namespace Sys2Proof.Machine

/-! ### The payload read and its run handed over (R117, R118) -/

section
variable {s : State} {n : Nat} (bytes : List Byte)

theorem exec_payloadFetchComplete_live (purpose : (s.media.exch.transferAt n).map Transfer.purpose = some (.payload true)) :
    exec (.payloadFetchComplete n bytes) s = .next ((s.modExch fun e => e.dropTransfer n).setMedia
      ((s.modExch fun e => e.dropTransfer n).media.payloadRead s.env bytes)).settle := by
  show Host.Outcome.next (s.payloadFetched n bytes).settle = _
  rw [State.payloadFetched, purpose]
  rfl

theorem exec_payloadFetchComplete_dropped (purpose : (s.media.exch.transferAt n).map Transfer.purpose = some (.payload false)) :
    exec (.payloadFetchComplete n bytes) s = .next (s.modExch fun e => e.dropTransfer n).settle := by
  show Host.Outcome.next (s.payloadFetched n bytes).settle = _
  rw [State.payloadFetched, purpose]
  rfl
end

section
variable {m : Media} (env : Env) {d : Tables} {i : Nat} {e : Clip} {cur : CurrentSegment} {p : WriteInProgress}

theorem Media.payloadRead_of_fetching (bytes : List Byte) (wip : m.writer.wip = some p) (fetching : p.stage = .fetching) :
    m.payloadRead env bytes = m.handChunk env p (slice bytes 0 p.chunk.length) := by
  rw [Media.payloadRead, wip]
  exact if_pos fetching

/-- The run of a chunk: its sectors, behind its segment's header sector where that is not written yet. -/
def chunkRun (d : Tables) (e : Clip) (cur : CurrentSegment) (c : Chunk) (payload : List Byte) : Claim :=
  if cur.headerWritten then ⟨d.geometry.segmentStart cur.segment + cur.nextSector, chunkSectors payload.length,
    some (chunkImage c.kind c.key c.seq c.stamp payload)⟩
  else ⟨d.geometry.segmentStart cur.segment, 1 + chunkSectors payload.length,
    some (segmentHeaderSector e.number (e.segments - 1) d.generation c.seq ++ chunkImage c.kind c.key c.seq c.stamp payload)⟩

theorem Media.handChunk_of_open (payload : List Byte) (opens : m.writer.HasOpen d i e) (current : m.writer.current = some cur)
    (usable : m.card.Usable) (warn : env.warn = false) : m.handChunk env p payload = { m with
      writer := { m.writer with wip := some { p with stage := .writing, payload := some payload } }
      card := { m.card with chunk := some (chunkRun d e cur p.chunk payload) } } := by
  have clip : ({ m.writer with wip := some { p with stage := .writing, payload := some payload } } : Writer).openClip = some e :=
    opens.openClip_eq
  have takes : ∀ k, m.card.hand env .chunk k = { m.card with chunk := some k } := fun k =>
    Card.hand_of_takes .chunk k (by rcases usable with h | h <;> rw [h] <;> exact fun e => CardState.noConfusion e)
      (by rcases usable with h | h <;> rw [h] <;> exact fun e => CardState.noConfusion e) warn
  have current : ({ m.writer with wip := some { p with stage := .writing, payload := some payload } } : Writer).current = some cur :=
    current
  rw [Media.handChunk]
  dsimp only [Media.modWriter]
  rw [clip]
  rw [opens.tables, current]
  dsimp only [Media.modCard]
  rw [takes]
  rfl

/-! ### The front of the queue (R113, R114) -/

theorem Writer.fits_iff {w : Writer} (c : Chunk) (tables : w.tables = some d) (current : w.current = some cur) :
    w.fits c = true ↔ cur.nextSector + (32 + c.length + 511) / 512 ≤ d.geometry.segmentSize := by
  rw [Writer.fits, current, tables]
  exact decide_eq_true_iff

theorem Writer.fits_of_none {w : Writer} (c : Chunk) (current : w.current = none) : ¬w.fits c = true := by
  rw [Writer.fits, current]
  exact Bool.false_ne_true

/-- The media blocks with the front of the queue taken. -/
def Media.frontTaken (m : Media) (rest : List Chunk) : Media :=
  { m with writer := { m.writer with queue := rest } }

/-- The states in which chunks are written. -/
def WriterState.Writes (st : WriterState) : Prop :=
  st = .recording ∨ st = .closing

section
variable {c : Chunk} {rest : List Chunk} (writes : m.writer.state.Writes) (wip : m.writer.wip = none)
  (queue : m.writer.queue = c :: rest) (index : m.writer.openIndex = some i)
include writes wip queue index

theorem Media.startWrite_of_plain (plain : c.opensClip = false) :
    m.startWrite env = some ((m.frontTaken rest).beginItem env i c) := by
  rw [Media.startWrite, show m.writer.recordingOrClosing = true from decide_eq_true writes, wip, queue, index]
  exact congrArg some (if_neg (by rw [plain]; exact Bool.false_ne_true))

theorem Media.startWrite_of_opens (opens : c.opensClip = true) :
    m.startWrite env = some ((m.frontTaken rest).rollover env i c) := by
  rw [Media.startWrite, show m.writer.recordingOrClosing = true from decide_eq_true writes, wip, queue, index]
  exact congrArg some (if_pos opens)
end

/-- The write that begins with a chunk: a MOTION chunk takes its ordinal. -/
def Writer.begun (w : Writer) (c : Chunk) : WriteInProgress :=
  ⟨if c.kind = .motion then { c with seq := w.motionOrdinal } else c, .fetching, false, none, []⟩

theorem Media.beginItem_eq (c : Chunk) : m.beginItem env i c =
    if m.writer.fits c then m.placeChunk env (m.writer.begun c) else m.allocateFor env i (m.writer.begun c) := by
  by_cases motion : c.kind = .motion
  · have host : ¬c.isHost = true := fun h => of_decide_eq_true h motion
    simp only [Media.beginItem, if_neg host, Writer.begun, if_pos motion]
    rfl
  · have host : c.isHost = true := decide_eq_true motion
    simp only [Media.beginItem, if_pos host, Writer.begun, if_neg motion]

theorem Media.placeChunk_of_slot {slot : Nat} {edition : Edition} {address : Nat} (payload : p.payload = none)
    (source : p.chunk.source = .slot slot edition address) : m.placeChunk env p = { m with
      writer := { m.writer with wip := some { p with stage := .fetching } }
      exch := { m.exch with transfers := m.exch.transfers ++ [⟨.payload true, address, none, p.chunk.length, env.now⟩] } } := by
  rw [Media.placeChunk, source, payload]
  rfl

theorem Media.placeChunk_of_buffer {id : BufferId} (source : p.chunk.source = .buffer id) :
    m.placeChunk env p = m.handChunk env p (motionPayload (m.steady.buffer id).records) := by
  rw [Media.placeChunk, source]

/-! ### Allocation (R115, R116) -/

theorem Tables.firstFree_spec {s : Nat} (free : d.firstFree = some s) : (mapAt d.map s).state = .free ∧
    ∃ k, k < d.geometry.segmentCount ∧ s = (d.alloc + k) % d.geometry.segmentCount ∧
      ∀ j, j < k → (mapAt d.map ((d.alloc + j) % d.geometry.segmentCount)).state ≠ .free := by
  obtain ⟨isFree, k, inside, at_, before⟩ := List.find?_eq_some_iff_getElem.mp free
  rw [List.length_map, List.length_range] at inside
  refine ⟨of_decide_eq_true isFree, k, inside, ?_, fun j low => ?_⟩
  · rw [List.getElem_map, List.getElem_range] at at_
    exact at_.symm
  · have notFree := before j low
    rw [List.getElem_map, List.getElem_range] at notFree
    simpa using notFree

/-- The entry of a clip that gains a segment. -/
def Clip.withSegment (s : Nat) (c : Clip) : Clip :=
  { c with first := if c.first.isNone then some s else c.first, last := some s, segments := c.segments + 1 }

/-- The writer with a segment taken for entry `i`, its map and its list given. -/
def Writer.segmentTaken (w : Writer) (d : Tables) (i s : Nat) (map : List MapEntry) (updates : List Nat) : Writer :=
  { w with
    tables := some { d with
      dir := d.dir.modify i (Option.map (Clip.withSegment s)), map := map, alloc := (s + 1) % d.geometry.segmentCount }
    updates := updates, mirrorDirty := addOnce w.mirrorDirty i, current := some ⟨s, 1, false⟩ }

section
variable {w : Writer} {s : Nat} (tables : w.tables = some d) (entry : d.clipAt i = some e)
include tables entry

theorem Writer.takeSegment_of_first (last : e.last = none) : w.takeSegment i s =
    (w.segmentTaken d i s (d.map.set s ⟨.filling, none⟩) (addOnce (addOnce w.updates (mapSector s)) (dirSector i)),
      [mapSector s, dirSector i]) := by
  have clip : w.clipAt i = some e := by rw [Writer.clipAt, tables]; exact entry
  simp only [Writer.takeSegment, tables, clip, last, Writer.changeSegment, Writer.changeEntry, Writer.modTables, Option.map_some]
  rfl

theorem Writer.takeSegment_of_next {l : Nat} (last : e.last = some l) : w.takeSegment i s =
    (w.segmentTaken d i s ((d.map.set s ⟨.filling, none⟩).set l
        ⟨if (mapAt d.map l).state = .filling then .filled else (mapAt d.map l).state, some s⟩)
      (addOnce (addOnce (addOnce w.updates (mapSector s)) (mapSector l)) (dirSector i)),
      [mapSector s, mapSector l, dirSector i]) := by
  have clip : w.clipAt i = some e := by rw [Writer.clipAt, tables]; exact entry
  simp only [Writer.takeSegment, tables, clip, last, Writer.changeSegment, Writer.changeEntry, Writer.modTables, Option.map_some]
  rfl
end

theorem Writer.allocate_of_free {w : Writer} {s : Nat} (n : Nat) (sectors : List Nat) (tables : w.tables = some d)
    (free : d.firstFree = some s) :
    Writer.allocate (n + 1) w i sectors = ((w.takeSegment i s).1, some (sectors ++ (w.takeSegment i s).2)) := by
  simp only [Writer.allocate, tables, Option.bind_some, free]

theorem Writer.allocate_of_full {w : Writer} (n : Nat) (sectors : List Nat) (tables : w.tables = some d)
    (free : d.firstFree = none) (kept : d.oldest = none) : Writer.allocate (n + 1) w i sectors = (w, none) := by
  simp only [Writer.allocate, tables, Option.bind_some, free, Writer.reclaim_of_none tables kept]

theorem Media.allocateFor_of_free {s : Nat} (tables : m.writer.tables = some d) (free : d.firstFree = some s) :
    m.allocateFor env i p = { m with writer := { (m.writer.takeSegment i s).1 with
      wip := some { p with stage := .allocating, allocSectors := (m.writer.takeSegment i s).2 } } } := by
  rw [Media.allocateFor, Writer.allocate_of_free 256 [] tables free]
  rfl

/-- The chunk waits in ALLOCATING. -/
def Media.allocating (m : Media) (p : WriteInProgress) : Media :=
  { m with writer := { m.writer with wip := some { p with stage := .allocating } } }

theorem Media.allocateFor_of_full (tables : m.writer.tables = some d) (free : d.firstFree = none) (kept : d.oldest = none) :
    m.allocateFor env i p = (m.allocating p).volumeFull env := by
  rw [Media.allocateFor, Writer.allocate_of_full 256 [] tables free kept]
  rfl

/-! ### A FULL volume (R116) -/

theorem hostCount_append (a b : List Chunk) : hostCount (a ++ b) = hostCount a + hostCount b := by
  rw [hostCount, List.filter_append, List.length_append]
  rfl

/-- A flush adds no host chunk. -/
theorem Media.flushedQueue_hostCount (m : Media) : hostCount m.flushedQueue = hostCount m.writer.queue := by
  unfold Media.flushedQueue
  split
  · split
    · rfl
    · rw [hostCount_append]
      rfl
  · rfl

/-- What a close that begins leaves of the writer, whatever its state. -/
theorem Media.closeBegin_leaves (cause : CloseCause) (writes : m.writer.state.Writes) :
    let x := m.closeBegin env cause
    x.writer.state = .closing ∧ x.writer.wip = m.writer.wip ∧ x.writer.readBack = m.writer.readBack ∧
      x.writer.mounted = m.writer.mounted ∧ x.writer.tables = m.writer.tables ∧
      x.writer.closeCause = (if m.writer.state = .recording then some cause else m.writer.closeCause) ∧
      hostCount x.writer.queue = hostCount m.writer.queue := by
  intro x
  by_cases recording : m.writer.state = .recording
  · have begun : x = _ := Media.closeBegin_of_recording env cause recording
    have queue := Media.flushedQueue_hostCount ((((m.enter .closing).modWriter fun w =>
      { w with closeCause := some cause, stopPending := none, starvation := none }).dropParked env .refused))
    rw [begun, Media.flush_writer, if_pos recording]
    rw [Media.dropParked_writer] at queue ⊢
    exact ⟨rfl, rfl, rfl, rfl, rfl, rfl, queue⟩
  · have same : x = m := Media.closeBegin_of_not_recording env cause recording
    rw [same, if_neg recording]
    exact ⟨writes.resolve_left recording, rfl, rfl, rfl, rfl, rfl, rfl⟩

theorem Writer.addDrops_drops {w : Writer} (opens : w.HasOpen d i e) (n : Nat) : ∃ (t : Tables) (c : Clip),
    (w.addDrops n).HasOpen t i c ∧ c.drops = e.drops + n := by
  by_cases none : n = 0
  · rw [none, Writer.addDrops_zero]
    exact ⟨d, e, opens, rfl⟩
  · rw [Writer.addDrops_of_some opens.openIndex_eq none]
    exact ⟨_, _, opens.changeEntry rfl, rfl⟩

theorem Writer.addMotionDrops_drops {w : Writer} (opens : w.HasOpen d i e) (n : Nat) : ∃ (t : Tables) (c : Clip),
    (w.addMotionDrops n).HasOpen t i c ∧ c.drops = e.drops := by
  rw [Writer.addMotionDrops, opens.openIndex_eq]
  dsimp only
  split
  · exact ⟨d, e, opens, rfl⟩
  · exact ⟨_, _, opens.changeEntry rfl, rfl⟩

/-- The writer's part that drops counted in an entry leave. -/
def Writer.uncounted (w : Writer) : WriterState × List Chunk × Option WriteInProgress × Option ReadBack × Option CloseCause :=
  (w.state, w.queue, w.wip, w.readBack, w.closeCause)

theorem Writer.addDrops_uncounted (w : Writer) (n : Nat) : (w.addDrops n).uncounted = w.uncounted := by
  unfold Writer.addDrops
  split
  · rfl
  · split <;> rfl

theorem Writer.addMotionDrops_uncounted (w : Writer) (n : Nat) : (w.addMotionDrops n).uncounted = w.uncounted := by
  unfold Writer.addMotionDrops
  split
  · rfl
  · split <;> rfl

/-- A FULL volume closes the clip, and everything admitted is given up. -/
theorem Media.volumeFull_leaves (writes : m.writer.state.Writes) :
    let x := m.volumeFull env
    x.writer.state = .closing ∧ x.writer.queue = [] ∧ x.writer.wip = none ∧ x.writer.readBack = m.writer.readBack ∧
      x.writer.closeCause = (if m.writer.state = .recording then some .full else m.writer.closeCause) ∧
      (m.writer.HasOpen d i e → ∃ c : Clip, x.writer.clipAt i = some c ∧ c.drops = e.drops + hostCount m.writer.admitted) := by
  intro x
  obtain ⟨state, wip, readBack, mounted, tables, cause, queue⟩ := Media.closeBegin_leaves env .full writes
  have admitted : hostCount (m.closeBegin env .full).writer.admitted = hostCount m.writer.admitted := by
    rw [Writer.admitted, Writer.admitted, hostCount_append, hostCount_append, wip, queue]
  have counted := (Writer.addMotionDrops_uncounted ((m.closeBegin env .full).writer.addDrops (hostCount
    (m.closeBegin env .full).writer.admitted)) ((m.closeBegin env .full).steady.recordCount
    (m.closeBegin env .full).writer.admitted)).trans (Writer.addDrops_uncounted _ _)
  simp only [Writer.uncounted, Prod.mk.injEq] at counted
  obtain ⟨state₁, -, -, readBack₁, cause₁⟩ := counted
  have writer : x.writer = _ := Media.dropAdmitted_writer _ _ _
  rw [writer]
  refine ⟨state₁.trans state, rfl, rfl, readBack₁.trans readBack, cause₁.trans cause, fun opens => ?_⟩
  have still : (m.closeBegin env .full).writer.HasOpen d i e :=
    ⟨mounted.trans opens.mounted, tables.trans opens.tables, opens.index, opens.entry⟩
  obtain ⟨t, c, opens₁, drops⟩ := Writer.addDrops_drops still (hostCount (m.closeBegin env .full).writer.admitted)
  obtain ⟨u, k, opens₂, drops₂⟩ := Writer.addMotionDrops_drops opens₁ ((m.closeBegin env .full).steady.recordCount
    (m.closeBegin env .full).writer.admitted)
  exact ⟨k, (opens₂.clipAt_eq i).trans opens₂.entry, by rw [drops₂, drops, admitted]⟩
end
end Sys2Proof.Machine
end

section
/-! PROOFS. A chunk's run ended: written, or failed into a rewrite or CARD_FAULT (R118 to R120). -/

namespace Sys2Proof.Machine

/-! ### The entry of a clip that gains a chunk (R118) -/

section
variable {d : Tables} {i : Nat} {e : Clip} {f g : Clip → Clip}

theorem Tables.modClip_modClip : (d.modClip i f).modClip i g = d.modClip i (g ∘ f) := by
  show ({ d with dir := (d.dir.modify i (Option.map f)).modify i (Option.map g) } : Tables) = _
  rw [List.modify_modify_eq, Option.map_comp_map]
  rfl

/-- The same change of the entry that is there is the same change of the tables. -/
theorem Tables.modClip_congr (entry : d.clipAt i = some e) (same : f e = g e) : d.modClip i f = d.modClip i g := by
  have dir : d.dir.modify i (Option.map f) = d.dir.modify i (Option.map g) := by
    refine modify_congr fun x at_ => ?_
    obtain rfl : x = some e := by rwa [Tables.clipAt, entryAt, List.getD_eq_getElem?_getD, at_] at entry
    exact congrArg some same
  show ({ d with dir := d.dir.modify i (Option.map f) } : Tables) = _
  rw [dir]
  rfl

variable {w : Writer} {k : Chunk}

/-- The writer with the open clip's entry changed, its sector listed or not. -/
def Writer.gained (w : Writer) (t : Tables) (updates : List Nat) (i : Nat) : Writer :=
  { w with tables := some t, updates := updates, mirrorDirty := addOnce w.mirrorDirty i }

theorem Writer.gainChunk_of_flag (opens : w.HasOpen d i e) (flag : e.flagFor k = some f) :
    w.gainChunk k = w.gained (d.modClip i fun c => (f c).gain k) (addOnce w.updates (dirSector i)) i := by
  rw [Writer.gainChunk, opens.openIndex_eq, opens.openClip_eq]
  dsimp only
  rw [flag]
  dsimp only
  rw [Writer.countEntry, Writer.modTables, Writer.changeEntry_eq, opens.tables]
  dsimp only [Writer.dirty, Option.map_some]
  rw [addOnce_addOnce, ← Tables.modClip, Tables.modClip_modClip]
  rfl

theorem Writer.gainChunk_of_plain (opens : w.HasOpen d i e) (flag : e.flagFor k = none) :
    w.gainChunk k = w.gained (d.modClip i fun c => c.gain k) w.updates i := by
  rw [Writer.gainChunk, opens.openIndex_eq, opens.openClip_eq]
  dsimp only
  rw [flag]
  dsimp only
  rw [Writer.countEntry, Writer.modTables, opens.tables]
  rfl

theorem Chunk.isHost_of_ne (host : k.kind ≠ .motion) : k.isHost = true :=
  decide_eq_true host

theorem Chunk.isHost_of_motion (motion : k.kind = .motion) : ¬k.isHost = true :=
  fun h => of_decide_eq_true h motion

/-- A host chunk counts in its clip, the first one without a key marking it. -/
theorem Writer.gainChunk_of_host (opens : w.HasOpen d i e) (host : k.kind ≠ .motion) : w.gainChunk k =
    w.gained (d.modClip i fun c => { c with
        hostCount := c.hostCount + 1, bytes := c.bytes + k.length
        unkeyed := if e.hostCount = 0 ∧ ¬(k.kind = .video ∧ k.key = true) then true else c.unkeyed })
      (if e.hostCount = 0 ∧ ¬(k.kind = .video ∧ k.key = true) then addOnce w.updates (dirSector i) else w.updates) i := by
  have isHost := Chunk.isHost_of_ne host
  have keyed : (e.hostCount = 0 ∧ k.keyVideo = false) ↔ e.hostCount = 0 ∧ ¬(k.kind = .video ∧ k.key = true) := by
    rw [← Chunk.keyVideo_iff, Bool.not_eq_true]
  by_cases unkeyed : e.hostCount = 0 ∧ ¬(k.kind = .video ∧ k.key = true)
  · have flag : e.flagFor k = some fun c => { c with unkeyed := true } := by
      rw [Clip.flagFor, if_pos isHost, if_pos (keyed.mpr unkeyed)]
    simp only [Writer.gainChunk_of_flag opens flag, Clip.gain, if_pos isHost, if_pos unkeyed]
  · have flag : e.flagFor k = none := by
      rw [Clip.flagFor, if_pos isHost, if_neg (mt keyed.mp unkeyed)]
    simp only [Writer.gainChunk_of_plain opens flag, Clip.gain, if_pos isHost, if_neg unkeyed]

/-- A MOTION chunk counts in its clip, which has a motion track from the first one on. -/
theorem Writer.gainChunk_of_motion (opens : w.HasOpen d i e) (motion : k.kind = .motion) : w.gainChunk k =
    w.gained (d.modClip i fun c => { c with
        motionCount := c.motionCount + 1, bytes := c.bytes + k.length, motionTrack := true })
      (if e.motionTrack then w.updates else addOnce w.updates (dirSector i)) i := by
  have notHost := Chunk.isHost_of_motion motion
  by_cases track : e.motionTrack = true
  · have flag : e.flagFor k = none := by
      rw [Clip.flagFor, if_neg notHost, if_pos track]
    have same : d.modClip i (fun c => c.gain k) = d.modClip i fun c => { c with
        motionCount := c.motionCount + 1, bytes := c.bytes + k.length, motionTrack := true } :=
      Tables.modClip_congr opens.entry (by rw [Clip.gain, if_neg notHost]; simp only [track])
    rw [Writer.gainChunk_of_plain opens flag, if_pos track, same]
  · have flag : e.flagFor k = some fun c => { c with motionTrack := true } := by
      rw [Clip.flagFor, if_neg notHost, if_neg track]
    simp only [Writer.gainChunk_of_flag opens flag, Clip.gain, if_neg notHost, if_neg track]
end

/-! ### A chunk written (R118) -/

section
variable {m : Media} (env : Env) {d : Tables} {i : Nat} {e : Clip} {cur : CurrentSegment} {p : WriteInProgress}
  (completion : Stamp) (opens : m.writer.HasOpen d i e) (current : m.writer.current = some cur)

/-- The place after a chunk in its segment. -/
def CurrentSegment.after (cur : CurrentSegment) (k : Chunk) : CurrentSegment :=
  ⟨cur.segment, cur.nextSector + chunkSectors k.length, true⟩

include opens current

theorem Media.chunkWritten_of_host {slot : Nat} {edition : Edition} {address : Nat} (host : p.chunk.kind ≠ .motion)
    (source : p.chunk.source = .slot slot edition address)
    (held : m.writer.held.contains ⟨slot, edition, p.chunk.seq⟩ = true) : m.chunkWritten env p completion = { m with
      writer := { m.writer.gainChunk p.chunk with
        current := some (cur.after p.chunk), lastHostStamp := some p.chunk.stamp, lastCompletion := completion, wip := none
        held := m.writer.held.filter fun h => decide (h ≠ ⟨slot, edition, p.chunk.seq⟩) }
      exch := m.exch.writeRecord env.now (receiptRecord ⟨slot, edition, p.chunk.seq⟩ .written) } := by
  have isHost := Chunk.isHost_of_ne host
  have gain := Writer.gainChunk_of_host opens host
  rw [gain, Media.chunkWritten, Media.finish, source]
  dsimp only [Media.modWriter]
  rw [gain]
  refine Eq.trans (Media.receipt_of_held env .written held) ?_
  simp only [Writer.gained, current, Option.map_some, if_pos isHost]
  rfl

theorem Media.chunkWritten_of_motion {id : BufferId} (motion : p.chunk.kind = .motion) (source : p.chunk.source = .buffer id) :
    m.chunkWritten env p completion = { m with
      steady := m.steady.setBuffer id ⟨.free, []⟩
      writer := { m.writer.gainChunk p.chunk with
        current := some (cur.after p.chunk), motionOrdinal := m.writer.motionOrdinal + 1
        lastMotionStamp := some p.chunk.stamp, lastCompletion := completion, wip := none } } := by
  have notHost := Chunk.isHost_of_motion motion
  have gain := Writer.gainChunk_of_motion opens motion
  rw [gain, Media.chunkWritten, Media.finish, source]
  dsimp only [Media.modWriter]
  rw [gain]
  simp only [Writer.gained, current, Option.map_some, if_neg notHost]
  rfl

/-! ### A chunk's run failed (R119) -/

theorem Media.chunkFailed_of_first (first : p.rewrite = false) : m.chunkFailed env p = ({ m with writer := { m.writer with
      tables := some { d with map := d.map.set cur.segment ⟨.retiring, (mapAt d.map cur.segment).link⟩ }
      updates := addOnce m.writer.updates (mapSector cur.segment) } } : Media).allocateFor env i { p with rewrite := true } := by
  rw [Media.chunkFailed, if_neg (by rw [first]; exact Bool.false_ne_true), opens.openIndex_eq, current, opens.tables]
  dsimp only [Media.modWriter, Writer.changeSegment, Writer.modTables]
  rw [opens.tables]
  rfl
end

theorem Media.chunkFailed_of_second {m : Media} {p : WriteInProgress} (env : Env) (second : p.rewrite = true) :
    m.chunkFailed env p = m.enterCardFault env :=
  if_pos second

/-! ### CARD_FAULT (R120) -/

section
variable {w : Writer} {d : Tables} {i : Nat} {e : Clip}

/-- An entry that closes is CLOSED with its cause, and its other fields stay. -/
theorem Writer.closeEntry_clipAt (cause : CloseCause) (entry : w.clipAt i = some e) :
    (w.closeEntry i cause).1.clipAt i = some { e with state := .closed, cause := some cause, endStamp := some (w.endStamp e) } := by
  have changed : ∀ f : Clip → Clip, (w.changeEntry i f).clipAt i = some (f e) := fun f => by
    obtain ⟨d, tables, at_⟩ := Option.bind_eq_some_iff.mp entry
    rw [Writer.changeEntry_eq, tables]
    exact (Tables.clipAt_modClip_same ..).trans (congrArg (Option.map f) at_)
  rw [Writer.closeEntry, entry]
  dsimp only
  split
  · split
    · next tables _ =>
      rw [← changed fun c => { c with state := .closed, cause := some cause, endStamp := some (w.endStamp e) }]
      show Option.bind (Option.map _ _) _ = Option.bind _ _
      rw [tables]
      rfl
    · exact changed _
  · exact changed _

theorem Writer.closeEntry_state (w : Writer) (i : Nat) (cause : CloseCause) : (w.closeEntry i cause).1.state = w.state := by
  unfold Writer.closeEntry
  split
  · rfl
  · dsimp only
    split
    · split <;> rfl
    · rfl
end

/-- The writer as CARD_FAULT closes the entry and issues its last write. -/
def Writer.faultClosed (w : Writer) (i : Nat) : Writer :=
  { ((w.addDrops (hostCount w.admitted)).closeEntry i .cardFault).1 with
    updates := [], flight := some ⟨dirSector i, false, true, []⟩ }

section
variable {m : Media} (env : Env) {d : Tables} {i : Nat} {e : Clip}

theorem Media.faultEntry_writer (open_ : m.writer.openIndex = some i) :
    (m.faultEntry env).writer = m.writer.faultClosed i := by
  rw [Media.faultEntry, open_]
  dsimp only
  split <;> rfl

theorem Writer.faultClosed_state (w : Writer) (i : Nat) : (w.faultClosed i).state = w.state :=
  (Writer.closeEntry_state _ i .cardFault).trans (congrArg Prod.fst (w.addDrops_uncounted (hostCount w.admitted)))

/-- The entry of the open clip counts the chunks admitted as drops. -/
theorem Writer.faultClosed_entry {w : Writer} (opens : w.HasOpen d i e) : ∃ c : Clip, (w.faultClosed i).clipAt i = some c ∧
    c.state = .closed ∧ c.cause = some .cardFault ∧ c.drops = e.drops + hostCount w.admitted := by
  obtain ⟨t, c, opens, drops⟩ := Writer.addDrops_drops opens (hostCount w.admitted)
  exact ⟨_, Writer.closeEntry_clipAt .cardFault ((opens.clipAt_eq i).trans opens.entry), rfl, rfl, drops⟩

/-- A flush in CARD_FAULT returns its buffer. -/
theorem Media.flush_of_returns (returns : m.writer.returnsBuffers = true) : m.flush.writer = m.writer := by
  have same : m.flushedQueue = m.writer.queue := by
    unfold Media.flushedQueue
    split
    · exact if_pos (.inr returns)
    · rfl
  rw [Media.flush_writer, same]

/-- CARD_FAULT leaves the writer its entry's last write, and nothing of its work and its requests. -/
theorem Media.enterCardFault_writer (open_ : m.writer.openIndex = some i) : ∃ held,
    (m.enterCardFault env).writer = { ((m.writer.enter .cardFault).faultClosed i).clearClose with
      hostReset := false, parked := [], held := held, queue := [], wip := none, waiting := [], stopSlots := []
      readBack := none, job := none } := by
  have entered : ((m.enter .cardFault).modCard Card.withdrawAll).writer = m.writer.enter .cardFault := rfl
  have entry : (((m.enter .cardFault).modCard Card.withdrawAll).faultEntry env).writer = (m.writer.enter .cardFault).faultClosed i := by
    rw [Media.faultEntry_writer env (i := i) (by rw [entered]; exact open_), entered]
  have state : ((m.writer.enter .cardFault).faultClosed i).state = .cardFault := Writer.faultClosed_state _ i
  have returns : ((((((m.enter .cardFault).modCard Card.withdrawAll).faultEntry env).dropParked env .cardFailed).dropAdmitted env
      .cardFailed).writer.returnsBuffers) = true := by
    rw [Media.dropAdmitted_writer, Media.dropParked_writer, entry]
    exact decide_eq_true (.inl state)
  unfold Media.enterCardFault
  dsimp only
  rw [Media.modWriter_writer, Media.endJob_writer, Media.endReadBack_writer, Media.failWaiting_writer, Media.flush_of_returns returns,
    Media.dropAdmitted_writer, Media.dropParked_writer, entry]
  exact ⟨_, rfl⟩

theorem Media.enterCardFault_leaves (opens : m.writer.HasOpen d i e) :
    let x := m.enterCardFault env
    x.writer.state = .cardFault ∧ x.writer.queue = [] ∧ x.writer.wip = none ∧ x.writer.parked = [] ∧ x.writer.waiting = [] ∧
      x.writer.stopSlots = [] ∧ x.writer.readBack = none ∧ x.writer.closeCause = none ∧ x.writer.stopPending = none ∧
      x.writer.starvation = none ∧ x.writer.updates = [] ∧ x.writer.flight = some ⟨dirSector i, false, true, []⟩ ∧
      ∃ c : Clip, x.writer.clipAt i = some c ∧ c.state = .closed ∧ c.cause = some .cardFault ∧
        c.drops = e.drops + hostCount m.writer.admitted := by
  intro x
  obtain ⟨held, writer⟩ : ∃ held, x.writer = _ := Media.enterCardFault_writer env opens.openIndex_eq
  have still : (m.writer.enter .cardFault).HasOpen d i e := ⟨opens.mounted, opens.tables, opens.index, opens.entry⟩
  rw [writer]
  exact ⟨Writer.faultClosed_state _ i, rfl, rfl, rfl, rfl, rfl, rfl, rfl, rfl, rfl, rfl, rfl, Writer.faultClosed_entry still⟩
end
end Sys2Proof.Machine
end

section
/-! PROOFS. A rollover: the old clip closed, the next one opened, or the directory full (R122). -/

namespace Sys2Proof.Machine

/-! ### The close of the old clip -/

section
variable {w : Writer} {d : Tables} {i : Nat} {e : Clip}

/-- The writer with an entry closed and no segment in use. -/
def Writer.entryClosed (w : Writer) (t : Tables) (updates : List Nat) (i : Nat) : Writer :=
  { w with tables := some t, updates := updates, mirrorDirty := addOnce w.mirrorDirty i, current := none }

/-- The segment in use is FILLING. -/
def Writer.Fills (w : Writer) (d : Tables) (cur : CurrentSegment) : Prop :=
  w.current = some cur ∧ (mapAt d.map cur.segment).state = .filling

theorem Writer.closeEntry_of_fills {cur : CurrentSegment} (cause : CloseCause) (tables : w.tables = some d)
    (entry : d.clipAt i = some e) (fills : w.Fills d cur) : w.closeEntry i cause =
    (w.entryClosed { d.closed i cause (w.endStamp e) with
        map := d.map.set cur.segment ⟨.filled, (mapAt d.map cur.segment).link⟩ }
      (addOnce (addOnce w.updates (dirSector i)) (mapSector cur.segment)) i, [dirSector i, mapSector cur.segment]) :=
  Writer.closeEntry_of_filling tables entry cause fills.1 fills.2

theorem Writer.closeEntry_of_rests (cause : CloseCause) (tables : w.tables = some d) (entry : d.clipAt i = some e)
    (rests : ∀ cur, ¬w.Fills d cur) : w.closeEntry i cause =
    (w.entryClosed (d.closed i cause (w.endStamp e)) (addOnce w.updates (dirSector i)) i, [dirSector i]) := by
  cases current : w.current with
  | none =>
    rw [Writer.closeEntry_of_no_segment tables entry cause current, Writer.entryClosed, ← current]
  | some cur =>
    have clip : w.clipAt i = some e := by rw [Writer.clipAt, tables]; exact entry
    have other : ¬(mapAt d.map cur.segment).state = .filling := fun fills => rests cur ⟨current, fills⟩
    rw [Writer.closeEntry, clip]
    dsimp only
    rw [Writer.changeEntry_eq, tables, Option.map_some]
    dsimp only
    rw [current]
    dsimp only
    rw [if_neg other]
    rfl

/-- An entry that closes is closed in the tables, its segment FILLED only where it was FILLING. -/
theorem Writer.closeEntry_cases (cause : CloseCause) (tables : w.tables = some d) (entry : d.clipAt i = some e) :
    ∃ map updates sectors, w.closeEntry i cause =
        (w.entryClosed { d.closed i cause (w.endStamp e) with map := map } updates i, sectors) ∧
      ((∀ cur, ¬w.Fills d cur) → sectors = [dirSector i]) ∧
      ∀ cur, w.Fills d cur → sectors = [dirSector i, mapSector cur.segment] := by
  by_cases some : ∃ cur, w.Fills d cur
  · obtain ⟨cur, fills⟩ := some
    refine ⟨_, _, _, Writer.closeEntry_of_fills cause tables entry fills, fun rests => absurd fills (rests cur), fun other fills₂ => ?_⟩
    rw [Option.some.inj (fills.1.symm.trans fills₂.1)]
  · have rests : ∀ cur, ¬w.Fills d cur := not_exists.mp some
    exact ⟨d.map, _, _, Writer.closeEntry_of_rests cause tables entry rests, fun _ => rfl, fun cur fills => absurd fills (rests cur)⟩

/-- A closed entry is not an EMPTY one. -/
theorem Tables.emptyIndex_closed (d : Tables) (i : Nat) (cause : CloseCause) (stamp : Stamp) :
    (d.closed i cause stamp).emptyIndex = d.emptyIndex :=
  findIdx?_modify fun _ _ => Option.isNone_map

theorem Tables.clipAt_closed (entry : d.clipAt i = some e) (cause : CloseCause) (stamp : Stamp) :
    (d.closed i cause stamp).clipAt i = some { e with state := .closed, cause := some cause, endStamp := some stamp } :=
  (Tables.clipAt_modClip_same d i _).trans (congrArg (Option.map _) entry)
end

/-- The media blocks with the front of the queue taken and the old clip closed. -/
def Media.clipShut (m : Media) (rest : List Chunk) (t : Tables) (updates : List Nat) (i : Nat) : Media :=
  { m with writer := (m.frontTaken rest).writer.entryClosed t updates i }

/-! ### The next clip opens -/

section
variable {m : Media} (env : Env) {i j : Nat} {c : Chunk} {v : Writer} {t : Tables} {sectors : List Nat}
  (closed : m.writer.closeEntry i .rollover = (v, sectors)) (tables : v.tables = some t)
include closed tables

theorem Media.rollover_of_room (kind : c.kind ≠ .motion) (room : t.emptyIndex = some j) :
    m.rollover env i c = ({ m with writer := v.openAt j c.stamp } : Media).allocateFor env j ⟨c, .fetching, false, none, []⟩ := by
  have begun : (v.openAt j c.stamp).begun c = ⟨c, .fetching, false, none, []⟩ := by
    rw [Writer.begun, if_neg kind]
  have unfit : ¬(v.openAt j c.stamp).fits c = true := Writer.fits_of_none c rfl
  rw [Media.rollover, closed]
  dsimp only
  rw [Writer.open_of_empty c.stamp tables room]
  refine (Media.beginItem_eq (m := { m with writer := v.openAt j c.stamp }) env c).trans ((if_neg unfit).trans ?_)
  rw [begun]

theorem Media.rollover_of_full (full : t.emptyIndex = none) (kept : t.oldest = none) :
    m.rollover env i c = ({ m with writer := v } : Media).rolloverFull env i sectors c := by
  rw [Media.rollover, closed]
  dsimp only
  rw [Writer.open_of_full c.stamp tables full kept]
  rfl
end

/-! ### Held slots as chunks are finished with (R112) -/

theorem Chunk.mem_leftHeld {c : Chunk} {held : List HeldSlot} {h : HeldSlot} (mem : h ∈ c.leftHeld held) :
    h ∈ held ∧ c.heldSlot ≠ some h := by
  unfold Chunk.leftHeld at mem
  split at mem
  · next g slot =>
    obtain ⟨stays, other⟩ := List.mem_filter.mp mem
    exact ⟨stays, fun same => of_decide_eq_true other (Option.some.inj (same.symm.trans slot))⟩
  · next slot => exact ⟨mem, by rw [slot]; exact (Option.some_ne_none h).symm⟩

theorem Chunk.mem_foldl_leftHeld {cs : List Chunk} {held : List HeldSlot} {h : HeldSlot}
    (mem : h ∈ cs.foldl (fun held c => c.leftHeld held) held) : h ∈ held ∧ ∀ k ∈ cs, k.heldSlot ≠ some h := by
  induction cs generalizing held with
  | nil => exact ⟨mem, fun k absent => absurd absent List.not_mem_nil⟩
  | cons c cs ih =>
    obtain ⟨left, rest⟩ := ih mem
    obtain ⟨stays, other⟩ := Chunk.mem_leftHeld left
    refine ⟨stays, fun k member => ?_⟩
    rcases List.mem_cons.mp member with rfl | later
    · exact other
    · exact rest k later

section
variable {m : Media} (env : Env)

/-- A flush takes nothing from the queue. -/
theorem Media.mem_flushedQueue {k : Chunk} (mem : k ∈ m.writer.queue) : k ∈ m.flushedQueue := by
  unfold Media.flushedQueue
  split
  · split
    · exact mem
    · exact List.mem_append_left _ mem
  · exact mem

/-- A close that begins leaves the place, the waiting requests and the queue's chunks, and finishes with the parked ones. -/
theorem Media.closeBegin_keeps (cause : CloseCause) :
    let x := m.closeBegin env cause
    x.writer.current = m.writer.current ∧ x.writer.waiting = m.writer.waiting ∧
      (m.writer.state = .recording → x.writer.parked = []) ∧ (∀ k ∈ m.writer.queue, k ∈ x.writer.queue) ∧
      ∀ h ∈ x.writer.held, m.writer.state = .recording → ∀ k ∈ m.writer.parked, k.heldSlot ≠ some h := by
  intro x
  by_cases recording : m.writer.state = .recording
  · have begun : x = _ := Media.closeBegin_of_recording env cause recording
    have queue : ∀ k ∈ m.writer.queue, k ∈ ((((m.enter .closing).modWriter fun w =>
        { w with closeCause := some cause, stopPending := none, starvation := none }).dropParked env .refused)).flushedQueue :=
      fun k mem => Media.mem_flushedQueue (by rw [Media.dropParked_writer]; exact mem)
    rw [begun, Media.flush_writer, Media.dropParked_writer]
    exact ⟨rfl, rfl, fun _ => rfl, queue, fun h mem _ => (Chunk.mem_foldl_leftHeld mem).2⟩
  · have same : x = m := Media.closeBegin_of_not_recording env cause recording
    rw [same]
    exact ⟨rfl, rfl, fun h => absurd h recording, fun _ mem => mem, fun _ _ h => absurd h recording⟩

theorem Media.Receipted.closeBegin {held : List HeldSlot} (cause : CloseCause) (given : m.Receipted held .refused)
    (running : m.exch.state = .running) : (m.closeBegin env cause).Receipted held .refused := by
  by_cases recording : m.writer.state = .recording
  · have dropped := Media.Receipted.dropParked (m := (m.enter .closing).modWriter fun w =>
      { w with closeCause := some cause, stopPending := none, starvation := none }) env given running
    rw [Media.closeBegin_of_recording env cause recording, Media.Receipted, Media.flush_writer, Media.flush_exch]
    exact dropped
  · rw [Media.closeBegin_of_not_recording env cause recording]
    exact given
end

/-! ### The directory full -/

section
variable {m : Media} (env : Env) {i : Nat} {sectors : List Nat} {key : Chunk} {t : Tables} {e : Clip}

/-- The media blocks with the old clip's entry closed with FULL. -/
def Media.fullCause (m : Media) (i : Nat) : Media :=
  m.modWriter fun w => w.changeEntry i fun c => { c with cause := some .full }

/-- The media blocks with the chunks of a rollover that finds the directory full refused. -/
def Media.fullRefused (m : Media) (env : Env) (i : Nat) (key : Chunk) : Media :=
  (((m.fullCause i).closeBegin env .full).dropAdmitted env .refused).finish env .refused key

theorem Media.rolloverFull_eq : m.rolloverFull env i sectors key = (m.fullRefused env i key).modWriter fun w =>
    { w with closeCause := some .full, waiting := w.waiting ++ [⟨.close, sectors⟩] } := rfl

theorem Media.fullRefused_writer : ∃ held, (m.fullRefused env i key).writer =
      { ((m.fullCause i).closeBegin env .full).writer with queue := [], wip := none, held := held } ∧
    ∀ h ∈ held, key.heldSlot ≠ some h ∧ (∀ k ∈ ((m.fullCause i).closeBegin env .full).writer.admitted, k.heldSlot ≠ some h) ∧
      h ∈ ((m.fullCause i).closeBegin env .full).writer.held := by
  rw [Media.fullRefused, Media.finish_writer, Media.dropAdmitted_writer]
  refine ⟨_, rfl, fun h mem => ?_⟩
  obtain ⟨left, other⟩ := Chunk.mem_leftHeld mem
  obtain ⟨stays, others⟩ := Chunk.mem_foldl_leftHeld left
  exact ⟨other, others, stays⟩

/-- What a rollover that finds the directory full leaves of the writer. -/
theorem Media.rolloverFull_leaves (writes : m.writer.state.Writes) (tables : m.writer.tables = some t) (entry : t.clipAt i = some e) :
    let x := m.rolloverFull env i sectors key
    x.writer.state = .closing ∧ x.writer.closeCause = some .full ∧ x.writer.queue = [] ∧ x.writer.wip = none ∧
      x.writer.current = m.writer.current ∧ x.writer.clipAt i = some { e with cause := some .full } ∧
      x.writer.waiting = m.writer.waiting ++ [⟨.close, sectors⟩] ∧ (m.writer.state = .recording → x.writer.parked = []) := by
  intro x
  obtain ⟨held, refused, -⟩ := Media.fullRefused_writer (m := m) env (i := i) (key := key)
  obtain ⟨state, -, -, -, changed, -, -⟩ := Media.closeBegin_leaves (m := m.fullCause i) env .full writes
  obtain ⟨current, waiting, parked, -, -⟩ := Media.closeBegin_keeps (m := m.fullCause i) env .full
  have writer : x.writer = { (m.fullRefused env i key).writer with
    closeCause := some .full, waiting := (m.fullRefused env i key).writer.waiting ++ [⟨.close, sectors⟩] } := rfl
  have clip : x.writer.clipAt i = some { e with cause := some .full } := by
    have kept : x.writer.tables = (m.fullCause i).writer.tables := by rw [writer, refused]; exact changed
    rw [Writer.clipAt, kept, Media.fullCause, Media.modWriter_writer, Writer.changeEntry_eq, tables]
    exact (Tables.clipAt_modClip_same ..).trans (congrArg (Option.map _) entry)
  refine ⟨?_, rfl, ?_, ?_, ?_, clip, ?_, fun recording => ?_⟩
  all_goals rw [writer, refused]
  · exact state
  · exact current
  · exact congrArg (· ++ [_]) waiting
  · exact parked recording

/-- The key chunk, the queue's chunks and, from RECORDING, the parked ones are held no more. -/
theorem Media.rolloverFull_held {k : Chunk} {h : HeldSlot}
    (member : k ∈ key :: m.writer.queue ∨ (m.writer.state = .recording ∧ k ∈ m.writer.parked)) (slot : k.heldSlot = some h) :
    h ∉ (m.rolloverFull env i sectors key).writer.held := by
  obtain ⟨held, refused, gone⟩ := Media.fullRefused_writer (m := m) env (i := i) (key := key)
  obtain ⟨-, -, -, queue, parked⟩ := Media.closeBegin_keeps (m := m.fullCause i) env .full
  have same : (m.rolloverFull env i sectors key).writer.held = held := by
    show (m.fullRefused env i key).writer.held = held
    rw [refused]
  intro mem
  obtain ⟨notKey, notAdmitted, stays⟩ := gone h (same ▸ mem)
  rcases member with first | ⟨recording, parks⟩
  · rcases List.mem_cons.mp first with rfl | later
    · exact notKey slot
    · exact notAdmitted k (List.mem_append_right _ (queue k later)) slot
  · exact parked h stays recording k parks slot

/-- A held edition that is held no more has its receipt REFUSED. -/
theorem Media.rolloverFull_receipted {h : HeldSlot} (running : m.exch.state = .running) (held : h ∈ m.writer.held)
    (gone : h ∉ (m.rolloverFull env i sectors key).writer.held) :
    ∃ r ∈ (m.rolloverFull env i sectors key).exch.transfers, r.purpose = .record (receiptRecord h .refused) .head := by
  have start : (m.fullCause i).Receipted m.writer.held .refused := fun _ mem => .inl mem
  have closing := start.closeBegin env .full running
  have running₁ := ((m.fullCause i).closeBegin_extends env .full).state.trans running
  have admitted := closing.dropAdmitted env running₁
  have running₂ := (((m.fullCause i).closeBegin env .full).dropAdmitted_extends env .refused).state.trans running₁
  exact ((admitted.finish env running₂ key) h held).resolve_left gone
end
end Sys2Proof.Machine
end

section
/-! PROOFS. The write queue, from the front chunk to its run's end (R113 to R122). -/

namespace Sys2Proof.Machine

/-! ### A MOTION chunk at the front (R114) -/

section
variable {m : Media} (env : Env) {d : Tables} {i : Nat} {e : Clip} {cur : CurrentSegment} {c : Chunk} {rest : List Chunk}

/-- A chunk that fits has its place at once. -/
theorem Media.beginItem_of_fits (fits : m.writer.fits c = true) : m.beginItem env i c = m.placeChunk env (m.writer.begun c) :=
  (Media.beginItem_eq env c).trans (if_pos fits)

theorem Media.beginItem_of_unfit (unfit : ¬m.writer.fits c = true) :
    m.beginItem env i c = m.allocateFor env i (m.writer.begun c) :=
  (Media.beginItem_eq env c).trans (if_neg unfit)

/-- A MOTION chunk that fits is written from its buffer, with its ordinal. -/
theorem Media.beginItem_of_buffer {id : BufferId} (opens : m.writer.HasOpen d i e) (current : m.writer.current = some cur)
    (motion : c.kind = .motion) (source : c.source = .buffer id)
    (fits : cur.nextSector + chunkSectors c.length ≤ d.geometry.segmentSize) (usable : m.card.Usable) (warn : env.warn = false) :
    m.beginItem env i c = { m with
      writer := { m.writer with wip := some ⟨{ c with seq := m.writer.motionOrdinal }, .writing, false,
        some (motionPayload (m.steady.buffer id).records), []⟩ }
      card := { m.card with chunk := some (chunkRun d e cur { c with seq := m.writer.motionOrdinal }
        (motionPayload (m.steady.buffer id).records)) } } := by
  have begun : m.writer.begun c = ⟨{ c with seq := m.writer.motionOrdinal }, .fetching, false, none, []⟩ := by
    rw [Writer.begun, if_pos motion]
  rw [Media.beginItem_of_fits env ((Writer.fits_iff c opens.tables current).mpr fits), begun,
    Media.placeChunk_of_buffer env source, Media.handChunk_of_open env _ opens current usable warn]
end
end Sys2Proof.Machine

namespace Sys2Proof.Proofs
open Sys2Proof.Machine

/-- Settles O32, clause by clause: the fetch, the front of the queue, the allocation, the end of a run, a rollover and a MOTION chunk. -/
theorem payloadFetch : Obligations.PayloadFetch := by
  intro s n bytes t
  refine ⟨?_, exec_payloadFetchComplete_dropped bytes, ?_, fun d s free => Tables.firstFree_spec free, ?_, ?_, ?_, ?_⟩
  · intro p d i c cur purpose wip fetching mounted tables index entry current usable warn data image start claim
    have run : chunkRun d c cur p.chunk data = claim := by
      rw [chunkRun, slice_length]
      rfl
    rw [exec_payloadFetchComplete_live bytes purpose, Media.payloadRead_of_fetching (m := t.media) s.env bytes wip fetching,
      Media.handChunk_of_open (m := t.media) s.env data ⟨mounted, tables, index, entry⟩ current usable warn, run]
    rfl
  · intro m env d i c rest writes wip queue mounted tables index plain fits
    have open_ : m.writer.openIndex = some i := (Writer.openIndex_of_tables mounted tables).trans index
    rw [Media.startWrite_of_plain env writes wip queue open_ plain]
    refine ⟨fun cur slot edition address current fit host source => ?_, fun unfit => ?_⟩
    · have begun : (m.frontTaken rest).writer.begun c = ⟨c, .fetching, false, none, []⟩ := by
        rw [Writer.begun, if_neg host]
      rw [Media.beginItem_of_fits env ((Writer.fits_iff (w := (m.frontTaken rest).writer) c tables current).mpr fit), begun,
        Media.placeChunk_of_slot env rfl source]
      rfl
    · have unfits : ¬(m.frontTaken rest).writer.fits c = true := by
        cases current : m.writer.current with
        | none => exact Writer.fits_of_none c current
        | some cur => exact mt (Writer.fits_iff (w := (m.frontTaken rest).writer) c tables current).mp (unfit cur current)
      rw [Media.beginItem_of_unfit env unfits]
      rfl
  · intro m env d i c p tables entry w
    refine ⟨fun s free => ?_, fun full kept writes => ?_⟩
    · intro dir taken
      refine ⟨fun last => ?_, fun l last => ?_⟩
      · rw [Media.allocateFor_of_free env tables free, Writer.takeSegment_of_first tables entry last]
        rfl
      · rw [Media.allocateFor_of_free env tables free, Writer.takeSegment_of_next tables entry last]
        rfl
    · intro x
      have left : x = (m.allocating p).volumeFull env := Media.allocateFor_of_full env tables full kept
      obtain ⟨state, queue, wip, readBack, cause, drops⟩ :=
        Media.volumeFull_leaves (m := m.allocating p) (d := d) (i := i) (e := c) env writes
      rw [left]
      exact ⟨state, queue, wip, readBack, cause, fun mounted index => drops ⟨mounted, tables, index, entry⟩⟩
  · intro m env d i c cur p mounted tables index entry current w
    have opens : m.writer.HasOpen d i c := ⟨mounted, tables, index, entry⟩
    refine ⟨fun slot edition address completion host source held => ?_,
      Media.chunkFailed_of_first env opens current, Media.chunkFailed_of_second env, Media.enterCardFault_leaves env opens⟩
    rw [Media.chunkWritten_of_host env completion opens current host source held, Writer.gainChunk_of_host opens host]
    rfl
  · intro m env d i e c rest writes wip queue mounted tables index entry opensClip kind w stamp shut filling opened
    have open_ : m.writer.openIndex = some i := (Writer.openIndex_of_tables mounted tables).trans index
    have host : c.kind ≠ .motion := by rw [kind]; exact fun h => ChunkKind.noConfusion h
    have atRest (rests : ∀ cur, ¬filling cur) := Writer.closeEntry_of_rests (w := (m.frontTaken rest).writer) .rollover tables entry rests
    have inUse (cur : CurrentSegment) (fills : filling cur) :=
      Writer.closeEntry_of_fills (w := (m.frontTaken rest).writer) .rollover tables entry fills
    have emptyIndex : (d.closed i .rollover stamp).emptyIndex = d.emptyIndex := d.emptyIndex_closed ..
    rw [Media.startWrite_of_opens env writes wip queue open_ opensClip]
    refine ⟨fun j empty => ⟨fun rests => ?_, fun cur fills => ?_⟩, fun full kept => ?_⟩
    · rw [Media.rollover_of_room env (atRest rests) rfl host (emptyIndex.trans empty), Writer.openAt_of_tables j c.stamp rfl]
      rfl
    · rw [Media.rollover_of_room env (inUse cur fills) rfl host (emptyIndex.trans empty), Writer.openAt_of_tables j c.stamp rfl]
      rfl
    · obtain ⟨map, updates, sectors, closed, one, two⟩ :=
        Writer.closeEntry_cases (w := (m.frontTaken rest).writer) .rollover tables entry
      let before := m.clipShut rest { d.closed i .rollover stamp with map := map } updates i
      have found := Media.rollover_of_full env closed rfl (c := c) (emptyIndex.trans full) kept
      refine ⟨_, congrArg some found, ?_⟩
      obtain ⟨state, cause, queue, wip, current, clip, waiting, parked⟩ := Media.rolloverFull_leaves
        (m := before) env (sectors := sectors) (key := c) writes rfl (Tables.clipAt_closed entry .rollover stamp)
      refine ⟨state, cause, queue, wip, current, clip, fun rests => ?_, fun cur fills => ?_, parked, fun k h member slot => ?_⟩
      · exact waiting.trans (congrArg (fun l => w.waiting ++ [⟨.close, l⟩]) (one rests))
      · exact waiting.trans (congrArg (fun l => w.waiting ++ [⟨.close, l⟩]) (two cur fills))
      · have gone := Media.rolloverFull_held (m := before) env (i := i) (sectors := sectors) member slot
        exact ⟨gone, fun running held => Media.rolloverFull_receipted (m := before) env running held gone⟩
  · intro m env d i e c rest cur id mounted tables index entry current motion source w dir
    have opens : m.writer.HasOpen d i e := ⟨mounted, tables, index, entry⟩
    refine ⟨fun writes wip queue plain fits usable warn => ?_, fun p completion chunk => ?_⟩
    · intro payload image start claim
      have run : chunkRun d e cur { c with seq := w.motionOrdinal } payload = claim := by
        rw [chunkRun, motion]
        rfl
      rw [Media.startWrite_of_plain env writes wip queue opens.openIndex_eq plain,
        Media.beginItem_of_buffer (m := m.frontTaken rest) env ⟨mounted, tables, index, entry⟩ current motion source fits usable warn]
      exact congrArg (fun k => some ({ m with
        writer := { w with
          queue := rest, wip := some ⟨{ c with seq := w.motionOrdinal }, .writing, false, some payload, []⟩ }
        card := { m.card with chunk := some k } } : Media)) run
    · subst chunk
      rw [Media.chunkWritten_of_motion env completion opens current motion source, Writer.gainChunk_of_motion opens motion]
      rfl

end Sys2Proof.Proofs
end
